-- ==== Sys2Proof/Word.lean ====
section
/-!
DEFINITION. The word types of the SH524 model: registers are 32 bits wide (R11), bit fields are
little-endian (R9), and the units of the device are named as R17 names them.
-/
namespace Sys2Proof

/-- A register, as R11 gives its width. -/
abbrev Word := BitVec 32
/-- A byte. -/
abbrev Byte := BitVec 8
/-- An error code of R455: bits [15:8] the group, bits [7:0] the code within it. -/
abbrev Code := BitVec 16

/-- Bars B0 to B7 (R17). -/
abbrev BarIx := Fin 8
/-- Head ports HP0 to HP31 (R17). -/
abbrev PortIx := Fin 32
/-- Stripe-engine slots 0 to 7 of a bar (R179). -/
abbrev SlotIx := Fin 8
/-- Decompressor lanes DL00 to DL33 (R17). -/
abbrev LaneIx := Fin 34
/-- Rings 0 to 127; ring 0 is firmware's (R96). -/
abbrev RingIx := Fin 128
/-- Axes AX0 to AX7 (R17). -/
abbrev AxisIx := Fin 8
/-- Master encoders MENC0 and MENC1 (R17). -/
abbrev EncIx := Fin 2
/-- Cameras CAM0 to CAM3 (R17). -/
abbrev CamIx := Fin 4
/-- DMA channels DMA0 to DMA31 (R17). -/
abbrev DmaIx := Fin 32
/-- HBM channels 0 to 63 (R393). -/
abbrev ChanIx := Fin 64
/-- SRAM macro groups 0 to 255 (R405, R406). -/
abbrev GroupIx := Fin 256
/-- Ethernet ports ETH0 and ETH1. -/
abbrev EthIx := Fin 2

end Sys2Proof
end

