-- ==== Sys2Proof/Syntax.lean ====
section
/-!
DEFINITION. The commands of the SH524: one constructor of Instr per row of spec/opcode_table.json, in
the table's order, and the plain data their operands carry. An operand holds what the outside of the
device brings with the command (a written value, received bytes, a detector's finding); everything
the device decides itself is computed by the meaning from the state.
-/
namespace Sys2Proof

/-- A 64-byte submission entry of R107; byte 0 is the least significant byte. -/
abbrev Entry := BitVec 512
/-- A 32-byte DMA descriptor of R433; byte 0 is the least significant byte. -/
abbrev Descriptor := BitVec 256
/-- A 16-byte index-table entry of R437; byte 0 is the least significant byte. -/
abbrev IndexEntry := BitVec 128

/-- A function of R30 that can be stopped and restarted. -/
inductive FnRef where
  | port (p : PortIx) | bar (k : BarIx) | cam (c : CamIx) | axis (x : AxisIx) | timebase | engine
  deriving DecidableEq, Repr

/-- The causes of link loss that R125 lists. -/
inductive LinkCause where
  | dlDown | perst | hotReset | linkDisable | flr
  deriving DecidableEq, Repr

/-- A failed host-memory access of R126. `timeout` tells a completion timeout from the other failures. -/
inductive HostAccess where
  | entryFetch (r : RingIx) (addr : BitVec 64)
  | eventWrite (r : RingIx)
  | bulk (r : RingIx) (tag : BitVec 16) (timeout : Bool)
  | descriptor (ch : DmaIx) (timeout : Bool)
  deriving DecidableEq, Repr

/-- Where a due event waits: on a ring, or in the device queue of R115. -/
inductive EventTarget where
  | ring (r : RingIx) | async
  deriving DecidableEq, Repr

/-- A failure met while a slice is inflated that does not come from the container's bytes (R169):
the computed CRC differs by the mask, the lane fails the stream, or the two copies of a CRC unit disagree
(R453). -/
inductive SliceUpset where
  | crc (x : Word) | stream | unit
  deriving DecidableEq, Repr

/-- A check that fails while a row is computed: R207, R229. -/
inductive RowFault where
  | seResidue | retSeam | retResidue
  deriving DecidableEq, Repr

/-- What a module advertised at training and the round trip measured (R261, R263). -/
structure ModCaps where
  rowbuf : Nat
  stage  : Nat
  widths : BitVec 4
  corr   : BitVec 2
  nsens  : Nat
  rtt    : Nat
  deriving DecidableEq, Repr

/-- The regions of the SRAM allocation table R418, with the unit that owns the word where one does. -/
inductive SramRegion where
  | curves (k : BarIx) | maps (k : BarIx) | nozzleOut (k : BarIx) | trims (k : BarIx) (channel : Fin 65536)
  | thresholds (k : BarIx) | levelTable (p : PortIx)
  | edRows (k : BarIx) | checkpoints (k : BarIx)
  | portQueue (p : PortIx) | window (l : LaneIx) | cameraLines (c : CamIx) | taps (k : BarIx) (c : CamIx)
  | overlayFifo | cores | validMap | crcContexts | controller
  deriving DecidableEq, Repr

/-- What the decoder of R398 finds in an SRAM word (R399): no error, a corrected data symbol, a
corrected check symbol, or an uncorrectable word. -/
inductive EccFind where
  | clean | data | check | uncorrectable
  deriving DecidableEq, Repr

/-- A leaky bucket of R408. -/
inductive BucketRef where
  | hbm (c : ChanIx) | sram (g : GroupIx)
  deriving DecidableEq, Repr

/-- A Meridian slot of R309 or R314. -/
inductive SlotRef where
  | time (i : Fin 256) | pos (j : Fin 128)
  deriving DecidableEq, Repr

/-- A CSI-2 packet's header as the receiver sees it: the virtual channel and the data type (R345), and what its ECC found
(R361). -/
structure CsiHeader where
  vc        : BitVec 4
  dt        : BitVec 6
  corrected : Bool
  bad       : Bool
  deriving DecidableEq, Repr

/-- The outputs whose levels R466 reads back. -/
inductive CheckedPin where
  | reject | engineOk
  deriving DecidableEq, Repr

/-- The accesses of BAR0 and BAR2 that do nothing (R93, R94): a read of BAR0 of `len` bytes that is larger than two double
words or not naturally aligned, a write of BAR0 of that kind or with partial byte enables, any read of BAR2, and a write of
BAR2 outside the doorbells of rings 1 to 127. -/
inductive BadAccess where
  | bar0Read (len : Nat) | bar0Write | bar2Read (len : Nat) | bar2Write
  deriving DecidableEq, Repr

/-- The source of a patch that waits for room (R187). -/
inductive PatchSource where
  | ring (r : RingIx) | overlay
  deriving DecidableEq, Repr

/-- What a restart finds when it completes: the engines whose SRAM test fails (R193), and the bars whose staged tables read
uncorrectable when they are copied (R410). -/
structure RestartFinds where
  engines : List Nat
  tables  : List BarIx
  deriving DecidableEq, Repr

/-- The payload of an entry: what host memory held at ADDR0, and whether the CRC unit that checks it disagrees with its copy
(R453). -/
structure Payload where
  bytes     : List Byte
  unitFault : Bool
  deriving DecidableEq, Repr

/-- The double words of a write of BAR0: one, or two that follow one another (R93). -/
structure WriteData where
  first  : Word
  second : Option Word
  deriving DecidableEq, Repr

/-- A read of BAR0: its offset, and whether it takes two double words (R93). -/
structure ReadRequest where
  off : BitVec 26
  two : Bool
  deriving DecidableEq, Repr

/-- An accepted edge of a sheet input, and whether the two units' values of the anchor differ (R304). -/
structure FeedEdge where
  input    : Fin 2
  disagree : Bool
  deriving DecidableEq, Repr

/-- The fields of a CONFIG block that hold values (R258). -/
structure ConfigFields where
  port  : Byte
  width : Byte
  deriving DecidableEq, Repr

/-- A 66-bit block as the receive lane of a port delivers it, its synchronisation header lowest (R255). -/
structure RxBlock where
  port : PortIx
  line : BitVec 66
  deriving DecidableEq, Repr

/-- The levels of an encoder's two inputs after a transition. -/
structure QuadLevels where
  a : Bool
  b : Bool
  deriving DecidableEq, Repr

/-- An event message that leaves (R319): the fixed latency added, in ns; for a delay response the time, in units of 2 to the
-24 ns, at which the request came; and the frame's bytes as firmware gave them, without the frame check sequence. -/
structure PtpDeparture where
  latency : Nat
  request : Nat
  frame   : List Byte
  deriving DecidableEq, Repr

/-- What befalls a received line: whether its CRC matches (R361), and whether CAM0's line buffer is full when it comes
(R349). -/
structure LineFate where
  crcOk : Bool
  lost  : Bool
  deriving DecidableEq, Repr

/-- A record being written: its camera, and the cells whose sums read uncorrectable then (R392). -/
structure RecordWrite where
  cam      : CamIx
  lostSums : List (BarIx × Fin 8192)
  deriving DecidableEq, Repr

/-- Whether the flash slot a record is programmed into reads back well, and whether the slot after it does (R389). -/
structure SlotReads where
  first  : Bool
  second : Bool
  deriving DecidableEq, Repr

/-- The commands: one constructor per row of the table of operations and events. -/
inductive Instr where
  -- reset, clocks and boot
  | porstNAssert (suppliesUp : Bool)
  | porstNRelease
  | supplyMonitorTrip (rail : Fin 6)
  | refclkLoss
  | overtempWarning (sensor : Fin 8)
  | overtempStop (sensor : Fin 8)
  | overtempRecovered
  | sysrstNAssert (ns : Nat)
  | rstCtrlWarm (v : Word)
  | coreWatchdogExpiry (core : Fin 5)
  | mainPllLock
  | otpReadDone
  | meridianSeed
  | hbmTrainingDone
  | bootSlotVerifyDone (a b : List Byte) (bad : List (Fin 5))
  | bootAwaitHost
  | bootGo (v : Word)
  | hostImageVerifyDone (image : List Byte) (bad : List (Fin 5))
  | bootPortProbe (found : List (PortIx × ModCaps))
  | firmwareReady
  -- Sidereal
  | siderealPowerOnReset
  | siderealTick
  | sdrLoad (v : Word)
  | sdrArm (n : Fin 2) (v : Word)
  | sdrDisarm (n : Fin 2) (v : Word)
  | sdrSubRead
  | comparatorSample (n : Fin 4) (level : Nat)
  -- host interface and rings
  | linkLoss (cause : LinkCause)
  | linkReturn
  | sqDoorbell (r : RingIx) (v : Word)
  | eqDoorbell (r : RingIx) (v : Word)
  | ringEnable (r : RingIx) (v : Word)
  | ringDisable (r : RingIx) (v : Word)
  | ringDrainComplete (r : RingIx)
  | entryFetch (entries : List Entry)
  | hostAccessFail (a : HostAccess)
  -- ring entries
  | nop (r : RingIx)
  | bandWrite (r : RingIx)
  | bandGather (r : RingIx) (table : List IndexEntry)
  | jobOpen (r : RingIx)
  | jobClose (r : RingIx)
  | sheet (r : RingIx)
  | functionStop (r : RingIx)
  | functionRestart (r : RingIx)
  | functionGapEffect (f : FnRef)
  | functionStopComplete (f : FnRef)
  | functionRestartComplete (f : FnRef) (finds : RestartFinds)
  | tableLoad (r : RingIx) (payload : Payload)
  | overlayPatch (r : RingIx) (payload : Payload)
  | spoolRead (r : RingIx)
  | compress (r : RingIx) (input : List Byte) (chain : List (BitVec 128))
  | compressLaneDone (lane : Fin 4)
  | version (r : RingIx)
  | ledgerClear (r : RingIx)
  | ledgerRead (r : RingIx)
  | healthSnapshot (r : RingIx)
  | serviceState (r : RingIx)
  | rollbackCommit (r : RingIx)
  | echo (r : RingIx)
  | eventPost (t : EventTarget)
  | msixModerationTimeout (r : RingIx)
  | msixUnmask (vector : Fin 128)
  | hifHb (v : Word)
  | heartbeatTimeout
  -- BAR accesses
  | bar4Read (addr : BitVec 32) (len : Nat)
  | bar4Write (addr : BitVec 32) (data : List Byte)
  | barBadAccess (a : BadAccess)
  | registerWrite (off : BitVec 26) (data : WriteData)
  | snapshotLoRead (read : ReadRequest)
  | merTimeFracRead
  | ethBtCntRead (p : EthIx)
  | lpsWrite (v : Word)
  -- spool landing
  | spoolReservation
  | containerLanded (pos : Nat) (host : List Byte)
  -- press edges
  | sheetEdge (edge : FeedEdge)
  | pressRunChange (level : Bool)
  -- fetch and expansion
  | bandFetchRequest (k : BarIx)
  | laneGrant
  | sliceEnd (lane : LaneIx) (upset : Option SliceUpset)
  -- spool controller
  | spoolRequestServe (c : ChanIx) (upset : List (Fin 72 × Byte))
  | hbmScrubRead (c : ChanIx) (upset : List (Fin 72 × Byte)) (writeSince : Bool)
  | sramScrubRead (g : GroupIx) (region : SramRegion) (find : EccFind) (writeSince : Bool)
  | bucketLeak (b : BucketRef)
  | selfRefreshEntry (c : ChanIx)
  | scrubWake (c : ChanIx)
  | caParityAlert (c : ChanIx) (failures : Fin 4)
  | flipArm (v : Word)
  -- rows
  | rowCompute (k : BarIx) (m : SlotIx) (fault : Option RowFault)
  | trimEpochBoundary (k : BarIx)
  | trimTargetCommit (k : BarIx) (epoch : Nat)
  | calBatch (k : BarIx)
  | patchAccept (src : PatchSource)
  | rowWrite (k : BarIx)
  | rowTransmit (p : PortIx) (badWord : Bool)
  | rowReplay (p : PortIx) (badWord : Bool)
  | rowFrameEnd (p : PortIx)
  | respRx (p : PortIx) (row : BitVec 40) (code : Byte)
  | ackTimeout (p : PortIx) (row : Nat)
  | deliveryDeadline (k : BarIx) (row : Nat)
  | ackDeadline (p : PortIx) (row : Nat)
  -- strobes and the emergency stop
  | fireCommit (p : PortIx)
  | strobeLeadingEdge (p : PortIx)
  | strobeTrailingEdge (p : PortIx)
  | strobeWatchdogTrip (p : PortIx)
  | estopAssert
  | estopRelease
  | estopHoldoffExpiry
  -- Abbor link
  | trainT0Elapsed (p : PortIx)
  | trainRx (p : PortIx) (inverted : Bool) (step sub : Fin 16) (data : Word)
  | trainTimeout (p : PortIx)
  | pongRx (p : PortIx) (seq : BitVec 16) (trip : Nat)
  | configEchoRx (p : PortIx) (fields : ConfigFields) (reserved : Word)
  | configEchoTimeout (p : PortIx)
  | heartbeatTx (p : PortIx)
  | moduleHeartbeatRx (p : PortIx) (modState : Byte) (strobes seq : BitVec 16) (free : Byte)
  | moduleHeartbeatLoss (p : PortIx)
  | rxBlockLockLoss (p : PortIx)
  | rxBlockLockAcquire (p : PortIx)
  | linkFaultRx (p : PortIx) (cause : Byte)
  | invalidBlockRx (block : RxBlock)
  | alignRx (p : PortIx) (bip : Byte) (carried : List (BitVec 64))
  | alignTx (p : PortIx)
  | tempRx (p : PortIx) (sensor : Fin 15) (temp : BitVec 16)
  | tempStale (p : PortIx) (sensor : Fin 15)
  | nozzleRx (p : PortIx) (reports : BitVec 48)
  | refreshTx (p : PortIx)
  | refreshRx (p : PortIx)
  | adaptationFreeze (p : PortIx)
  | adaptationResume (p : PortIx)
  | portFaultBurstEnd (p : PortIx)
  | eyeScanStart (p : PortIx) (v : Word)
  | eyeScanDone (p : PortIx) (errors : Nat)
  -- Heliostat
  | encoderTransition (m : EncIx) (levels : QuadLevels) (disagree : Bool)
  | encoderZEdge (m : EncIx)
  | encoderIdleTimeout (m : EncIx)
  | estimatorRecord (m : EncIx) (disagree : Bool)
  | estimatorHistoryClear (m : EncIx)
  | feedStart
  | feedComplete
  -- Meridian
  | timeSlotDue (i : Fin 256) (disagree : Bool)
  | outputPulseEnd (o : Fin 40)
  | predictedSlotDue (j : Fin 128)
  | dispatchIssue
  | slotArm (slot : SlotRef) (v : Word)
  | slotDisarm (slot : SlotRef) (v : Word)
  | merIncWrite (v : Word)
  | gpioCaptureEdge (second : Bool) (rising : Bool)
  | ptpEventRx (p : EthIx) (latency len : Nat)
  | ptpEventTx (p : EthIx) (sent : PtpDeparture)
  | ptpOffsetSample (offset : Int)
  | announceLoss
  | ptpMasterChange
  | ptpResume (v : Word)
  -- motion axes
  | moveAbs (x : AxisIx)
  | moveRel (x : AxisIx)
  | jog (x : AxisIx)
  | gear (x : AxisIx)
  | stop (x : AxisIx)
  | resume (x : AxisIx)
  | home (x : AxisIx)
  | setPos (x : AxisIx)
  | quickStop (x : AxisIx)
  | clear (x : AxisIx)
  | queueMove (x : AxisIx) (v : Word)
  | axisAtRest (x : AxisIx)
  | axisEncoderTransition (x : AxisIx) (a b : Bool)
  | axisEncoderZEdge (x : AxisIx)
  | stallDetect (x : AxisIx)
  | switchChange (x : AxisIx) (sw : Fin 3) (level : Bool) (held : Nat)
  -- Eyepiece
  | csiFrameStart (c : CamIx) (h : CsiHeader)
  | csiLine (c : CamIx) (h : CsiHeader) (pixels : List (BitVec 16)) (fate : LineFate)
  | csiFrameEnd (c : CamIx) (h : CsiHeader)
  | memorySliceProcess
  | recordWritten (record : RecordWrite)
  | cameraNoFsTimeout (c : CamIx)
  | psetCommit (c : CamIx) (v : Word)
  | cciHostTransfer (c : CamIx) (v : Word)
  | cciTransferDone (c : CamIx) (acked : Bool) (data : Byte)
  | ffDataWrite (c : CamIx) (v : Word)
  -- Occulter and the ledger
  | occStart (v : Word)
  | occAbort (v : Word)
  | occGateEdge (g : Fin 2) (rising : Bool)
  | occWindowEnd
  | ledgerAppend (hung : Bool) (reads : SlotReads)
  -- Ethernet
  | btDataRx (p : EthIx) (source : BitVec 144) (msg : List Byte)
  | btGapTimeout (job : BitVec 16) (plane : Fin 16) (band : BitVec 32)
  | firmwareFrameRx (p : EthIx) (withinRate : Bool) (len : Nat)
  | ethLinkLoss (p : EthIx)
  | ethLinkUp (p : EthIx)
  -- DMA engine
  | dmaGo (ch : DmaIx) (v : Word)
  | dmaReady (ch : DmaIx) (v : Word)
  | dmaAbort (ch : DmaIx) (v : Word)
  | dmaClear (ch : DmaIx) (v : Word)
  | descriptorFetch (ch : DmaIx) (d : Descriptor) (table : List IndexEntry)
  | dmaBeat (host : List Byte)
  | dmaChainDone (ch : DmaIx)
  -- overlay port
  | overlayInputWord (d : BitVec 16) (soi mismatch : Bool)
  | overlayItemRead (mismatch : Bool)
  | ovlFlush (v : Word)
  | ovlFlushDone
  -- integrity pins and counters
  | rejectPulseEnd
  | pinCheckFault (pin : CheckedPin)
  | pmcCounterWrap (n : Fin 64)
  | pmcSampleTaken (n : Fin 64) (offset : Word) (task : BitVec 16) (skid : Fin 33)
  | bwWindowEnd (m : Fin 16)
  -- rows added at the end of the table
  | sysrstNRelease
  | warmResetEnd
  | refclkReturn
  | supplyRecovered
  | mainRailsOff
  | announceRx
  | sheetEdgeCapture (input : Fin 2)
  | nozzleStopHoldoffExpiry (k : BarIx)
  deriving DecidableEq, Repr

end Sys2Proof
end

