-- ==== Sys2Proof/Decode.lean ====
section
/-!
DEFINITION. The table of operations and events gives its rows no bits: no word spells a command.
-/
namespace Sys2Proof

/-- The command that a word spells by the table's bits: none, for no row of the table has any. -/
def decodeTableWord (_nbits _w : Nat) : Option Instr := none

end Sys2Proof
end

