-- ==== Sys2Proof/Config.lean ====
section
/-!
DEFINITION. What the spec leaves open: constants with no body, so that nothing in Lean can evaluate
them or prove a value of them. Each is named in the assumption log.
-/
namespace Sys2Proof.Config

/-- The n-th free choice between two outcomes that the spec both allows (R78, R85). -/
opaque freeBool : Nat → Bool
/-- The n-th free number: a result that the spec leaves undefined or unstated. -/
opaque freeNat : Nat → Nat
/-- What a spool read returns for a block whose error pattern has seven or more symbols (R397). -/
opaque freeBlock : Nat → List Byte

/-- The bank that holds a row of a channel: a fixed hash that software cannot see (R395). -/
opaque bankOf : Nat → Nat

/-- What the rounding of the floating-point unit of R293, of 53 or more significand bits, adds to an exact result, in
units of 2^-52 of it; the model takes it within -1 to 1. -/
opaque freeRounding : Rat → Rat

/-- The latency through synchroniser and filter of the inputs of R317, by MER_CAPk, in ticks: fixed, not stated. -/
opaque captureLatency : Nat → Nat

/-- SHA-384, which R485 and R486 name and do not restate. -/
opaque sha384 : List Byte → List Byte
/-- ECDSA P-384 verification with SHA-384 as FIPS 186-5 defines it (R486): public key, signed bytes, signature. -/
opaque ecdsaValid : List Byte → List Byte → List Byte → Bool

/-- The hash of a compressor lane over three input bytes (R174): its low 15 bits count; the function is not given. -/
opaque cmpHash : Nat → Nat
/-- What a compressor lane does at a position of an input under a LEVEL (R174): it takes a probe of the chain and a length, or
none of them; how it chooses is not stated. -/
opaque cmpPick : List Byte → Nat → Nat → Option (Nat × Nat)
/-- The bits of a dynamic block's header after BTYPE, by input, LEVEL and block (R175): how its codes are formed is not
stated. -/
opaque cmpHeader : List Byte → Nat → Nat → List Bool

/-- How many bytes of its output a lane has emitted when it consumes the last byte of the input (R177). -/
opaque deflateEarly : List Byte → Nat → Bool → Nat

/-- The bytes of a HEALTH_SNAPSHOT before compression (R483): their layout is not stated. -/
opaque snapshotBytes : Nat → List Byte

/-- Which of the two middle slopes, or what between them, is the median of an even number (R374). -/
opaque evenMedian : Rat → Rat → Rat

/-- The servo's frequency estimate (R321), as the INC that it stands for, from the estimate before, the present INC and an
accepted sample: how the servo forms it is not stated. -/
opaque servoEstimate : Nat → Nat → Int → Nat
/-- The INC that the servo of R321 asks for from the present INC and an accepted sample. -/
opaque servoInc : Nat → Int → Nat

/-- What a staged table holds after a BAR4 write into the staging area, whose arrangement R189 leaves
undefined: the n-th free table, and the table before. -/
opaque stagedTable : Nat → List (Nat × Nat) → List (Nat × Nat)

end Sys2Proof.Config
end

