-- ==== Sys2Proof/WellFormed.lean ====
section
/-!
DEFINITION. Which commands the events of the manual spell: the operands whose types are wider than the ranges that the manual
gives. A meaning answers for every command, also for one that no event of the manual spells: none of them faults.
-/
namespace Sys2Proof

/-- R397: the symbols that an upset strikes are distinct, and their patterns are not 0. -/
def wfUpset (u : List (Fin 72 × Byte)) : Bool :=
  u.all (fun q => decide (q.2 ≠ 0)) && decide ((u.map (·.1)).Nodup)

/-- R261, R263: a module's advertised values fit the fields of ABR_PORTn_CAPS and RTT. -/
def wfCaps (c : ModCaps) : Bool :=
  decide (c.rowbuf < 4096) && decide (c.stage < 256) && decide (c.nsens < 16) && decide (c.rtt < 65536)

/-- The command's operands lie within the ranges that the manual gives them. -/
def Instr.wf : Instr → Bool
  | .bootPortProbe found => found.all fun q => wfCaps q.2
  | .comparatorSample _ level => decide (level < 32768)
  | .bar4Read addr len => decide (1 ≤ len) && decide (addr.toNat + len ≤ 2 ^ 32)
  | .bar4Write addr data => decide (1 ≤ data.length) && decide (addr.toNat + data.length ≤ 2 ^ 32)
  | .compress _ _ chain => decide (chain.length ≤ 256)
  | .spoolRequestServe _ upset => wfUpset upset
  | .hbmScrubRead _ upset _ => wfUpset upset
  | _ => true

end Sys2Proof
end

