-- ==== Sys2Proof/Machine/State.lean ====
section
/-!
DEFINITION. The state of the SH524 as plain data: every register, queue, counter, pin and engine the
spec gives the device, grouped by chapter, the queue of waiting commands, and State.reset.

Set-up registers with stored fields (access RW and SH of R12) live in ONE place, `cfg`, keyed by BAR0
offset; a register with no entry reads as its reset value (Machine/RegMap.lean). Fields that the
hardware drives (RO, W1C) are the fields of the structures below.
-/
namespace Sys2Proof.Machine

/-- A sparse table: keys strictly ascending, no entry equal to what an unlisted key reads as. -/
abbrev Table (α : Type) := List (Nat × α)

/-! ## Outcomes that are no next state -/

/-- The reasons a step can stop with a fault: none. Every operand of a command has the width that the spec gives it, and
every command has an effect in every state. -/
inductive Fault where
  deriving DecidableEq, Repr

/-- The reasons a step can be refused. -/
inductive Refusal where
  /-- Raised by exec's arm of a command that has no meaning yet. Safe: nothing is claimed of it. -/
  | notModelled (mnemonic : String)
  deriving DecidableEq, Repr

/-! ## Errors and events (R37, R112, R455) -/

/-- The error classes of R37; `none` is the class "—" of R455. -/
inductive Cls where
  | none | c | p | s | d
  deriving DecidableEq, Repr

/-- The event types of R112. -/
inductive EvType where
  | completion | error | configRefused | status | sample | sheet | lost
  deriving DecidableEq, Repr

/-- An event that has fallen due (R112); SQ_HEAD and PHASE are filled in when it is written. `time` is
Meridian time in units of 2^-24 ns. -/
structure Event where
  code  : Code
  typ   : EvType
  ring  : RingIx
  tag   : BitVec 16
  info0 : BitVec 64
  time  : Nat
  info1 : BitVec 48
  src   : Byte
  cls   : Cls
  mark  : Option Nat := none  -- R141: of a SHEET event, the rewind mark, judged when the event is written
  deriving DecidableEq, Repr

/-- What firmware is handed by the hardware (R276, R310, R319, R422, R429). -/
inductive FwMsg where
  | slotSignal (arg : BitVec 16)
  | nozzle (p : PortIx) (nozzle state : Nat)
  | frame (p : EthIx)
  | ptpStamp (p : EthIx) (ingress : Bool) (time : Nat)
  deriving DecidableEq, Repr

/-- What leaves the device, in the order in which it leaves. -/
inductive Output where
  /-- The 32-byte memory write of an event entry: Relaxed Ordering and No-Snoop are clear (R113, R117). -/
  | eventWrite (r : RingIx) (index : Nat) (bytes : BitVec 256)
  /-- A read of `len` bytes of host memory, with or without No-Snoop (R117). -/
  | hostRead (addr len : Nat) (noSnoop : Bool)
  /-- An MSI-X message (R122). -/
  | msix (vector : Nat)
  /-- The completion data of a BAR0 read. -/
  | readReply (v : Word)
  /-- The completion data of a read of BAR2 or BAR4, or of more than one double word of BAR0 (R93 to R95). -/
  | dataReply (b : List Byte)
  /-- A BAR4 read completed with a poisoned TLP (R95). -/
  | poisonedReply
  /-- A write of bulk data into host memory (R120, R436), with or without No-Snoop (R117) and Relaxed Ordering (R116). -/
  | hostWrite (addr : Nat) (b : List Byte) (noSnoop relaxed : Bool)
  /-- A block on a physical lane of a port (R255): its 66 bits as they are sent, bit 0 first. -/
  | laneBlock (p : PortIx) (lane : Fin 3) (line : BitVec 66)
  /-- A port's TX lanes go to electrical idle (R78, R273). -/
  | lanesIdle (p : PortIx)
  /-- A band-transport message (R426, R427) to the recorded source. -/
  | ethMessage (p : EthIx) (dest : Nat) (b : List Byte)
  /-- A frame that leaves an Ethernet port, from destination address to FCS (R319). -/
  | frame (p : EthIx) (b : List Byte)
  /-- An I²C transfer begun on a camera's CCI bus (R359). -/
  | cci (c : CamIx) (read : Bool) (device : Nat) (reg : Nat) (data : Byte)
  /-- XSPI_RESET_n moves to a level (R60). -/
  | xspiReset (high : Bool)
  /-- A message for the signed firmware. -/
  | firmware (m : FwMsg)
  deriving DecidableEq, Repr

/-! ## System, reset and boot (R77 to R80, R478 to R489) -/

/-- What holds the device in reset. -/
inductive Hold where
  | porst | supply | refclk | overtemp | sysrst | warm
  deriving DecidableEq, Repr

/-- The cause that RST_CAUSE records (R80). -/
inductive ResetCause where
  | powerOn | supply | refclk | overtemp | porst | sysrst | host | wdog
  deriving DecidableEq, Repr

/-- The state of a control core in CC_STATUS (R481). -/
inductive CoreState where
  | active | spare | outOfService | failedTest
  deriving DecidableEq, Repr

structure Sys where
  held      : List Hold            -- R77 to R79: what holds the device in reset; none when it is out of reset
  cause     : ResetCause           -- RST_CAUSE [8:1]
  rstTick   : Nat                  -- R80: one more than the tick in which the last reset began; 0 none
  rail      : Nat                  -- RST_CAUSE.RAIL
  warmCount : Nat                  -- RST_CAUSE.WARM_COUNT
  mainRails : Bool                 -- R81
  pll       : Bool                 -- R70: main PLL locked
  otpRead   : Bool                 -- R79
  seeded    : Bool                 -- R89: Meridian seeded since the reset
  hbm       : Bool                 -- R79: HBM trained or restored
  xspiHigh  : Bool                 -- R60: level of XSPI_RESET_n
  stage     : Nat                  -- BOOT_STATUS.STAGE
  src       : Nat                  -- BOOT_STATUS.SRC
  imgSvn    : Nat                  -- BOOT_STATUS.SVN
  imgVer    : Nat                  -- VERSION of the running image (R485)
  bootErr   : Code                 -- BOOT_STATUS.ERR
  bootErrs  : List Code            -- R488: failures to post once a ring can carry them
  probed    : Bool                 -- R510: head ports trained at boot
  fwReady   : Bool                 -- R79: firmware has reported ready
  keyHash   : Vector (List Byte) 4 -- OTP key hashes (R486)
  revoked   : BitVec 4             -- OTP revocation bits
  fuses     : Nat                  -- OTP rollback counter
  gradeE    : Bool                 -- SYS_ID.GRADE from OTP
  mac       : Vector (BitVec 48) 2 -- OTP MAC addresses (R421)
  cores     : Vector CoreState 5   -- CC_STATUS.STATE
  wdogCount : Nat                  -- CC_STATUS.WDOG_COUNT
  wdogCore  : Nat                  -- CC_STATUS.WDOG_CORE
  wdogPer   : Vector Nat 5         -- R480: expiries per core since cold reset
  svc       : Nat                  -- CMP_STATUS.SVC (R484)
  lpCur     : Nat                  -- SYS_POWER.CUR (R155)
  deriving DecidableEq, Repr

/-! ## Sidereal (R81 to R88) -/

structure Sidereal where
  sec      : Nat            -- 48-bit seconds
  sub      : Nat            -- 15-bit subseconds
  secCopy  : Nat            -- R83: SDR_SEC_LO, _HI
  busy     : Bool           -- SDR_CTRL.BUSY
  armed    : Vector Bool 2  -- SDR_CTRL.ARMEDn
  alarm    : Vector Bool 2  -- SDR_STATUS.ALARM
  event    : Vector Bool 4  -- SDR_STATUS.EVENT
  high     : Vector Bool 4  -- R85: comparator outputs
  stamp    : Vector Nat 4   -- SDR_CMPn_TS
  timeLost : Bool           -- SDR_STATUS.TIME_LOST
  deriving DecidableEq, Repr

/-! ## Host interface (R91 to R126) -/

/-- STATE of HIF_RINGn_STATUS (R100). -/
inductive RingState where
  | disabled | active | draining | halted
  deriving DecidableEq, Repr

/-- A ring context. Positions run from 0 to 2S - 1 (R102). -/
structure Ring where
  state    : RingState
  cause    : Nat            -- HALT_CAUSE
  sqHead   : Nat
  sqTail   : Nat
  eqHead   : Nat
  eqTail   : Nat
  bells    : List (Nat × Nat) -- R106: doorbells not wholly fetched, oldest first: the tail each wrote, and its tick
  held     : Bool           -- R114: the entry at the head was read, and waits for room in the event ring
  fetched  : List (Entry × Nat)  -- fetched, not started, with their positions
  running  : List (Entry × Nat)  -- started, not completed
  due      : List Event     -- completed entries' events waiting for a slot (R114)
  unsig    : Nat            -- R122: events written since the last message
  lostHalt : Bool           -- R512: halted with cause 4 or 5 since last enabled
  deriving DecidableEq, Repr

/-- HIF_HB_CFG.STATE (R123). -/
inductive HbState where
  | idle | armed | expired
  deriving DecidableEq, Repr

/-- What the host has set in the configuration space of the endpoint (R91, R121): Max Payload Size and Max Read Request
Size in bytes, MSI-X Enable and Function Mask, and the power state D3hot. -/
structure PcieCfg where
  maxPayload : Nat
  maxRead    : Nat
  msixEnable : Bool
  funcMask   : Bool
  d3hot      : Bool
  deriving DecidableEq, Repr

structure Hif where
  rings      : Vector Ring 128
  async      : List Event       -- the 256-entry device queue of R115
  lost       : Nat              -- R115: losses not yet reported by a LOST event
  lostCls    : Cls
  badAccess  : Nat              -- HIF_BAD_ACCESS
  lostEvents : Nat              -- HIF_LOST_EVENTS
  faultAddr  : Nat              -- HIF_FAULT_ADDR
  hb         : HbState
  linkUp     : Bool             -- R125
  pcie       : PcieCfg
  fetchPtr   : Nat              -- R27: rotating pointer of the entry-fetch arbiter
  pba        : Vector Bool 128  -- R121: MSI-X pending bits
  hiCopy     : Table Word       -- R133: holding copies, by offset of the HI register
  refused    : Nat              -- R31: refused writes counted
  bar4       : List (Nat × List Byte)  -- R155: BAR4 writes that wait for L0: usable address and bytes
  deriving DecidableEq, Repr

/-! ## Functions (R30 to R33, R149, R150) -/

structure Fn where
  running : Bool
  own     : Bool          -- R32: stopped on its own
  busy    : Bool          -- a restart of it is in progress
  gen     : BitVec 16     -- R20, R30: configuration generation
  deriving DecidableEq, Repr

/-- A FUNCTION entry that has not completed. -/
structure FnReq where
  ref     : FnRef
  restart : Bool
  ring    : RingIx
  entry   : Entry
  gapAt   : Option (BitVec 32)  -- waits for the gap after this sheet (R150)
  set     : List FnRef          -- the functions it stops or restarts
  ledger  : Bool                -- a restart that waits for firmware's record of a swap (R36)
  deriving DecidableEq, Repr

structure Fns where
  port : Vector Fn 32
  bar  : Vector Fn 8
  cam  : Vector Fn 4
  axis : Vector Fn 8
  tb   : Fn
  eng  : Fn
  reqs : List FnReq
  deriving DecidableEq, Repr

/-! ## Jobs, bands and sheets (R127 to R147) -/

structure Job where
  id       : Nat
  planeMap : Vector Byte 16
  deriving DecidableEq, Repr

/-- A band's identifier (R129). -/
structure BandKey where
  job   : Nat
  plane : Nat
  band  : Nat
  deriving DecidableEq, Repr

/-- A published band: the band directory's entry (R130). -/
structure Band where
  key      : BandKey
  pos      : Nat          -- spool position, in 64-byte units
  len      : Nat          -- CONTAINER_LEN
  rows     : Nat          -- ROW_COUNT
  format   : Byte         -- FORMAT (R157)
  sliceLen : List Nat
  sliceCrc : List Word
  bad      : Bool         -- R169
  used     : Bool         -- R135: a finished sheet has used it
  tile     : Bool         -- R438: in its job's tile store
  deriving DecidableEq, Repr

/-- Where a landing container comes from. -/
inductive LandSource where
  | entry (r : RingIx) (e : Entry)
  | gather (r : RingIx) (e : Entry) (table : List IndexEntry)
  | transport
  deriving DecidableEq, Repr

/-- What a reserved run of the spool ring holds (R134, R136). -/
inductive SpanUse where
  | landing (src : LandSource) | band (key : BandKey) | dead
  deriving DecidableEq, Repr

structure Span where
  pos   : Nat
  units : Nat
  use   : SpanUse
  deriving DecidableEq, Repr

/-- A container reservation that waits for space (R134). -/
structure WaitingLand where
  src : LandSource    -- the entry has not started; a gather's table is what host memory held when it was offered
  len : Nat
  deriving DecidableEq, Repr

/-- A queued sheet (R138, R139). -/
structure Sheet where
  id        : BitVec 32
  phase     : BitVec 32        -- R213: the original's ID in a chain of reprints
  job       : Nat
  planeMap  : Vector Byte 16
  mask      : BitVec 16
  rows      : Nat
  firstBand : Nat
  firstRow  : Nat
  ring      : RingIx
  tag       : BitVec 16
  computed  : Vector Nat 8     -- rows computed, per bar
  fired     : Vector Nat 8     -- rows fired or passed, per bar
  cls       : Cls              -- R39
  code      : Code             -- R141: code of the first class S or D error
  codeRow   : Nat
  codeTick  : Nat
  seen      : List (Code × Byte)  -- R458: code and unit already posted
  anchored  : Bool
  started   : Bool             -- a bar has fired a row of it
  jobOpen   : Bool             -- its job has not been closed since it was queued
  reached   : Vector Nat 8     -- R370: rows that a bar has computed at least once
  deriving DecidableEq, Repr

/-- The record of a finished sheet (R140). -/
structure SheetRecord where
  sheet  : Sheet
  mark   : Option Nat -- R137: rewind mark; none when a band was not there
  jobUid : Bool       -- false once its job has been closed
  deriving DecidableEq, Repr

/-- An anchor on the substrate (R145, R461): of a queued sheet, or a physical sheet without one. -/
structure Anchor where
  sheet   : Option (BitVec 32)
  pe      : Int       -- MENC0 position of the edge, or where the virtual sheet fell due
  y       : Int       -- A, in 2^-32 row
  rows    : Nat
  parity  : Bool
  decide  : Int       -- P_d, in 1/256 count of MENC0
  decided : Bool
  deriving DecidableEq, Repr

structure JobState where
  jobs    : List Job
  bands   : List Band
  wr      : Nat                 -- JOB_WR_POS
  tail    : Nat                 -- JOB_TAIL_POS
  rd      : Vector Nat 8        -- JOB_RD_POSk
  spans   : List Span           -- ascending positions from tail to wr
  waiting : List WaitingLand
  sheets  : List Sheet          -- the queue of R138, in ID order
  records : List SheetRecord    -- newest first, at most 1,024
  lastId  : Option (BitVec 32)  -- R138: last queued ID
  anchors : List Anchor         -- oldest first
  anchorCount : Nat             -- R461: sheets anchored since the engine restart
  virtualNext : Option Int      -- R146: predicted A of the next web virtual sheet, 2^-32 row
  edgesIgnored : Nat            -- R146
  deriving DecidableEq, Repr

/-! ## Expansion (R156 to R178) -/

/-- The state of a slice request of a fetched band (R164, R168, R169). -/
inductive SliceState where
  | requested | onLane (l : LaneIx) | passed (l : LaneIx) | failed (code : Code) (crc : Word) (l : LaneIx)
  deriving DecidableEq, Repr

/-- A sheet's use of a band that a bar is fetching, or holds (R164 to R170, R244). -/
structure Work where
  sheet    : BitVec 32
  band     : Band
  first    : Nat                      -- the first sheet row that it serves
  count    : Nat                      -- the sheet rows that it serves
  slices   : List SliceState
  age      : Nat                      -- R28
  deadline : Option Nat               -- R245: QoS deadline of its reads, in 2^-24 ns of Meridian time
  refetch  : Bool
  failed   : List (Nat × Code × Word × LaneIx)  -- the failures that caused the refetch, by slice, first one first
  avoid    : List Nat                 -- lanes that failed
  shun     : List Nat                 -- the other lanes of the failed attempt
  verified : Bool
  ended    : Option Code              -- class S end of the band
  reported : Bool                     -- R170: its one ERROR event has been posted
  lost     : List Nat                 -- blocks of the container that were read uncorrectable
  deriving DecidableEq, Repr

structure LaneFault where
  disagree : Nat
  fail     : Nat
  deriving DecidableEq, Repr

/-- A COMPRESS entry held by a lane (R173 to R178). -/
structure CmpJob where
  ring  : RingIx
  entry : Entry
  input : List Byte
  chain : List (BitVec 128)
  fixed : Bool
  deriving DecidableEq, Repr

structure Expand where
  laneFault : Vector LaneFault 34
  laneOut   : List Nat                      -- R165: lanes out of service
  lanePtr   : Nat                           -- R27
  prevLanes : Option (List Nat)             -- R36: the lanes enabled at the last whole-engine restart
  cmp       : Vector (Option CmpJob) 4
  cmpWait   : List CmpJob                   -- entries waiting for a lane
  deriving DecidableEq, Repr

/-! ## Tables, stripe engines and Reticle (R179 to R229) -/

/-- A bar's tables: as staged by TABLE_LOAD, or as copied into the engines (R189, R193). Elements are
kept as numbers; an unlisted element is the default table's (R192, R212, R226). -/
structure BarTables where
  map    : Table Nat
  curve  : Table Nat
  out    : Table Nat
  array  : Table Nat   -- key: array × 262,144 + element
  mask   : Table Nat   -- key: pass × 64 + element
  deriving DecidableEq, Repr

/-- The trims of a bar (R199 to R203): unlisted channels hold 0x8000. -/
structure Trims where
  start     : Table Nat
  target    : Table Nat
  pend      : Table Nat
  prevStart : Table Nat   -- the pair of the epoch before, until its rows have fired
  prevTarget : Table Nat
  epoch     : Nat         -- the first epoch whose start has not been taken; the pair in use is of the one before
  committed : Option Nat  -- epoch for which the pending batch is committed
  batch     : Bool        -- the pending slot holds a batch
  refusals  : Nat         -- commits refused and counted (R202)
  batchEpoch : Option Nat -- R375: epoch of the latest batch formed
  bad       : List Nat    -- R209: channels whose current target proved uncorrectable while the bar was stopped
  deriving DecidableEq, Repr

/-- A computed row of a bar (R18, R182, R513). -/
structure Row where
  n       : Nat               -- global row
  sheet   : BitVec 32
  srow    : Nat
  parts   : Vector (Option (List (Option Nat))) 8  -- each slot's 8,192 channels: a level or a direct code; none for no drop
  works   : List BandKey      -- bands that contributed
  noData  : Option Code       -- R172: it carries no data, and why
  written : Bool
  deriving DecidableEq, Repr

/-- A checkpoint part of a slot (R222). -/
structure Checkpoint where
  slot : Nat
  row  : Nat
  acc  : Table Int
  deriving DecidableEq, Repr

/-- R221: what slot `slot` takes from the slot before it in global row `row`: the carries, and the shares
aimed past the seam, in order: rows ahead, bar channel, share. -/
structure Seam where
  row  : Nat
  slot : Nat
  c1   : Int
  c2   : Int
  adds : List (Nat × Nat × Int)
  deriving DecidableEq, Repr

structure Bar where
  engines  : List Nat         -- R193: the engines of its previous run
  gap      : Bool             -- R152: its last stop was placed in a gap
  used     : Bool             -- R135: in use, it has run since the last engine or timebase restart
  grow     : Nat              -- R513: next global row number
  firstRow : Nat              -- first global row since the restart
  pass     : Nat              -- the number of the first row that has not passed the bar
  rows     : List Row         -- computed or in computation, ascending; kept until they have passed and cannot change
  works    : List Work
  staged   : BarTables
  active   : BarTables
  trims    : Trims
  acc      : Table Int        -- R217: acc[n][j], key n × 65,536 + j
  seams    : List Seam        -- R221: what slots still have to take from the slot before
  checks   : List Checkpoint  -- the bar's pool of 24 parts
  lost     : Nat              -- SE_REDIST_LOSTk
  sat      : Nat              -- SE_REDIST_SATk
  edSat    : Nat              -- RET_STATUSk.ED_SAT
  seam     : Nat              -- RET_STATUSk.SEAM
  residue  : Nat              -- RET_STATUSk.RESIDUE
  deriving DecidableEq, Repr

structure Engine where
  out      : Bool   -- out of service (R207)
  testFail : Nat
  residue  : Nat
  deriving DecidableEq, Repr

/-- A variable-data patch (R185, R187). -/
structure Patch where
  sheet    : BitVec 32
  firstRow : Nat
  bar      : BarIx
  rows     : Nat
  firstCol : Nat
  cols     : Nat
  overprint : Bool          -- PMODE [0]: overprint
  samples  : List Nat      -- widened to 14 bits, row-major
  bytes    : Nat           -- payload bytes as delivered
  deriving DecidableEq, Repr

structure Stripe where
  engines    : Vector Engine 68
  levels     : Vector (Table Nat) 32   -- level-to-drop-code tables in force
  stagedLevels : Vector (Table Nat) 32
  checks     : Table (Option Word)     -- R191: table checks loaded, by (TABLE, UNIT, SUB); unlisted: the default table's
  patches    : List Patch              -- the patch store, in order of acceptance
  ringPatch  : List (RingIx × Entry × Patch)  -- OVERLAY_PATCH entries waiting for room
  clipped    : Nat                     -- R188: patches with parts beyond ROWS, counted
  deriving DecidableEq, Repr

/-! ## Head ports: queue, strobes and link (R230 to R281) -/

/-- A row held in a port queue (R231 to R239). -/
structure QRow where
  n        : Nat
  sheet    : BitVec 32
  srow     : Nat
  codes    : List Nat
  void     : Bool
  acked    : Bool
  sent     : Bool      -- transmitted at least once
  given    : Bool      -- R238: its replays have ended
  replays  : Nat
  waitAck  : Bool      -- the acknowledge timer runs
  event    : Option Nat  -- fallback: time of the row event in 1/16 ns (R297)
  deriving DecidableEq, Repr

/-- R255: a block before it is scrambled: data or control, and its eight bytes, byte 0 lowest. -/
structure LinkBlock where
  data : Bool
  body : BitVec 64
  deriving DecidableEq, Repr

/-- R256, R258: the coder of a transmit lane: the last 58 bits sent, the latest in bit 57, and the BIP8 since the last ALIGN. -/
structure LaneCoder where
  scr : BitVec 58
  bip : Byte
  deriving DecidableEq, Repr

/-- Training and traffic state of a port's link (R261 to R278). -/
structure Link where
  lstate   : Nat             -- ABR_PORTn_STATUS.LSTATE: 0 T0 to 6 T6, 7 fault
  fault    : Nat
  modCause : Nat
  preinv   : BitVec 3
  swapped  : Bool
  rxInv    : Bool
  caps     : ModCaps         -- ABR_PORTn_CAPS and RTT
  lock     : Bool            -- block lock on RX (R271)
  training : Bool            -- a training is in progress (R261)
  trainCnt : Nat             -- valid TRAIN blocks in a row (T1)
  report   : Option Word     -- the latest sub-0 report
  alike    : Nat             -- reports alike in a row
  sub1     : Bool            -- a valid sub 1 has come
  pings    : Nat             -- PONGs received in T5
  pingMax  : Nat
  echoWait : Bool            -- CONFIG sent, echo awaited
  trained  : Option (Nat × Nat)  -- LANE0_SRC, LANE1_SRC at the last training
  bursting : Bool            -- PORT_FAULT blocks are being sent (R273)
  idle     : Bool            -- TX lanes in electrical idle
  absent   : Bool            -- R63, R510
  hbSeq    : Nat
  nak      : Nat             -- ABR_PORTn_ERR
  bip      : Nat
  dup      : Nat
  invalid  : Nat             -- R257: invalid blocks counted
  frozen   : Bool            -- R277: adaptation frozen
  temp     : Vector (Bool × BitVec 16) 15   -- ABR_TEMPn_k: VALID, TEMP
  scanning : Bool            -- ABR_EYEn_CTRL.BUSY
  scanCfg  : Int × Int × Nat -- VOFF, clamped PHASE, clamped DWELL_LOG2 of the running scan
  errors   : Nat             -- ABR_EYEn_ERR
  lanes    : Fin 3 × Fin 3   -- the physical lanes of stream lanes 0 and 1 (R259, R262)
  coder    : Vector LaneCoder 3   -- L0, L1, LS
  sent     : Nat             -- stream blocks since the last ALIGN (R259)
  since    : Nat             -- the tick of the last ALIGN
  queue    : List (Bool × LinkBlock)  -- the rest of a row frame or burst, each with whether another control block may go first
  deriving DecidableEq, Repr

structure Port where
  fire    : Nat
  mark    : Nat
  tx      : Nat
  rel     : Nat
  wr      : Nat
  rows    : List QRow         -- rows FIRE to WR - 1
  sending : Option (Nat × Bool)  -- row frame on the lane, and whether it is a replay
  replayQ : List Nat
  replays : Nat               -- PRM_PORTn_STATUS.REPLAY
  commit  : Option (Nat × Int)  -- committed t_fire, and t_ideal of R299, in 1/16 ns
  edge    : Option Nat        -- previous leading edge, in grid points of 78.125 ps
  pair    : Bool              -- the FIRE pair is active
  dead    : Bool              -- the strobe generator is stopped (R249)
  trip    : Bool              -- PRM_WDOG_TRIP bit
  joinAt  : Nat               -- R240: first row written after the restart
  missing : Code              -- R33, R152: the code that rows without its data carry
  late    : List (Nat × BitVec 32 × Nat)  -- R238: rows that ended void before they were written, with sheet and sheet row
  old     : List Nat          -- R267: rows transmitted that have left the queue, newest first
  link    : Link
  deriving DecidableEq, Repr

/-! ## Heliostat (R282 to R304) -/

structure Encoder where
  pos    : Int
  hwm    : Int
  zpos   : Int
  ztime  : Nat
  zcount : Nat
  qerr   : Nat
  idle   : Bool
  back   : Bool
  a      : Bool
  b      : Bool
  recs   : List (Nat × Int)      -- estimator records, newest first: time in 2^-24 ns, position
  raised : Option (Nat × Int)    -- latest count that raised H in the running window
  deriving DecidableEq, Repr

/-- A pass of scanning mode (R301 to R303). -/
structure Pass where
  sheet   : BitVec 32
  k       : Nat
  target  : Int       -- MENC0 feed target
  feeding : Bool
  done    : Bool      -- the feed is complete
  deriving DecidableEq, Repr

structure Heliostat where
  enc  : Vector Encoder 2
  slow : BitVec 32            -- HLS_SLOW
  pass : Option Pass
  deriving DecidableEq, Repr

/-! ## Meridian (R305 to R327) -/

/-- STATE of a slot's CTRL register (R311). -/
inductive SlotState where
  | idle | armed | done | cancelled | dropped
  deriving DecidableEq, Repr

structure Slot where
  state   : SlotState
  late    : Bool
  overrun : Bool
  runs    : Nat        -- occurrences so far, counted towards COUNT
  target  : Nat        -- next target of a time slot, in ns
  due     : Option Nat -- committed action time of a predicted slot (R315)
  ahead   : Bool       -- R315: the slot has been predicted, and was then not in the past
  deriving DecidableEq, Repr

/-- An entry of the dispatch queue (R310). -/
structure Dispatched where
  slot : SlotRef
  act  : Nat
  unit : Nat
  arg  : Nat
  deriving DecidableEq, Repr

structure Capture where
  time  : Nat
  count : Nat
  deriving DecidableEq, Repr

structure Meridian where
  time     : Nat               -- units of 2^-24 ns (R306)
  copy     : Nat               -- R305: the time at the last read of MER_TIME_FRAC
  trace    : Bool
  ptpLock  : Bool
  diverged : Bool
  holdover : Bool
  annLost  : Bool
  discards : Nat
  holdSince : Option Nat       -- time at which holding began (HOLD_S)
  good     : Nat               -- R321: consecutive accepted samples below 100 ns
  offset   : Option Int        -- MER_PTP_OFFSET
  mustFit  : Bool              -- R322: the next sample must lie within JUMP_LIMIT
  policy   : Bool              -- R322: the POLICY in force is HOLDOVER
  estimate : Nat               -- R321: the INC of the servo's frequency estimate
  tslot    : Vector Slot 256
  pslot    : Vector Slot 128
  dispatch : List Dispatched
  level    : Vector Bool 40    -- levels set by actions 0x01 to 0x03
  pulse    : Vector (List Nat) 40    -- low edges of running pulses, by Meridian time
  highTick : Vector Nat 40           -- one more than the tick in which the output was last set high; 0 none
  trigRise : Vector Nat 4      -- R362: time of the latest CAM_TRIGk rising edge; 0 none
  cap      : Vector Capture 4
  deriving DecidableEq, Repr

/-! ## Motion axes (R328 to R344) -/

/-- What the axis generator is doing. -/
inductive Motion where
  | rest | move (target : Int) | jog (speed : Int) | gear (p0 g0 : Int) | brake (dec : Nat) | homing
  deriving DecidableEq, Repr

structure Axis where
  pos     : Rat            -- commanded position in steps; POS is its integer part
  vel     : Rat            -- steps/s
  acc     : Rat            -- steps/s²
  motion  : Motion
  kept    : Option Int     -- R341: the target kept
  remain  : Int
  encpos  : Int
  encz    : Int            -- ENCPOS at the latest ENCZ edge
  hlatch  : Int
  homed   : Bool
  queued  : Option (Nat × Int)  -- OP and argument of the queued move
  replaced : Nat           -- R332: queued moves replaced
  fault   : Nat
  hstep   : Nat
  hwaitZ  : Bool           -- H3 waits for the ENCZ edge
  hset    : Bool           -- the Set step follows the brake of H3
  sw      : Vector Bool 3  -- LIMP, LIMN, HOME active after the filter
  stopReq : Bool           -- braking under STOP
  a       : Bool
  b       : Bool
  qerr    : Nat
  everRun : Bool           -- R328: outputs driven since the first restart
  enOff   : Bool           -- R340: EN disabled by a fault
  cmd     : Option (Word × Int × Nat)  -- R330: the CMD write that is crossing: its value, its argument, its tick
  begins  : Bool           -- R332: the queued move starts at the end of the tick
  rise    : Nat            -- R333: one more than the tick of the latest rising edge of STEP; 0 none
  dir     : Bool           -- R333: DIR is at the positive level
  dirTick : Nat            -- R333: one more than the tick in which DIR last changed; 0 never
  faultTick : Nat          -- R340: one more than the tick in which FAULT was set
  track   : List (Nat × Int)  -- R343: the ticks in which POS changed, newest first, with POS from then on
  deriving DecidableEq, Repr

/-! ## Eyepiece (R345 to R367) -/

/-- The parameter set in force for a frame (R357): the SH registers by offset within the camera. -/
abbrev PSet := Table Word

/-- A received frame: open, waiting in its raw slot, or in hand. -/
structure Frame where
  no     : Nat
  set    : PSet
  lines  : List (List Nat)   -- lines accepted, widened (CAM0; elsewhere the pixels lie in the raw slot)
  got    : Nat               -- lines received
  flags  : BitVec 16
  fsTime : Nat
  trig   : Nat
  h0     : Int
  h1     : Int
  slot   : Nat               -- raw slot
  ages   : List Nat          -- R350: the ticks in which the slices landed
  slices : Nat               -- slices processed
  img    : Nat               -- IMG_ADDR
  pix    : List (List (Nat × Nat × Nat))  -- output pixels so far
  deriving DecidableEq, Repr

structure Camera where
  frames    : Nat               -- FRAME: accepted FS packets
  fs        : Option Frame      -- the open frame
  active    : PSet
  captured  : Option (PSet × Nat)  -- captured set and the frame at which it becomes active
  commitReq : Bool
  capFrame  : Nat               -- frame of the latest capture
  staged    : List Word         -- staged CCI writes not yet sent
  cciBusy   : Option (Bool × Word)  -- transfer in progress: staged, and its word
  hostXfer  : Option Word       -- host transfer not yet begun
  nack      : Bool
  cciData   : Byte
  cciFail   : Bool              -- R359: of the set captured last
  cciLate   : Bool
  actFail   : Bool              -- R359: of the active set
  actLate   : Bool
  fresh     : Bool              -- R358: no FS accepted since the restart
  raw       : List Frame        -- R350: frames of CAM1 to CAM3 in their raw slots, oldest first
  recs      : List Frame        -- frames whose record is still to be written
  rawSlot   : Nat
  imgSlot   : Nat
  recSlot   : Nat
  orphan    : Nat
  pkt       : Nat
  drops     : Nat
  noFs      : Bool
  deriving DecidableEq, Repr

structure Eyepiece where
  cam    : Vector Camera 4
  ptr    : Nat        -- R350: rotating pointer of the memory pipeline
  deriving DecidableEq, Repr

/-! ## Calibration, Occulter and the ledger (R368 to R392) -/

/-- A contone tap (R370). -/
structure Tap where
  cam      : CamIx
  sheet    : BitVec 32
  next     : Vector Nat 8     -- next sheet row to sum, per bar
  sums     : Table Nat        -- key: bar × 8,192 + cell
  complete : Vector Bool 8
  deriving DecidableEq, Repr

/-- The five sums of a cell (R372). -/
structure CellSum where
  w  : Rat
  u  : Rat
  y  : Rat
  uu : Rat
  uy : Rat
  deriving DecidableEq, Repr

/-- A health-ledger record (R388). -/
structure Record where
  seq   : BitVec 32
  sec   : Nat
  kind  : Nat
  trace : Bool
  unit  : Word
  old   : Word
  new   : Word
  deriving DecidableEq, Repr

structure Calib where
  taps    : List Tap
  sums    : Table CellSum     -- key: bar × 32,768 + camera × 8,192 + cell
  skip    : Nat
  miss    : Nat
  void    : Nat
  therm   : Vector (Table Int) 8   -- R378: sensor temperatures at the bar's last run, key port × 15 + sensor
  thermF  : Vector (Table Rat) 8   -- R378: per-port mean at the last run, key port, in 1/64 °C
  thermAt : Vector (Option Nat) 8  -- R378: Meridian time of the bar's last run
  thermDue : BitVec 8
  thermTerm : Vector (Table Rat) 8 -- R378: factor on the targets, by port, applied at the next batch
  goodRun : List (Nat × Nat)  -- R385: bar and channel found good once by Occulter
  ledger  : List Record       -- the active half, in order
  slots   : Nat               -- slots of the active half used (records and failed attempts)
  half    : Bool              -- which half is active
  trail   : Bool              -- the last slot used failed its check
  pending : List Record       -- records firmware has still to append
  seq     : BitVec 32         -- number of the next record
  pendBar : Vector (List (Nat × Nat)) 8  -- R386: changes pending for a bar stop: channel, reserve or 65,536
  holdoff : Vector Bool 8     -- R386: less than one second since the bar's last such stop
  stopQ   : Vector Bool 8     -- R379, R386: a firmware bar stop is queued
  deriving DecidableEq, Repr

/-- A drop that an Occulter run has fired and not yet judged (R382). -/
structure TestDrop where
  good  : Bool                            -- the link delivered its row
  pulse : Vector (Option (Nat × Nat)) 2   -- the first pulse in each gate's window: delay and width, in 2.5 ns
  stray : Bool                            -- a further pulse in a window
  deriving DecidableEq, Repr

structure Occulter where
  state   : Nat              -- STATE: 0 idle, 1 running, 2 done, 3 aborted
  first   : Nat              -- the first drop's leading edge, in 2.5 ns
  row0    : Nat              -- the first test row's number at the port
  queued  : Nat              -- test rows queued
  fired   : Nat              -- drops fired
  judged  : Nat              -- drops judged
  drops   : List TestDrop    -- fired and not yet judged, oldest first
  pulse   : Vector (Option (Nat × Option Nat)) 2  -- a pulse in progress: its rising time, and the drop it counts for
  stray   : Nat              -- STRAY
  outside : Nat              -- R380: edges outside a run
  abort   : Bool
  hits    : Vector Nat 2     -- of the nozzle under test
  dly     : Vector Nat 2     -- sum of delays, in 2.5 ns
  wid     : Vector Nat 2
  flag    : Bool
  deliv   : Nat
  failed  : Nat
  weak    : Nat
  deriving DecidableEq, Repr

/-! ## Spool controller (R393 to R419) -/

/-- A remap entry (R406). -/
structure Remap where
  poison : Bool
  pend   : Bool
  row    : Nat
  blk    : Nat
  owner  : Option FnRef   -- R407, R418: whose restart applies a pending SRAM remap; none: the overlay port's flush
  deriving DecidableEq, Repr

/-- A spool read presented to a channel (R413, R414, R245). -/
structure SpoolReq where
  port     : Nat
  addr     : Nat               -- usable spool address of the 64-byte block
  age      : Nat
  since    : Nat               -- Meridian time of its presentation, in 2^-24 ns
  deadline : Option Nat        -- in 2^-24 ns of Meridian time
  bar      : BarIx
  sheet    : BitVec 32
  key      : BandKey
  block    : Nat               -- block of the container
  deriving DecidableEq, Repr

/-- Counters and bucket of a channel or macro group (R408). -/
structure EccCount where
  bucket : Nat
  quiet  : Bool    -- E_ECC_BUCKET posted, BUCKET not yet back at THRESH / 2
  uncorr : Nat
  chk    : Nat
  corr   : Nat
  deriving DecidableEq, Repr

structure Chan where
  ecc     : EccCount
  remaps  : List Remap
  scrub   : Nat           -- next block of the scrub pass
  passNo  : Nat           -- the number of the scrub pass
  hist    : List (Nat × Nat)  -- the last 256 blocks that scrub corrected, newest first, with their passes
  reqs    : List SpoolReq
  selfRef : Bool
  held    : Nat           -- scrub reads held in self-refresh
  offline : Bool
  out     : Bool          -- out of service (SPL_CH_OUT)
  lastRow : Table Nat     -- R412: one more than the last-opened row of each bank; 0 none
  page    : Table Nat     -- R412: the 2-bit counter of each bank
  deriving DecidableEq, Repr

structure Group where
  ecc    : EccCount
  remaps : List Remap
  scrub  : Nat
  passNo : Nat
  hist   : List (Nat × Nat)
  deriving DecidableEq, Repr

structure Flip where
  sram : Bool
  addr : Nat
  pats : List (Nat × Byte)   -- symbol position and pattern
  deriving DecidableEq, Repr

structure Spool where
  valid  : List Nat                   -- valid granules, ascending (R400)
  errs   : Table (List (Nat × Byte))  -- erroneous symbols of a block, by its place / 64 (R397)
  flip   : Option Flip                -- armed injection (R409)
  chans  : Vector Chan 64
  groups : Vector Group 256
  late   : Vector Nat 8               -- SPL_LATEq
  chmap  : Option (List Nat)          -- R396: channels named in the previous run
  dev    : Nat                        -- R189: how often the device has written its staging area
  devHost : List (Nat × Nat)          -- R95, R189: BAR4 writes to the staging area since then: address and length
  deriving DecidableEq, Repr

/-! ## Ethernet (R420 to R430) -/

structure EthPort where
  link    : Bool
  modeUp  : Nat
  loss    : Nat
  crc     : Nat
  format  : Nat
  noSpace : Nat
  dup     : Nat
  fwDrop  : Nat      -- R422: frames beyond the rate
  deriving DecidableEq, Repr

/-- A band in transit (R425). -/
structure Tracker where
  key    : BandKey
  total  : Nat
  stride : Nat
  count  : Nat
  pos    : Nat
  bits   : List Nat   -- fragments written, ascending
  port   : EthIx
  source : Nat
  naks   : Nat
  deriving DecidableEq, Repr

structure Ethernet where
  port     : Vector EthPort 2
  trackers : List Tracker
  answered : List BandKey   -- R425: RESULT already sent within GAP
  deriving DecidableEq, Repr

/-! ## DMA engine (R431 to R439) -/

/-- The transfer a channel has in hand. -/
structure Transfer where
  len   : Nat
  dst   : Nat
  dstSpool  : Bool
  last  : Bool
  next  : Nat
  nextSpool : Bool
  runs  : List (Nat × Nat × Bool)  -- the source runs still to move: address, length, in spool
  done  : Nat                      -- bytes moved
  ns    : Bool                     -- R433: host bulk data uses No-Snoop
  deriving DecidableEq, Repr

structure DmaChan where
  state : Nat       -- STATE of R434
  fault : Nat
  hops  : Nat
  faultAddr : Nat
  desc  : Nat       -- address of the descriptor in execution, or to be fetched
  descSpool : Bool  -- that descriptor lies in the spool
  xfer  : Option Transfer
  age   : Nat                      -- R28: the tick in which it started
  owner : Option (RingIx × Entry)  -- pool channel: the entry it serves
  left  : Nat                      -- pool channel: bytes of its entry's bulk data still to move
  waits : Option (RingIx × BitVec 16)  -- R439: a halted pool channel: the ring and TAG of the event that frees it
  deriving DecidableEq, Repr

structure Dma where
  ch  : Vector DmaChan 32
  ptr : Vector Nat 4     -- R27: rotating pointer of each class
  last : Option DmaIx    -- the channel of the latest beat, by which R472 counts a pre-emption
  deriving DecidableEq, Repr

/-! ## Overlay port (R440 to R449) -/

/-- A stored FIFO word (R443). -/
structure FifoWord where
  bytes : List Byte
  soi   : Bool
  last  : Bool
  valid : Option Nat     -- VALID_BYTES; none on a truncated item's last word
  gap   : Option Nat     -- a gap marker and its count
  deriving DecidableEq, Repr

structure Overlay where
  compat   : Bool          -- committed SH fields of OVL_CFG
  high     : Nat
  low      : Nat
  fifo     : List FifoWord -- oldest first
  inWord   : List Byte     -- bytes of the FIFO word being packed
  inItem   : Option Nat    -- words of the newest item committed; none outside an item
  inSoi    : Bool          -- the newest item's first word carried AUX_SOI
  inLeft   : Option Nat    -- payload bytes, padded, that the newest item's header says are still to come
  ignore   : Bool          -- words ignored until the next AUX_SOI
  hold     : Bool          -- hysteresis of R444
  flushing : Bool
  lost     : Bool
  overrun  : Bool
  gaps     : Nat
  bad      : Nat
  lastSheet : Option (BitVec 32)
  part     : List Byte     -- item being read out
  partOk   : Bool          -- its first word carried AUX_SOI, and no word of it was truncated or uncorrectable
  deriving DecidableEq, Repr

/-! ## Integrity and counters (R450 to R477) -/

structure Integrity where
  engineOk  : Bool
  reject    : Bool
  pulseFell : Option Nat   -- tick in which REJECT last fell
  pulseEnds : Nat          -- R461: tick in which the pulse in progress has lasted its width
  dstop     : Bool
  dcode     : Code
  parity    : Bool
  prSkip    : Nat
  pressRun  : Bool
  estop     : Bool         -- ESTOP_n asserted after its filter
  latch     : Bool         -- ESTOP_LATCH
  holdoff   : Bool         -- less than 10 ms since the release
  orderly   : Bool         -- the hold of R41
  okHolds   : Bool         -- R465: a stop awaits the pulses of anchored sheets
  deriving DecidableEq, Repr

structure Counter where
  value  : Nat     -- at or above 2^48 until its wrap is taken (R471)
  ovf    : Bool
  sample : Bool    -- a sample is pending (R475)
  stamp  : Nat     -- Meridian time of the wrap
  deriving DecidableEq, Repr

structure Monitor where
  count : Nat
  last  : Nat
  peak  : Nat
  deriving DecidableEq, Repr

structure Pmc where
  ctr  : Vector Counter 64
  lost : Nat              -- PMC_SAMPLE_LOST
  bw   : Vector Monitor 16
  deriving DecidableEq, Repr

/-! ## The state -/

structure State where
  pending : List Instr          -- commands waiting, first in first out
  cfg     : Table Word          -- stored RW and SH registers, by BAR0 offset
  sys     : Sys
  sdr     : Sidereal
  hif     : Hif
  fns     : Fns
  job     : JobState
  exp     : Expand
  bar     : Vector Bar 8
  se      : Stripe
  port    : Vector Port 32
  hls     : Heliostat
  mer     : Meridian
  axis    : Vector Axis 8
  eye     : Eyepiece
  cal     : Calib
  occ     : Occulter
  spl     : Spool
  mem     : List Host.Cell      -- the stacks' data bytes, by their place (State.physAddr, R395); unlisted bytes read 0
  eth     : Ethernet
  dma     : Dma
  ovl     : Overlay
  integ   : Integrity
  pmc     : Pmc
  gpioIn  : Word                -- GPIO_IN: the levels at the GPIO balls as last sampled (R61)
  setNow  : List Nat            -- R14: the W1C bits that hardware has set in this tick, as 32 × offset + bit
  out     : List Output         -- what has left the device, in order
  tick    : Nat                 -- CLK_TIME ticks (model's own)
  free    : Nat                 -- index of the next free value (model's own)
  deriving DecidableEq, Repr

/-! ## Reset values -/

def Sys.reset : Sys where
  held := [.porst]
  cause := .powerOn
  rstTick := 0
  rail := 15
  warmCount := 0
  mainRails := true
  pll := false
  otpRead := false
  seeded := false
  hbm := false
  xspiHigh := false
  stage := 0
  src := 0
  imgSvn := 0
  imgVer := 0
  bootErr := 0
  bootErrs := []
  probed := false
  fwReady := false
  keyHash := Vector.replicate 4 []
  revoked := 0
  fuses := 0
  gradeE := false
  mac := Vector.replicate 2 0
  cores := #v[.active, .active, .active, .active, .spare]
  wdogCount := 0
  wdogCore := 7
  wdogPer := Vector.replicate 5 0
  svc := 0
  lpCur := 0

def Sidereal.reset : Sidereal where
  sec := 0
  sub := 0
  secCopy := 0
  busy := false
  armed := Vector.replicate 2 false
  alarm := Vector.replicate 2 false
  event := Vector.replicate 4 false
  high := Vector.replicate 4 false
  stamp := Vector.replicate 4 0
  timeLost := true

def Ring.reset : Ring where
  state := .disabled
  cause := 0
  sqHead := 0
  sqTail := 0
  eqHead := 0
  eqTail := 0
  bells := []
  held := false
  fetched := []
  running := []
  due := []
  unsig := 0
  lostHalt := false

/-- The configuration space as the host leaves it once it has found the device (log entry 90). -/
def PcieCfg.found : PcieCfg := ⟨512, 4096, true, false, false⟩

def Hif.reset : Hif where
  rings := Vector.replicate 128 Ring.reset
  async := []
  lost := 0
  lostCls := .none
  badAccess := 0
  lostEvents := 0
  faultAddr := 0
  hb := .idle
  linkUp := false
  pcie := PcieCfg.found
  fetchPtr := 0
  pba := Vector.replicate 128 false
  hiCopy := []
  refused := 0
  bar4 := []

/-- R509: a function stopped as contained in the stopped whole engine. -/
def Fn.contained : Fn := ⟨false, false, false, 0⟩
/-- R509: an axis or a camera port, stopped on its own. -/
def Fn.alone : Fn := ⟨false, true, false, 0⟩

def Fns.reset : Fns where
  port := Vector.replicate 32 Fn.contained
  bar := Vector.replicate 8 Fn.contained
  cam := Vector.replicate 4 Fn.alone
  axis := Vector.replicate 8 Fn.alone
  tb := Fn.contained
  eng := Fn.contained
  reqs := []

def JobState.reset : JobState where
  jobs := []
  bands := []
  wr := 0
  tail := 0
  rd := Vector.replicate 8 0
  spans := []
  waiting := []
  sheets := []
  records := []
  lastId := none
  anchors := []
  anchorCount := 0
  virtualNext := none
  edgesIgnored := 0

def Expand.reset : Expand where
  laneFault := Vector.replicate 34 ⟨0, 0⟩
  laneOut := []
  lanePtr := 0
  prevLanes := none
  cmp := Vector.replicate 4 none
  cmpWait := []

def BarTables.reset : BarTables := ⟨[], [], [], [], []⟩

def Trims.reset : Trims where
  start := []
  target := []
  pend := []
  prevStart := []
  prevTarget := []
  epoch := 0
  committed := none
  batch := false
  refusals := 0
  batchEpoch := none
  bad := []

def Bar.reset : Bar where
  engines := []
  gap := false
  used := false
  grow := 0
  firstRow := 0
  pass := 0
  rows := []
  works := []
  staged := BarTables.reset
  active := BarTables.reset
  trims := Trims.reset
  acc := []
  seams := []
  checks := []
  lost := 0
  sat := 0
  edSat := 0
  seam := 0
  residue := 0

def Stripe.reset : Stripe where
  engines := Vector.replicate 68 ⟨false, 0, 0⟩
  levels := Vector.replicate 32 []
  stagedLevels := Vector.replicate 32 []
  checks := []
  patches := []
  ringPatch := []
  clipped := 0

def ModCaps.none : ModCaps := ⟨0, 0, 0, 0, 0, 0⟩

def Link.reset : Link where
  lstate := 0
  fault := 0
  modCause := 0
  preinv := 0
  swapped := false
  rxInv := false
  caps := ModCaps.none
  lock := false
  training := false
  trainCnt := 0
  report := none
  alike := 0
  sub1 := false
  pings := 0
  pingMax := 0
  echoWait := false
  trained := none
  bursting := false
  idle := true
  absent := false
  hbSeq := 0
  nak := 0
  bip := 0
  dup := 0
  invalid := 0
  frozen := false
  temp := Vector.replicate 15 (false, 0)
  scanning := false
  scanCfg := (0, 0, 0)
  errors := 0
  lanes := (0, 1)
  coder := Vector.replicate 3 ⟨0, 0⟩
  sent := 0
  since := 0
  queue := []

def Port.reset : Port where
  fire := 0
  mark := 0
  tx := 0
  rel := 0
  wr := 0
  rows := []
  sending := none
  replayQ := []
  replays := 0
  commit := none
  edge := none
  pair := false
  dead := false
  trip := false
  joinAt := 0
  missing := 0x020E
  late := []
  old := []
  link := Link.reset

def Encoder.reset : Encoder where
  pos := 0
  hwm := 0
  zpos := 0
  ztime := 0
  zcount := 0
  qerr := 0
  idle := true
  back := false
  a := false
  b := false
  recs := []
  raised := none

def Heliostat.reset : Heliostat := ⟨Vector.replicate 2 Encoder.reset, 0, none⟩

def Slot.reset : Slot := ⟨.idle, false, false, 0, 0, none, false⟩

def Meridian.reset : Meridian where
  time := 0
  copy := 0
  trace := false
  ptpLock := false
  diverged := false
  holdover := false
  annLost := false
  discards := 0
  holdSince := none
  good := 0
  offset := none
  mustFit := false
  policy := false
  estimate := 0x02800000
  tslot := Vector.replicate 256 Slot.reset
  pslot := Vector.replicate 128 Slot.reset
  dispatch := []
  level := Vector.replicate 40 false
  pulse := Vector.replicate 40 []
  highTick := Vector.replicate 40 0
  trigRise := Vector.replicate 4 0
  cap := Vector.replicate 4 ⟨0, 0⟩

def Axis.reset : Axis where
  pos := 0
  vel := 0
  acc := 0
  motion := .rest
  kept := none
  remain := 0
  encpos := 0
  encz := 0
  hlatch := 0
  homed := false
  queued := none
  replaced := 0
  fault := 0
  hstep := 0
  hwaitZ := false
  hset := false
  sw := Vector.replicate 3 false
  stopReq := false
  a := false
  b := false
  qerr := 0
  everRun := false
  enOff := false
  cmd := none
  begins := false
  rise := 0
  dir := true
  dirTick := 0
  track := []
  faultTick := 0

def Camera.reset : Camera where
  frames := 0
  fs := none
  active := []
  captured := none
  commitReq := false
  capFrame := 0
  staged := []
  cciBusy := none
  hostXfer := none
  nack := false
  cciData := 0
  cciFail := false
  cciLate := false
  actFail := false
  actLate := false
  fresh := false
  raw := []
  recs := []
  rawSlot := 0
  imgSlot := 0
  recSlot := 0
  orphan := 0
  pkt := 0
  drops := 0
  noFs := false

def Eyepiece.reset : Eyepiece := ⟨Vector.replicate 4 Camera.reset, 0⟩

def Calib.reset : Calib where
  taps := []
  sums := []
  skip := 0
  miss := 0
  void := 0
  therm := Vector.replicate 8 []
  thermF := Vector.replicate 8 []
  thermAt := Vector.replicate 8 none
  thermDue := 0
  thermTerm := Vector.replicate 8 []
  goodRun := []
  ledger := []
  slots := 0
  half := false
  trail := false
  pending := []
  seq := 0
  pendBar := Vector.replicate 8 []
  holdoff := Vector.replicate 8 false
  stopQ := Vector.replicate 8 false

def Occulter.reset : Occulter where
  state := 0
  first := 0
  row0 := 0
  queued := 0
  fired := 0
  judged := 0
  drops := []
  pulse := Vector.replicate 2 none
  stray := 0
  outside := 0
  abort := false
  hits := Vector.replicate 2 0
  dly := Vector.replicate 2 0
  wid := Vector.replicate 2 0
  flag := false
  deliv := 0
  failed := 0
  weak := 0

def EccCount.reset : EccCount := ⟨0, false, 0, 0, 0⟩

def Chan.reset : Chan where
  ecc := EccCount.reset
  remaps := []
  scrub := 0
  passNo := 0
  hist := []
  reqs := []
  selfRef := false
  held := 0
  offline := false
  out := false
  lastRow := []
  page := []

def Group.reset : Group := ⟨EccCount.reset, [], 0, 0, []⟩

def Spool.reset : Spool where
  valid := []
  errs := []
  flip := none
  chans := Vector.replicate 64 Chan.reset
  groups := Vector.replicate 256 Group.reset
  late := Vector.replicate 8 0
  chmap := none
  dev := 0
  devHost := []

def EthPort.reset : EthPort := ⟨false, 0, 0, 0, 0, 0, 0, 0⟩

def Ethernet.reset : Ethernet := ⟨Vector.replicate 2 EthPort.reset, [], []⟩

def DmaChan.reset : DmaChan := ⟨0, 0, 0, 0, 0, false, none, 0, none, 0, none⟩

def Dma.reset : Dma := ⟨Vector.replicate 32 DmaChan.reset, Vector.replicate 4 0, none⟩

def Overlay.reset : Overlay where
  compat := false
  high := 1536
  low := 512
  fifo := []
  inWord := []
  inItem := none
  inSoi := false
  inLeft := none
  ignore := true
  hold := false
  flushing := false
  lost := false
  overrun := false
  gaps := 0
  bad := 0
  lastSheet := none
  part := []
  partOk := false

def Integrity.reset : Integrity where
  engineOk := false
  reject := false
  pulseFell := none
  pulseEnds := 0
  dstop := false
  dcode := 0
  parity := false
  prSkip := 0
  pressRun := false
  estop := false
  latch := false
  holdoff := false
  orderly := false
  okHolds := false

def Pmc.reset : Pmc := ⟨Vector.replicate 64 ⟨0, false, false, 0⟩, 0, Vector.replicate 16 ⟨0, 0, 0⟩⟩

/-- The device at power-up: a cold reset has begun, PORST_n is still low (R77, R509), every register
reads its reset value, nothing is listed in the spool, and no command waits. -/
def State.reset : State where
  pending := []
  cfg := []
  sys := Sys.reset
  sdr := Sidereal.reset
  hif := Hif.reset
  fns := Fns.reset
  job := JobState.reset
  exp := Expand.reset
  bar := Vector.replicate 8 Bar.reset
  se := Stripe.reset
  port := Vector.replicate 32 Port.reset
  hls := Heliostat.reset
  mer := Meridian.reset
  axis := Vector.replicate 8 Axis.reset
  eye := Eyepiece.reset
  cal := Calib.reset
  occ := Occulter.reset
  spl := Spool.reset
  mem := []
  eth := Ethernet.reset
  dma := Dma.reset
  ovl := Overlay.reset
  integ := Integrity.reset
  pmc := Pmc.reset
  gpioIn := 0
  setNow := []
  out := []
  tick := 0
  free := 0

end Sys2Proof.Machine
end

