-- ==== Sys2Proof/Machine/Table.lean ====
section
/-!
DEFINITION. Reading and writing the sparse tables and the numbered units of State, and the small list
and number helpers that the meanings share.
-/
namespace Sys2Proof.Machine

/-- The element of a table at key `k`; `d` is what an unlisted key reads as. -/
def tget {α : Type} (d : Nat → α) : Table α → Nat → α
  | [], k => d k
  | (a, v) :: t, k => if a = k then v else tget d t k

/-- Write `v` at `k`, keeping keys ascending and listing nothing that reads as its default. -/
def tput {α : Type} [DecidableEq α] (d : Nat → α) : Table α → Nat → α → Table α
  | [], k, v => if v = d k then [] else [(k, v)]
  | (a, w) :: t, k, v =>
    if k < a then (if v = d k then (a, w) :: t else (k, v) :: (a, w) :: t)
    else if k = a then (if v = d k then t else (k, v) :: t)
    else (a, w) :: tput d t k v

/-- The entries of elements at consecutive keys: those that do not read as their defaults. -/
def tentries {α : Type} [DecidableEq α] (d : Nat → α) : Nat → List α → Table α
  | _, [] => []
  | k, v :: vs => if v = d k then tentries d (k + 1) vs else (k, v) :: tentries d (k + 1) vs

/-- Write a list of elements at consecutive keys. -/
def tputs {α : Type} [DecidableEq α] (d : Nat → α) (t : Table α) (k : Nat) (vs : List α) : Table α :=
  (t.takeWhile fun q => decide (q.1 < k)) ++ tentries d k vs ++ t.dropWhile fun q => decide (q.1 < k + vs.length)

/-- The `n` elements from key `k` on, put before `acc` in reverse. -/
def texpandTo {α : Type} (d : Nat → α) : Nat → Nat → Table α → List α → List α
  | 0, _, _, acc => acc.reverse
  | n + 1, k, [], acc => texpandTo d n (k + 1) [] (d k :: acc)
  | n + 1, k, (a, v) :: t, acc =>
    if a = k then texpandTo d n (k + 1) t (v :: acc) else texpandTo d n (k + 1) ((a, v) :: t) (d k :: acc)

/-- The `n` elements of a table from key `k` on. -/
def texpand {α : Type} (d : Nat → α) (t : Table α) (k n : Nat) : List α :=
  texpandTo d n k (t.dropWhile fun q => decide (q.1 < k)) []

/-- Replace element `i` of a vector by its image under `f`. -/
def upd {α : Type} {n : Nat} (v : Vector α n) (i : Fin n) (f : α → α) : Vector α n :=
  v.set i.1 (f v[i.1]) i.2

/-- A number as an index, when it is one. -/
def fin? (n m : Nat) : Option (Fin n) := if h : m < n then some ⟨m, h⟩ else none

/-- All indices of a numbered unit, ascending. -/
def all (n : Nat) : List (Fin n) := List.finRange n

/-- A counter that saturates at `top`. -/
def satTo (top n : Nat) : Nat := if n ≤ top then n else top

/-- A 32-bit counter that saturates. -/
def sat32 (n : Nat) : Nat := satTo 4294967295 n

/-- Bits hi to lo of a number. -/
def bits (v hi lo : Nat) : Nat := v / 2 ^ lo % 2 ^ (hi + 1 - lo)

/-- Bit `i` of a number. -/
def bit (v i : Nat) : Bool := v / 2 ^ i % 2 = 1

/-- A Bool as the number 0 or 1. -/
def b2n (b : Bool) : Nat := if b then 1 else 0

/-- The two's-complement reading of an n-bit number. -/
def signed (n v : Nat) : Int := if v % 2 ^ n < 2 ^ (n - 1) then (v % 2 ^ n : Nat) else (v % 2 ^ n : Nat) - (2 ^ n : Nat)

/-- The n-bit two's-complement image of an integer. -/
def unsigned (n : Nat) (v : Int) : Nat := (v % (2 ^ n : Nat)).toNat

/-- Clamp an integer to a range. -/
def clampI (lo hi v : Int) : Int := if v < lo then lo else if hi < v then hi else v

/-- Clamp a rational to a range. -/
def clampR (lo hi v : Rat) : Rat := if v < lo then lo else if hi < v then hi else v

/-- The integer square root of `n` from its bits `2 ^ fuel` and below, added to `r`. -/
def sqrtBits (n : Nat) : Nat → Nat → Nat
  | 0, r => r
  | fuel + 1, r => sqrtBits n fuel (if (r + 2 ^ fuel) * (r + 2 ^ fuel) ≤ n then r + 2 ^ fuel else r)

/-- The integer square root. -/
def natSqrt (n : Nat) : Nat := sqrtBits n (n.log2 / 2 + 1) 0

/-- The square root of a rational, below it by less than 2^-64 of it; 0 below 0. -/
def ratSqrt (x : Rat) : Rat :=
  if x ≤ 0 then 0 else mkRat (natSqrt (x.num.toNat * x.den * 2 ^ 128)) (x.den * 2 ^ 64)

/-- Insert into a list that ascends under `f`, after equal ones. -/
def insertBy {α : Type} (f : α → Nat) (x : α) : List α → List α
  | [] => [x]
  | y :: ys => if f x < f y then x :: y :: ys else y :: insertBy f x ys

/-- Remove the first element that `p` holds for. -/
def dropFirst {α : Type} (p : α → Bool) : List α → List α
  | [] => []
  | y :: ys => if p y then ys else y :: dropFirst p ys

/-- Replace the first element that `p` holds for. -/
def mapFirst {α : Type} (p : α → Bool) (f : α → α) : List α → List α
  | [] => []
  | y :: ys => if p y then f y :: ys else y :: mapFirst p f ys

/-- R10: `a` is after `b`, counted modulo half-range in `n` bits. -/
def afterMod (n a b : Nat) : Bool :=
  let d := (a + 2 ^ n - b % 2 ^ n) % 2 ^ n
  decide (1 ≤ d) && decide (d ≤ 2 ^ (n - 1) - 1)

/-- R27: among the candidates `(index, age, class)`, the winner under the rotating pointer `ptr` of an
arbiter with `n` requesters: older first, then the higher class, then the first at or after the pointer. -/
def arbBetter (n ptr : Nat) (a b : Nat × Nat × Nat) : Bool :=
  if a.2.1 ≠ b.2.1 then decide (a.2.1 < b.2.1)
  else if a.2.2 ≠ b.2.2 then decide (b.2.2 < a.2.2)
  else decide ((a.1 + n - ptr % n) % n < (b.1 + n - ptr % n) % n)

/-- R27: the winner of an arbiter. -/
def arbitrate (n ptr : Nat) : List (Nat × Nat × Nat) → Option Nat
  | [] => none
  | c :: cs =>
    some (cs.foldl (fun best x => if arbBetter n ptr x best then x else best) c).1

end Sys2Proof.Machine
end

