-- ==== Sys2Proof/Machine/Bytes.lean ====
section
/-!
DEFINITION. Bytes, little-endian fields (R9), and the check functions of the device: the CRC-32C of
R158 with the context words of R452, and the CRC-8 of R258.
-/
namespace Sys2Proof.Machine

/-- `n` little-endian bytes of a number. -/
def leBytes : Nat → Nat → List Byte
  | 0, _ => []
  | n + 1, v => BitVec.ofNat 8 v :: leBytes n (v / 256)

/-- The number that little-endian bytes spell. -/
def leNat : List Byte → Nat
  | [] => 0
  | b :: bs => b.toNat + 256 * leNat bs

/-- `n` bytes of a list from offset `o`; bytes beyond its end read 0. -/
def slice (bs : List Byte) (o n : Nat) : List Byte :=
  let t := (bs.drop o).take n
  t ++ List.replicate (n - t.length) 0

/-- `n` little-endian numbers of `w` bytes each. -/
def leWords (w : Nat) : Nat → List Byte → List Nat
  | 0, _ => []
  | n + 1, bs => leNat (bs.take w) :: leWords w n (bs.drop w)

/-- The little-endian number in `n` bytes from offset `o`. -/
def leAt (bs : List Byte) (o n : Nat) : Nat := leNat (slice bs o n)

/-- The little-endian number in `n` bytes from offset `o` of a packed word (byte 0 lowest). -/
def fieldAt {w : Nat} (e : BitVec w) (o n : Nat) : Nat := e.toNat / 256 ^ o % 256 ^ n

/-- The bytes of a packed word, byte 0 first. -/
def wordBytes {w : Nat} (e : BitVec w) (n : Nat) : List Byte := leBytes n e.toNat

/-- One bit of CRC-32C, reflected polynomial 0x82F63B78. -/
def crc32cBit (c : Nat) : Nat := if c % 2 = 1 then (c / 2) ^^^ 0x82F63B78 else c / 2

/-- One byte of CRC-32C. -/
def crc32cByte (c : Nat) (b : Byte) : Nat :=
  let x := c ^^^ b.toNat
  crc32cBit (crc32cBit (crc32cBit (crc32cBit (crc32cBit (crc32cBit (crc32cBit (crc32cBit x)))))))

/-- The running value of R453 over some more bytes. -/
def crc32cRun (c : Nat) (bs : List Byte) : Nat := bs.foldl crc32cByte c

/-- R158: CRC-32C over a context word and the covered bytes. -/
def crc32c (context covered : List Byte) : Word :=
  BitVec.ofNat 32 (crc32cRun (crc32cRun 0xFFFFFFFF context) covered ^^^ 0xFFFFFFFF)

/-- One bit of the CRC-32 of an Ethernet frame, reflected polynomial 0xEDB88320. -/
def crc32Bit (c : Nat) : Nat := if c % 2 = 1 then (c / 2) ^^^ 0xEDB88320 else c / 2

def crc32Byte (c : Nat) (b : Byte) : Nat :=
  let x := c ^^^ b.toNat
  crc32Bit (crc32Bit (crc32Bit (crc32Bit (crc32Bit (crc32Bit (crc32Bit (crc32Bit x)))))))

/-- The frame check sequence of a frame (R319; its polynomial is that of IEEE 802.3: PRESUMED, log entry 95). -/
def crc32 (bs : List Byte) : Word := BitVec.ofNat 32 (bs.foldl crc32Byte 0xFFFFFFFF ^^^ 0xFFFFFFFF)

/-- One bit of the CRC-8 with polynomial x^8 + x^2 + x + 1, most significant bit first. -/
def crc8Bit (c : Nat) : Nat := if 128 ≤ c then (c * 2 ^^^ 0x107) % 256 else c * 2

def crc8Byte (c : Nat) (b : Byte) : Nat :=
  crc8Bit (crc8Bit (crc8Bit (crc8Bit (crc8Bit (crc8Bit (crc8Bit (crc8Bit (c ^^^ b.toNat))))))))

/-- The CRC-8 of a control block. -/
def crc8 (start : Nat) (bs : List Byte) : Byte := BitVec.ofNat 8 (bs.foldl crc8Byte start)

/-- Exclusive-or of bytes. -/
def xorBytes (bs : List Byte) : Byte := bs.foldl (· ^^^ ·) 0

end Sys2Proof.Machine
end

