-- ==== Sys2Proof/Machine/Update.lean ====
section
/-!
DEFINITION. The named updates of State: one per component, and one per numbered unit of a component.
Every meaning changes the state through these, so that Laws/State.lean can say once what each leaves.
-/
namespace Sys2Proof.Machine
namespace State

/-- Change the component `cfg`. -/
def onCfg (g : Table Word → Table Word) (s : State) : State := { s with cfg := g s.cfg }
/-- Change the component `sys`. -/
def onSys (g : Sys → Sys) (s : State) : State := { s with sys := g s.sys }
/-- Change the component `sdr`. -/
def onSdr (g : Sidereal → Sidereal) (s : State) : State := { s with sdr := g s.sdr }
/-- Change the component `hif`. -/
def onHif (g : Hif → Hif) (s : State) : State := { s with hif := g s.hif }
/-- Change the component `fns`. -/
def onFns (g : Fns → Fns) (s : State) : State := { s with fns := g s.fns }
/-- Change the component `job`. -/
def onJob (g : JobState → JobState) (s : State) : State := { s with job := g s.job }
/-- Change the component `exp`. -/
def onExp (g : Expand → Expand) (s : State) : State := { s with exp := g s.exp }
/-- Change the component `bar`. -/
def onBars (g : Vector Bar 8 → Vector Bar 8) (s : State) : State := { s with bar := g s.bar }
/-- Change the component `se`. -/
def onSe (g : Stripe → Stripe) (s : State) : State := { s with se := g s.se }
/-- Change the component `port`. -/
def onPorts (g : Vector Port 32 → Vector Port 32) (s : State) : State := { s with port := g s.port }
/-- Change the component `hls`. -/
def onHls (g : Heliostat → Heliostat) (s : State) : State := { s with hls := g s.hls }
/-- Change the component `mer`. -/
def onMer (g : Meridian → Meridian) (s : State) : State := { s with mer := g s.mer }
/-- Change the component `axis`. -/
def onAxes (g : Vector Axis 8 → Vector Axis 8) (s : State) : State := { s with axis := g s.axis }
/-- Change the component `eye`. -/
def onEye (g : Eyepiece → Eyepiece) (s : State) : State := { s with eye := g s.eye }
/-- Change the component `cal`. -/
def onCal (g : Calib → Calib) (s : State) : State := { s with cal := g s.cal }
/-- Change the component `occ`. -/
def onOcc (g : Occulter → Occulter) (s : State) : State := { s with occ := g s.occ }
/-- Change the component `spl`. -/
def onSpl (g : Spool → Spool) (s : State) : State := { s with spl := g s.spl }
/-- Change the component `mem`. -/
def onMem (g : List Host.Cell → List Host.Cell) (s : State) : State := { s with mem := g s.mem }
/-- Change the component `eth`. -/
def onEth (g : Ethernet → Ethernet) (s : State) : State := { s with eth := g s.eth }
/-- Change the component `dma`. -/
def onDma (g : Dma → Dma) (s : State) : State := { s with dma := g s.dma }
/-- Change the component `ovl`. -/
def onOvl (g : Overlay → Overlay) (s : State) : State := { s with ovl := g s.ovl }
/-- Change the component `integ`. -/
def onInteg (g : Integrity → Integrity) (s : State) : State := { s with integ := g s.integ }
/-- Change the component `pmc`. -/
def onPmc (g : Pmc → Pmc) (s : State) : State := { s with pmc := g s.pmc }
/-- Change the component `out`. -/
def onOut (g : List Output → List Output) (s : State) : State := { s with out := g s.out }
/-- Change the index of the next free value. -/
def onFree (g : Nat → Nat) (s : State) : State := { s with free := g s.free }
/-- Change the count of ticks. -/
def onTick (g : Nat → Nat) (s : State) : State := { s with tick := g s.tick }
/-- Change the levels at the GPIO balls. -/
def onGpio (g : Word → Word) (s : State) : State := { s with gpioIn := g s.gpioIn }
/-- Change the W1C bits that hardware has set in this tick. -/
def onSetNow (g : List Nat → List Nat) (s : State) : State := { s with setNow := g s.setNow }
/-- Change a ring context. -/
def onRing (r : RingIx) (g : Ring → Ring) (s : State) : State :=
  s.onHif fun u => { u with rings := upd u.rings r g }
/-- Change a bar. -/
def onBar (k : BarIx) (g : Bar → Bar) (s : State) : State :=
  s.onBars fun u => upd u k g
/-- Change a head port. -/
def onPort (p : PortIx) (g : Port → Port) (s : State) : State :=
  s.onPorts fun u => upd u p g
/-- Change an axis. -/
def onAxis (x : AxisIx) (g : Axis → Axis) (s : State) : State :=
  s.onAxes fun u => upd u x g
/-- Change a camera port. -/
def onCam (c : CamIx) (g : Camera → Camera) (s : State) : State :=
  s.onEye fun u => { u with cam := upd u.cam c g }
/-- Change a master encoder. -/
def onEnc (m : EncIx) (g : Encoder → Encoder) (s : State) : State :=
  s.onHls fun u => { u with enc := upd u.enc m g }
/-- Change an HBM channel. -/
def onChan (c : ChanIx) (g : Chan → Chan) (s : State) : State :=
  s.onSpl fun u => { u with chans := upd u.chans c g }
/-- Change an SRAM macro group. -/
def onGroup (i : GroupIx) (g : Group → Group) (s : State) : State :=
  s.onSpl fun u => { u with groups := upd u.groups i g }
/-- Change an Ethernet port. -/
def onEthPort (p : EthIx) (g : EthPort → EthPort) (s : State) : State :=
  s.onEth fun u => { u with port := upd u.port p g }
/-- Change a DMA channel. -/
def onDmaCh (ch : DmaIx) (g : DmaChan → DmaChan) (s : State) : State :=
  s.onDma fun u => { u with ch := upd u.ch ch g }
/-- Change a performance counter. -/
def onCounter (n : Fin 64) (g : Counter → Counter) (s : State) : State :=
  s.onPmc fun u => { u with ctr := upd u.ctr n g }
/-- Change a bandwidth monitor. -/
def onMonitor (m : Fin 16) (g : Monitor → Monitor) (s : State) : State :=
  s.onPmc fun u => { u with bw := upd u.bw m g }
/-- Change a time slot. -/
def onTSlot (i : Fin 256) (g : Slot → Slot) (s : State) : State :=
  s.onMer fun u => { u with tslot := upd u.tslot i g }
/-- Change a position slot. -/
def onPSlot (j : Fin 128) (g : Slot → Slot) (s : State) : State :=
  s.onMer fun u => { u with pslot := upd u.pslot j g }
/-- Change a stripe engine. -/
def onEngineU (e : Fin 68) (g : Engine → Engine) (s : State) : State :=
  s.onSe fun u => { u with engines := upd u.engines e g }
/-- Change the link of a head port. -/
def onLink (p : PortIx) (g : Link → Link) (s : State) : State := s.onPort p fun q => { q with link := g q.link }
/-- R14: hardware sets bit `i` of the W1C register at `off` in this tick. -/
def setW1c (off i : Nat) (s : State) : State := s.onSetNow fun l => (32 * off + i) :: l
/-- R14: hardware has set that bit in this tick, so that a write of 1 leaves it set. -/
def heldW1c (s : State) (off i : Nat) : Bool := s.setNow.contains (32 * off + i)
/-- Let something leave the device. -/
def emit (x : Output) (s : State) : State := s.onOut fun o => o ++ [x]
/-- Do `g` when `c` holds. -/
def when (c : Bool) (g : State → State) (s : State) : State := if c then g s else s
/-- Do `g` for each element of a list, in order. -/
def forEach {α : Type} (l : List α) (g : α → State → State) (s : State) : State := l.foldl (fun t a => g a t) s

end State
end Sys2Proof.Machine
end

