-- ==== Sys2Proof/Machine/RegMap.lean ====
section
/-!
DEFINITION. The register map of R490 to R494: for every BAR0 offset that the block tables list with a
stored field (RW or SH), its reset value, its stored bits, which of them are live, and the condition
under which the others are written. An offset of a register with no stored field has `rw` 0; an offset
that no table lists has no entry (R491). Reserved bits are not stored, so they read 0 (R15); what hardware changes
in a stored field is the table of R13. The mode settings of R153 are fields of these registers.
-/
namespace Sys2Proof.Machine

/-- The "Written while" conditions of the register summary, and those of the rules it names. -/
inductive Cond where
  | never | live | engine | timebase
  | bar (k : Nat) | port (p : Nat) | cam (c : Nat) | axis (x : Nat)
  | stage2                     -- R487
  | sdrIdle                    -- R84
  | ringDown (r : Nat)         -- R98
  | tslotIdle (i : Nat)        -- R311
  | pslotIdle (j : Nat)        -- R311
  | ptpOff                     -- R319, R320
  | ethOff (p : Nat)           -- R421
  | btOff                      -- R428
  | dmaDown (ch : Nat)         -- R431
  | noPrepared                 -- R439
  | occIdle                    -- R381
  | ctrOff (n : Nat)           -- R470
  | bwOff (m : Nat)            -- R473
  | ffBank (c bank : Nat)      -- R352, R355
  deriving DecidableEq, Repr

structure RegInfo where
  reset : Nat
  rw    : Nat      -- stored bits
  live  : Nat      -- of these, the live ones
  cond  : Cond
  deriving DecidableEq, Repr

/-- A register that keeps a 32-bit value under one condition. -/
def RegInfo.stored (reset rw : Nat) (cond : Cond) : RegInfo := ⟨reset, rw, if cond = .live then rw else 0, cond⟩
/-- A register with no stored field. -/
def RegInfo.ro : RegInfo := ⟨0, 0, 0, .never⟩

/-- The index and the offset within its element of an offset that lies in an array of registers. -/
def arr (base stride n o : Nat) : Option (Nat × Nat) :=
  if base ≤ o ∧ o < base + stride * n then some ((o - base) / stride, (o - base) % stride) else none

def full : Nat := 0xFFFFFFFF

/-- Block 0x00 (R490, R155, R493). -/
def regSys (o : Nat) : Option RegInfo :=
  if o = 0xC then some (.stored 0 3 .engine)
  else if o = 0 ∨ o = 4 ∨ o = 8 ∨ o = 0x10 then some .ro else none

/-- Block 0x01 (R487). -/
def regBoot (o : Nat) : Option RegInfo :=
  if o = 8 ∨ o = 0xC ∨ o = 0x10 then some (.stored 0 full .stage2)
  else if o = 0 ∨ o = 4 then some .ro else none

/-- A ring context of R96: `+0x00` to `+0x20`. -/
def regRing (r j : Nat) : Option RegInfo :=
  if j = 0 ∨ j = 0x10 then some (.stored 0 0xFFFFF000 (.ringDown r))
  else if j = 4 ∨ j = 0x14 then some (.stored 0 full (.ringDown r))
  else if j = 8 then some (.stored 4 0xF000001F (.ringDown r))
  else if j = 0x18 then some ⟨0x2004, 0x7FFFFFFF, 0x7FFFF000, .ringDown r⟩
  else if j = 0x20 then some .ro else none

/-- Block 0x02 (R96 to R100, R116, R123, R494). -/
def regHif (o : Nat) : Option RegInfo :=
  match arr 0x10000 0x40 128 o with
  | some (r, j) => regRing r j
  | none =>
    if o = 0 then some (.stored 0 0xFF00 .live)
    else if o = 4 then some (.stored 0 0x8000001F .live)
    else if o = 0x20 then some (.stored 100 0x8000FFFF .live)
    else if o = 8 ∨ o = 0xC ∨ o = 0x10 ∨ o = 0x14 ∨ o = 0x24 then some .ro else none

/-- Block 0x03: the MSI-X table and the Pending Bit Array (R121). -/
def regMsix (o : Nat) : Option RegInfo :=
  match arr 0 16 128 o with
  | some (_, j) =>
    if j = 0 then some (.stored 0 0xFFFFFFFC .live)
    else if j = 4 ∨ j = 8 then some (.stored 0 full .live)
    else if j = 12 then some (.stored 1 1 .live) else none
  | none => (arr 0x1000 4 4 o).bind fun q => if q.2 = 0 then some .ro else none

/-- Block 0x04 (R83 to R88). -/
def regSdr (o : Nat) : Option RegInfo :=
  if o = 0x10 then some (.stored 0 0x7FFF .sdrIdle)
  else if o = 0x14 then some (.stored 0 full .sdrIdle)
  else if o = 0x18 then some (.stored 0 0xFFFF .sdrIdle)
  else if o = 0x30 ∨ o = 0x38 then some (.stored 0 full .live)
  else if o = 0x34 ∨ o = 0x3C then some (.stored 0 0xFFFF .live)
  else if o = 0x40 ∨ o = 0x44 ∨ o = 0x48 ∨ o = 0x4C then some (.stored 0 0xF8FF .live)
  else if o = 0 ∨ o = 4 ∨ o = 8 ∨ o = 0x20 ∨ o = 0x24 then some .ro
  else (arr 0x50 4 8 o).bind fun q => if q.2 = 0 then some .ro else none

/-- Block 0x05 (R131 to R133, R143, R144). -/
def regJob (o : Nat) : Option RegInfo :=
  if o = 0 then some (.stored 64 0x007F007F .engine)
  else if o = 4 then some (.stored 0 0xF8FFFFFF .engine)
  else if o = 8 then some (.stored 0x00400100 full .engine)
  else (arr 0x10 4 20 o).bind fun q => if q.2 = 0 then some .ro else none

/-- Block 0x06 (R165, R166, R175). -/
def regDcmp (o : Nat) : Option RegInfo :=
  if o = 0 then some (.stored full full .engine)
  else if o = 4 then some (.stored 0 3 .engine)
  else if o = 0x200 then some .ro
  else (arr 0x100 4 34 o).bind fun q => if q.2 = 0 then some .ro else none

/-- Block 0x07 (R61). -/
def regGpio (o : Nat) : Option RegInfo :=
  if o = 0 ∨ o = 4 ∨ o = 8 then some (.stored 0 full .live)
  else if o = 0xC then some (.stored full full .live)
  else if o = 0x10 then some .ro else none

/-- Block 0x08 (R179, R201, R204, R205, R207). -/
def regSe (o : Nat) : Option RegInfo :=
  match arr 0 8 8 o, arr 0x100 8 8 o, arr 0x200 4 8 o with
  | some (k, j), _, _ =>
    if j = 0 ∨ j = 4 then
      some (.stored ((8 * k + j + 3) * 2 ^ 24 + (8 * k + j + 2) * 2 ^ 16 + (8 * k + j + 1) * 2 ^ 8 + 8 * k + j)
        0x7F7F7F7F (.bar k))
    else none
  | _, some (k, j), _ =>
    if j = 0 then some (.stored (1024 * 2 ^ 16 + 12) 0xFFFF001F (.bar k)) else if j = 4 then some .ro else none
  | _, _, some (k, j) => if j = 0 then some (.stored (64 * 2 ^ 8 + 32) 0xFFFF (.bar k)) else none
  | none, none, none =>
    match arr 0x300 4 16 o, arr 0x400 4 68 o with
    | some (_, 0), _ => some .ro
    | _, some (_, 0) => some .ro
    | _, _ => none

/-- Block 0x09 (R210, R213, R215, R216, R228). -/
def regRet (o : Nat) : Option RegInfo :=
  match arr 0 4 8 o, arr 0x100 4 16 o, arr 0x200 16 8 o with
  | some (k, j), _, _ =>
    if j = 0 then some (.stored (2 ^ 29 + 2 ^ 24 + 9 * 2 ^ 20 + 9 * 2 ^ 16) 0xEFFFFFFF (.bar k)) else none
  | _, some (i, j), _ => if j = 0 then some (.stored 0 0x01FF01FF (.bar (i / 2))) else none
  | _, _, some (k, j) =>
    if j = 0 then some (.stored (27 * 2 ^ 24 + 16 * 2 ^ 16 + 27 * 2 ^ 8 + 37) full (.bar k))
    else if j = 4 then some (.stored (5 * 2 ^ 24 + 16 * 2 ^ 16 + 27 * 2 ^ 8 + 37) full (.bar k))
    else if j = 8 then some (.stored (5 * 2 ^ 24 + 16 * 2 ^ 16 + 27 * 2 ^ 8 + 16) full (.bar k))
    else none
  | none, none, none =>
    match arr 0x400 32 8 o, arr 0x600 4 8 o with
    | some (k, j), _ =>
      if j % 4 = 0 then
        some (.stored (16383 * 2 ^ 16 + if j = 0 then 0 else 16383) 0x3FFF3FFF (.bar k))
      else none
    | _, some (_, 0) => some .ro
    | _, _ => none

/-- Block 0x0A (R230, R241 to R243, R248, R250, R251). -/
def regPrm (o : Nat) : Option RegInfo :=
  match arr 0 4 8 o, arr 0x1000 32 32 o with
  | some (k, j), _ => if j = 0 then some (.stored 0xF 0xF (.bar k)) else none
  | _, some (p, j) =>
    if j = 0 then some (.stored 0xA0000040 0xE1FFFFFF (.port p))
    else if j = 4 then some (.stored (2000 * 2 ^ 16 + 50 * 2 ^ 8 + 20) full (.port p))
    else if j = 8 then some (.stored (2857 * 2 ^ 16 + 800) 0xFFFF1FFF (.port p))
    else if j = 0xC then some .ro else none
  | none, none =>
    if o = 0x2000 then some (.stored 25 0x3F .engine)
    else if o = 0x2004 ∨ o = 0x2008 then some .ro else none

/-- Block 0x0B (R278, R280). -/
def regAbr (o : Nat) : Option RegInfo :=
  match arr 0 0x400 32 o with
  | some (p, j) =>
    if j = 0 then some (.stored 0x44000000 0xCF000000 (.port p))
    else if j = 4 then some (.stored (8 * 2 ^ 8 + 2) 0x1F0F (.port p))
    else if j = 0x20 then some (.stored 30 0x00FFFF3F .live)
    else if j = 8 ∨ j = 0xC ∨ j = 0x10 ∨ j = 0x24 then some .ro
    else (arr 0x40 4 15 j).bind fun q => if q.2 = 0 then some .ro else none
  | none => none

/-- A master encoder's registers (R284, R285, R289, R294). -/
def regEnc (j : Nat) : Option RegInfo :=
  if j = 0 then some (.stored 0x00020100 0xC007FFFF .timebase)
  else if j = 8 then some (.stored 0x20000004 0xFF00FFFF .timebase)
  else if j = 0x40 then some (.stored 0 0xF .timebase)
  else if j = 4 then some .ro
  else match arr 0x10 4 8 j, arr 0x88 4 30 j, arr 0x100 4 32 j with
    | some (_, 0), _, _ => some .ro
    | _, some (_, 0), _ => some (.stored 0 full .timebase)
    | _, _, some (i, 0) =>
      if i % 2 = 0 then some (.stored 0 full .timebase) else some (.stored 1 1 .timebase)
    | _, _, _ => none

/-- Block 0x0C (R284, R285, R289, R291, R294, R298, R300, R303). -/
def regHls (o : Nat) : Option RegInfo :=
  match arr 0 0x1000 2 o, arr 0x2100 4 64 o, arr 0x3000 16 8 o with
  | some (_, j), _, _ => regEnc j
  | _, some (_, j), _ => if j = 0 then some (.stored 0 0x80FFFFFF .timebase) else none
  | _, _, some (k, j) =>
    if j = 0 then some (.stored 0 full (.bar k))
    else if j = 4 then some (.stored 0 0x00FFFFFF (.bar k))
    else if j = 8 then some (.stored 0x80000000 0x87FFFFFF (.bar k)) else none
  | none, none, none =>
    if o = 0x2000 then some (.stored 0 full .timebase)
    else if o = 0x2004 then some .ro
    else if o = 0x2010 then some (.stored 0 0xFFFFFF3F .timebase)
    else if o = 0x2014 then some (.stored 16 0xE000FFFF .timebase)
    else if o = 0x2018 then some (.stored 0x10000 full .timebase)
    else if o = 0x2020 ∨ o = 0x2024 ∨ o = 0x2028 ∨ o = 0x202C then some (.stored 0 full .timebase)
    else none

/-- Block 0x0D (R305 to R320). -/
def regMer (o : Nat) : Option RegInfo :=
  match arr 0x10000 32 256 o, arr 0x20000 32 128 o with
  | some (i, j), _ =>
    if j = 0 ∨ j = 0xC ∨ j = 0x10 then some (.stored 0 full (.tslotIdle i))
    else if j = 4 then some (.stored 0 0xFFFF (.tslotIdle i))
    else if j = 8 then some (.stored 0 0x3FFFFFFF (.tslotIdle i))
    else if j = 0x14 then some (.stored 1 0x0180FFFF .live) else none
  | _, some (i, j) =>
    if j = 0 ∨ j = 4 ∨ j = 8 ∨ j = 0x10 ∨ j = 0x18 then some (.stored 0 full (.pslotIdle i))
    else if j = 0xC then some (.stored 0 0xE0FFFFFF (.pslotIdle i))
    else if j = 0x14 then some (.stored 1 0x0180FFFF .live) else none
  | none, none =>
    if o = 0x10 then some (.stored 0x02800000 full .live)
    else if o = 0x20 then some (.stored 0 0xF0000000 .timebase)
    else if o = 0x24 then some (.stored 0 full .timebase)
    else if o = 0x28 then some (.stored 0 0xFFFF .timebase)
    else if o = 0x2C then some (.stored 0 0x3FFFFFFF .timebase)
    else if o = 0x40 then some ⟨1000, full, 0xC000FFFF, .ptpOff⟩
    else if o = 0x4C then some (.stored 0 full .ptpOff)
    else if o = 0x60 then some (.stored 0x6060 0x7F7F .timebase)
    else if o = 0 ∨ o = 4 ∨ o = 8 ∨ o = 0xC ∨ o = 0x14 ∨ o = 0x44 ∨ o = 0x48 then some .ro
    else (arr 0x80 4 16 o).bind fun q => if q.2 = 0 then some .ro else none

/-- Block 0x0E (R329, R330, R342, R344). -/
def regMot (o : Nat) : Option RegInfo :=
  match arr 0 0x1000 8 o with
  | some (x, j) =>
    if j = 0 then some (.stored 0x20193264 full (.axis x))
    else if j = 4 ∨ j = 8 ∨ j = 0x20 ∨ j = 0x24 then some (.stored 0 0x00FFFFFF (.axis x))
    else if j = 0xC ∨ j = 0x10 ∨ j = 0x14 ∨ j = 0x18 ∨ j = 0x1C ∨ j = 0x28 then some (.stored 0 full (.axis x))
    else if j = 0x2C then some (.stored 0 0xC000FFFF (.axis x))
    else if j = 0x30 then some (.stored 0 0xF0000000 (.axis x))
    else if j = 0x44 ∨ j = 0x4C then some (.stored 0 0xFFFF (.axis x))
    else if j = 0x38 ∨ j = 0x3C ∨ j = 0x40 ∨ j = 0x48 ∨ j = 0x50 ∨ j = 0x54 then some (.stored 0 full (.axis x))
    else if j = 0x58 ∨ j = 0x5C then some (.stored 0 full .live)
    else if j = 0x60 ∨ j = 0x64 then some .ro
    else (arr 0x70 4 8 j).bind fun q => if q.2 = 0 then some .ro else none
  | none => none

/-- A camera's registers (R346, R347, R352, R355, R357, R359, R366). -/
def regCam (c j : Nat) : Option RegInfo :=
  match arr 0x8000 0x3000 2 j with
  | some (b, q) =>
    if q % 4 = 0 then some (.stored (16 * (q % 0x1000 / 4)) 0x3FFF (.ffBank c b)) else none
  | none =>
    if j = 0 then some (.stored 0x84140408 full (.cam c))
    else if j = 4 then some (.stored 0x00020010 full (.cam c))
    else if j = 8 then some (.stored 0 0x00F1FFFF (.cam c))
    else if j = 0xC then some .ro
    else if j = 0x10 then some (.stored 0x00100000 0x0730E0FF .live)
    else if j = 0x14 ∨ j = 0x18 then some (.stored 0 0x3FFF3FFF .live)
    else if j = 0x1C then some (.stored 0x40004000 full .live)
    else if j = 0x20 then some (.stored 0x4000 0xFFFF .live)
    else if j = 0x24 ∨ j = 0x2C then some (.stored 0x1000 full .live)
    else if j = 0x28 ∨ j = 0x30 then some (.stored 0 full .live)
    else if j = 0x34 then some (.stored 0x1000 0xFFFF .live)
    else if j = 0x38 then some (.stored 0 full .live)
    else if j = 0x3C then some (.stored full full .live)
    else if j = 0x40 then some (.stored 0xFFFF0000 full .live)
    else if j = 0x140 then some (.stored 0 0x801FFFFF .live)
    else if j = 0x144 then some (.stored 0 full .live)
    else if j = 0x150 then some (.stored 0 full .live)
    else if j = 0x154 then some (.stored 0x10000000 0x30000000 .live)
    else match arr 0x80 4 32 j, arr 0x100 4 8 j with
      | some (_, 0), _ => some (.stored 0 full .live)
      | _, some (_, 0) => some (.stored 0 full .live)
      | _, _ => none

/-- Block 0x0F (R346 to R366). -/
def regEye (o : Nat) : Option RegInfo :=
  match arr 0 0x10000 4 o with
  | some (c, j) => regCam c j
  | none => if o = 0x50000 then some (.stored 0 0xFFFF .live) else none

/-- Block 0x10 (R368, R373, R377, R381, R388, R392). -/
def regCal (o : Nat) : Option RegInfo :=
  match arr 0 32 4 o, arr 0x100 16 8 o with
  | some (c, j), _ =>
    if j = 0 ∨ j = 8 ∨ j = 0x10 then some (.stored 0 full (.cam c))
    else if j = 4 then some (.stored 0x00400100 0xFFFF1FFF (.cam c))
    else if j = 0xC then some (.stored 0x10000 full (.cam c)) else none
  | _, some (k, j) =>
    if j = 0 then some ⟨0x14102000, full, 0xBFFFFFFF, .bar k⟩
    else if j = 4 then some (.stored 0x20406400 full .live)
    else if j = 8 then some (.stored 0x0A000000 full .live)
    else if j = 0xC then some (.stored 0 full .live) else none
  | none, none =>
    if o = 0x200 then some (.stored 0x000803E8 0xC0FFFFFF .live)
    else if o = 0x204 then some (.stored 0x01000004 full .engine)
    else if o = 0x1000 then some (.stored 0x00800403 0xFFE0FFFF .occIdle)
    else if o = 0x1004 then some (.stored 0x4000 full .occIdle)
    else if o = 0x1008 then some (.stored (600 * 2 ^ 16 + 1) 0xFFFF00FF .occIdle)
    else if o = 0x100C ∨ o = 0x1010 then some (.stored (17000 * 2 ^ 16 + 12000) full .occIdle)
    else if o = 0x1014 then some (.stored (57160 * 2 ^ 16 + 400) full .occIdle)
    else if o = 0x1018 then some (.stored (400 * 2 ^ 16) full .occIdle)
    else if o = 0x208 ∨ o = 0x101C ∨ o = 0x1020 then some .ro else none

/-- The reset TARGET of QoS port q, in 10 ns (R413). -/
def qpTarget (q : Nat) : Nat :=
  match q with
  | 0 => 200 | 1 => 500 | 2 => 400 | 3 => 200 | 4 => 100 | 5 => 100000 | 6 => 10000 | _ => 50

/-- Block 0x11 (R396, R403, R406, R408, R409, R413, R416). -/
def regSpl (o : Nat) : Option RegInfo :=
  if o = 0 then some (.stored 0x03E80064 full .engine)
  else if o = 4 then some (.stored (16349 * 2 ^ 16 + 10 * 2 ^ 8) 0xFFFFFF00 .live)
  else if o = 8 then some (.stored (64 * 2 ^ 24 + 100) 0xFF00FFFF .live)
  else if o = 0xC then some (.stored 0 0x207F7F7F .engine)
  else if o = 0x10 then some (.stored 0 0xFFFFFF .engine)
  else if o = 0x14 ∨ o = 0x18 then some (.stored 0 full .engine)
  else if o = 0x20 ∨ o = 0x24 then some .ro
  else match arr 0x40 4 12 o, arr 0x80 4 8 o with
    | some (r, 0), _ =>
      some (.stored ((5 * r + 4) * 2 ^ 24 + (5 * r + 3) * 2 ^ 18 + (5 * r + 2) * 2 ^ 12 + (5 * r + 1) * 2 ^ 6 + 5 * r)
        0x3FFFFFFF .engine)
    | _, some (q, 0) => some (.stored (qpTarget q) 0xFFFFFF .engine)
    | _, _ =>
      if o % 4 = 0 ∧ ((arr 0xA0 4 8 o).isSome ∨ (arr 0x1000 8 64 o).isSome ∨ (arr 0x2000 8 256 o).isSome
          ∨ (arr 0x10000 128 64 o).isSome ∨ (arr 0x20000 64 256 o).isSome) then some .ro else none

/-- Block 0x12 (R421, R428, R430). -/
def regEth (o : Nat) : Option RegInfo :=
  match arr 0 0x1000 2 o with
  | some (p, j) =>
    if j = 0 then some ⟨0x0C000000, 0xFFFFF000, 0x80000000, .ethOff p⟩
    else if j = 4 ∨ j = 0xC ∨ j = 0x10 ∨ j = 0x14 ∨ j = 0x18 ∨ j = 0x1C then some (.stored 0 full (.ethOff p))
    else if j = 8 then some (.stored 0 0xFFFF (.ethOff p))
    else if j = 0x20 ∨ j = 0x24 then some .ro else none
  | none =>
    if o = 0x2000 then some ⟨19520 * 2 ^ 16 + 20 * 2 ^ 8 + 8 * 2 ^ 4, 0xFFFFFFF8, 0x0000FFF8, .btOff⟩ else none

/-- Block 0x13 (R431, R434, R439). -/
def regDma (o : Nat) : Option RegInfo :=
  match arr 0x100 32 32 o with
  | some (ch, j) =>
    if j = 0 then some (.stored 0 0xF8000000 (.dmaDown ch))
    else if j = 0x10 ∨ j = 0x14 then some (.stored 0 full (.dmaDown ch))
    else if j = 4 ∨ j = 8 ∨ j = 0x18 ∨ j = 0x1C then some .ro else none
  | none => if o = 0 then some (.stored 0x10000000 0xFFFFF000 .noPrepared) else none

/-- Block 0x14 (R449). -/
def regOvl (o : Nat) : Option RegInfo :=
  if o = 0 then some (.stored (1536 * 2 ^ 16 + 512) 0xC7FF07FF .live)
  else if o = 4 ∨ o = 8 ∨ o = 0xC then some .ro else none

/-- Block 0x15 (R460, R467). -/
def regInt (o : Nat) : Option RegInfo :=
  if o = 4 then some (.stored 0 full .engine)
  else if o = 8 then some (.stored 0xA00 0xFFFFFF00 .engine)
  else if o = 0 then some .ro else none

/-- Block 0x16 (R469 to R475). -/
def regPmc (o : Nat) : Option RegInfo :=
  match arr 0x100 32 64 o, arr 0x1000 16 16 o with
  | some (n, j), _ =>
    if j = 0 then some ⟨0, 0xF80001FF, 0x80000000, .ctrOff n⟩
    else if j = 0x10 then some (.stored 0 full (.ctrOff n))
    else if j = 0x14 then some (.stored 0 0xFFFF (.ctrOff n))
    else if j = 8 ∨ j = 0xC then some .ro else none
  | _, some (m, j) =>
    if j = 0 then some ⟨1000, 0xFFCFFFFF, 0x80000000, .bwOff m⟩
    else if j = 4 ∨ j = 8 then some .ro else none
  | none, none =>
    if o = 0 then some (.stored 0 0x8000007F .live) else if o = 4 then some .ro else none

/-- R490: the register at a BAR0 offset. -/
def regInfo (off : Nat) : Option RegInfo :=
  let o := off % 0x100000
  match off / 0x100000 with
  | 0x00 => regSys o | 0x01 => regBoot o | 0x02 => regHif o | 0x03 => regMsix o
  | 0x04 => regSdr o | 0x05 => regJob o | 0x06 => regDcmp o | 0x07 => regGpio o
  | 0x08 => regSe o | 0x09 => regRet o | 0x0A => regPrm o | 0x0B => regAbr o
  | 0x0C => regHls o | 0x0D => regMer o | 0x0E => regMot o | 0x0F => regEye o
  | 0x10 => regCal o | 0x11 => regSpl o | 0x12 => regEth o | 0x13 => regDma o
  | 0x14 => regOvl o | 0x15 => regInt o | 0x16 => regPmc o | _ => none

/-- The reset value of the stored bits at an offset. -/
def regReset (off : Nat) : Word := BitVec.ofNat 32 ((regInfo off).map (·.reset) |>.getD 0)

/-- The stored value at an offset. -/
def State.rd (s : State) (off : Nat) : Word := tget regReset s.cfg off
/-- The stored value at an offset, as a number. -/
def State.rdN (s : State) (off : Nat) : Nat := (s.rd off).toNat
/-- Bits hi to lo of the register at an offset. -/
def State.fld (s : State) (off hi lo : Nat) : Nat := bits (s.rdN off) hi lo
/-- One bit of the register at an offset. -/
def State.fbit (s : State) (off i : Nat) : Bool := bit (s.rdN off) i
/-- The 64-bit value of a register pair. -/
def State.rd64 (s : State) (off : Nat) : Nat := s.rdN off + 4294967296 * s.rdN (off + 4)
/-- Store a value at an offset. -/
def State.wr (s : State) (off : Nat) (v : Word) : State := s.onCfg fun t => tput regReset t off v
/-- Store a number at an offset. -/
def State.wrN (s : State) (off v : Nat) : State := s.wr off (BitVec.ofNat 32 v)
/-- Write a field of a register, of `width` bits from bit `lo` up. -/
def State.putField (off lo width v : Nat) (s : State) : State :=
  let x := s.rdN off
  s.wrN off (x - x / 2 ^ lo % 2 ^ width * 2 ^ lo + v % 2 ^ width * 2 ^ lo)

/-! The BAR0 offsets that the meanings name. -/
def aRstCtrl : Nat := 0x8
def aSysPower : Nat := 0xC
def aBootCtrl : Nat := 0x100000
def aBootAddr : Nat := 0x100008
def aBootLen : Nat := 0x100010
def aHifCtrl : Nat := 0x200000
def aHifDbg : Nat := 0x200004
def aHifHbCfg : Nat := 0x200020
def aHifHb : Nat := 0x200024
def aRing (r : RingIx) (j : Nat) : Nat := 0x210000 + 0x40 * r.1 + j
def aMsix (v : Nat) : Nat := 0x300000 + 16 * v + 12
def aSdr (j : Nat) : Nat := 0x400000 + j
def aJobSpool : Nat := 0x500000
def aJobTransport : Nat := 0x500004
def aJobEdge : Nat := 0x500008
def aDcmp (j : Nat) : Nat := 0x600000 + j
def aGpio (j : Nat) : Nat := 0x700000 + j
def aSeAssign (k : Nat) : Nat := 0x800000 + 8 * k
def aSeTrim (k : Nat) : Nat := 0x800100 + 8 * k
def aSeRedist (k : Nat) : Nat := 0x800200 + 4 * k
def aRetCfg (k : Nat) : Nat := 0x900000 + 4 * k
def aRetPhase (k : Nat) : Nat := 0x900100 + 8 * k
def aRetEdk (k i : Nat) : Nat := 0x900200 + 16 * k + 4 * i
def aRetLval (k m : Nat) : Nat := 0x900400 + 32 * k + 4 * m
def aPrmBar (k : Nat) : Nat := 0xA00000 + 4 * k
def aPrmPort (p j : Nat) : Nat := 0xA01000 + 32 * p + j
def aPrmWdog : Nat := 0xA02000
def aPrmTrip : Nat := 0xA02004
def aPrmSafe : Nat := 0xA02008
def aAbr (p j : Nat) : Nat := 0xB00000 + 0x400 * p + j
def aHlsEnc (m j : Nat) : Nat := 0xC00000 + 0x1000 * m + j
def aHls (j : Nat) : Nat := 0xC00000 + j
def aHlsBar (k j : Nat) : Nat := 0xC03000 + 16 * k + j
def aMer (j : Nat) : Nat := 0xD00000 + j
def aTSlot (i j : Nat) : Nat := 0xD10000 + 32 * i + j
def aPSlot (i j : Nat) : Nat := 0xD20000 + 32 * i + j
def aMot (x j : Nat) : Nat := 0xE00000 + 0x1000 * x + j
def aCam (c j : Nat) : Nat := 0xF00000 + 0x10000 * c + j
def aEyeIo : Nat := 0xF50000
def aCalCam (c j : Nat) : Nat := 0x1000000 + 32 * c + j
def aCalBar (k j : Nat) : Nat := 0x1000100 + 16 * k + j
def aCal (j : Nat) : Nat := 0x1000000 + j
def aSpl (j : Nat) : Nat := 0x1100000 + j
def aEthPort (p j : Nat) : Nat := 0x1200000 + 0x1000 * p + j
def aEthBt : Nat := 0x1202000
def aDmaCfg : Nat := 0x1300000
def aDma (ch j : Nat) : Nat := 0x1300100 + 32 * ch + j
def aOvl (j : Nat) : Nat := 0x1400000 + j
def aInt (j : Nat) : Nat := 0x1500000 + j
def aPmc (j : Nat) : Nat := 0x1600000 + j
def aPmcCtr (n j : Nat) : Nat := 0x1600100 + 32 * n + j
def aPmcBw (m j : Nat) : Nat := 0x1601000 + 16 * m + j

end Sys2Proof.Machine
end

