-- ==== Sys2Proof/Machine/Ops.lean ====
section
/-!
DEFINITION. The operations every family shares: who runs (R30 to R33), who is in service (R230), free
values, performance events (R469), the posting of events (R112 to R115, R512), the completion of
entries (R108, R120), and refused writes (R31).
-/
namespace Sys2Proof.Machine

/-- What a meaning answers: a next state, a fault or a refusal. -/
abbrev Result := Host.Outcome State Fault Refusal

/-! ## Classes, codes and units -/

/-- R39: the order of the classes. -/
def Cls.rank : Cls → Nat
  | .none => 0 | .c => 1 | .p => 2 | .s => 3 | .d => 4

/-- The higher of two classes. -/
def Cls.max (a b : Cls) : Cls := if a.rank < b.rank then b else a

/-- The TYPE byte of R112. -/
def EvType.byte : EvType → Nat
  | .completion => 1 | .error => 2 | .configRefused => 3 | .status => 4
  | .sample => 5 | .sheet => 6 | .lost => 7

/-! Unit bytes of R457. -/
def unitPort (p : PortIx) : Nat := p.1
def unitBar (k : BarIx) : Nat := 0x20 + k.1
def unitEnc (m : EncIx) : Nat := 0x40 + m.1
def unitCam (c : CamIx) : Nat := 0x50 + c.1
def unitAxis (x : AxisIx) : Nat := 0x60 + x.1
def unitChan (c : ChanIx) : Nat := 0x80 + c.1
def unitNone : Nat := 0xFF

/-- R457: INFO0 of a code that touches no sheet. -/
def infoUnit (u : Nat) : BitVec 64 := BitVec.ofNat 64 (u * 2 ^ 56)
/-- R457: INFO0 of a code that touches a sheet. -/
def infoSheet (sheet : BitVec 32) (row unit : Nat) : BitVec 64 :=
  BitVec.ofNat 64 (sheet.toNat + row % 2 ^ 24 * 2 ^ 32 + unit * 2 ^ 56)
/-- A 32-bit detail in INFO1. -/
def detail (n : Nat) : BitVec 48 := BitVec.ofNat 48 (n % 2 ^ 32)

/-! ## Topology and functions (R17, R30) -/

/-- R17: HPn belongs to bar n/4. -/
def barOf (p : PortIx) : BarIx := ⟨p.1 / 4, by omega⟩
/-- The i-th head port of a bar. -/
def portOf (k : BarIx) (i : Fin 4) : PortIx := ⟨4 * k.1 + i.1, by omega⟩
/-- The four head ports of a bar. -/
def portsOf (k : BarIx) : List PortIx := (all 4).map (portOf k)

namespace State

/-- The device is out of reset and firmware has reported ready (R79). -/
def up (s : State) : Bool := s.sys.held.isEmpty && s.sys.fwReady
/-- The host can reach the device and BAR0 answers (R79, R91, R125). -/
def hostUp (s : State) : Bool := s.up && s.hif.linkUp && !s.hif.pcie.d3hot

def engRuns (s : State) : Bool := s.fns.eng.running
def tbRuns (s : State) : Bool := s.fns.tb.running
def barRuns (s : State) (k : BarIx) : Bool := s.fns.bar[k].running
def portRuns (s : State) (p : PortIx) : Bool := s.fns.port[p].running
def camRuns (s : State) (c : CamIx) : Bool := s.fns.cam[c].running
def axisRuns (s : State) (x : AxisIx) : Bool := s.fns.axis[x].running

/-- The run state of a function of R30. -/
def fn (s : State) : FnRef → Fn
  | .port p => s.fns.port[p] | .bar k => s.fns.bar[k] | .cam c => s.fns.cam[c]
  | .axis x => s.fns.axis[x] | .timebase => s.fns.tb | .engine => s.fns.eng

/-- Change the run state of a function. -/
def onFn (f : FnRef) (g : Fn → Fn) (s : State) : State :=
  s.onFns fun t => match f with
    | .port p => { t with port := upd t.port p g }
    | .bar k => { t with bar := upd t.bar k g }
    | .cam c => { t with cam := upd t.cam c g }
    | .axis x => { t with axis := upd t.axis x g }
    | .timebase => { t with tb := g t.tb }
    | .engine => { t with eng := g t.eng }

/-- R230: the port is named in its bar's PORT_EN. -/
def inService (s : State) (p : PortIx) : Bool := s.fbit (aPrmBar (barOf p).1) (p.1 % 4)
/-- R230: PORT_EN of a bar. -/
def portEn (s : State) (k : BarIx) : Nat := s.fld (aPrmBar k.1) 3 0
/-- The running ports in service of a bar. -/
def livePorts (s : State) (k : BarIx) : List PortIx :=
  (portsOf k).filter fun p => s.portRuns p && s.inService p
/-- R231: the drop-code width w of a port. -/
def width (s : State) (p : PortIx) : Nat := 2 ^ s.fld (aPrmPort p.1 0) 31 30
/-- R231: the slots Q of a port's queue. -/
def slots (s : State) (p : PortIx) : Nat := 256 / s.width p
/-- R233: the smallest Q among a bar's running ports in service (of its ports in service when none runs). -/
def barQ (s : State) (k : BarIx) : Nat :=
  let l := s.livePorts k
  let l := if l.isEmpty then (portsOf k).filter s.inService else l
  l.foldl (fun m p => min m (s.slots p)) 256
/-- The effective lead of R241. -/
def lead (s : State) (p : PortIx) : Nat :=
  let l := s.fld (aPrmPort p.1 0) 24 16
  if l = 0 then s.slots p else l

/-- JOB_TRANSPORT_CFG fields of R143. -/
def web (s : State) : Bool := s.fbit aJobTransport 31
def scan (s : State) : Bool := s.fbit aJobTransport 30
def ovlOn (s : State) : Bool := s.fbit aJobTransport 27

/-! ## Free values -/

/-- The next free number; its index is used up. -/
def freeNat (s : State) : Nat := Config.freeNat s.free
/-- The next free choice. -/
def freeBool (s : State) : Bool := Config.freeBool s.free
/-- Use up one free value. -/
def useFree (s : State) : State := s.onFree (· + 1)

/-! ## Performance counters (R469 to R472) -/

/-- A counter that is enabled and selects event `ev` counts `n` occurrences: all of them in edge mode,
one in level mode, none while FREEZE is set. -/
def countOne (ev n : Nat) (i : Fin 64) (s : State) : State :=
  if s.fbit (aPmcCtr i.1 0) 31 && decide (s.fld (aPmcCtr i.1 0) 8 0 = ev) then
    s.onCounter i fun c => { c with value := c.value + (if s.fbit (aPmcCtr i.1 0) 30 then 1 else n) }
  else s

/-- Count `n` occurrences of event number `ev` of R472. -/
def count (ev n : Nat) (s : State) : State :=
  if n = 0 ∨ s.fbit (aPmc 0) 31 then s else s.forEach (all 64) (countOne ev n)

/-- R469: a counter in edge mode that is enabled and selects the level-type condition `ev` counts a rising edge of it. -/
def riseOne (ev : Nat) (i : Fin 64) (s : State) : State :=
  if s.fbit (aPmcCtr i.1 0) 31 && decide (s.fld (aPmcCtr i.1 0) 8 0 = ev) && !s.fbit (aPmcCtr i.1 0) 30 then
    s.onCounter i fun c => { c with value := c.value + 1 }
  else s

/-- The level-type condition `ev` of R472 rises, when `c` holds. -/
def rise (ev : Nat) (c : Bool) (s : State) : State :=
  if !c || s.fbit (aPmc 0) 31 then s else s.forEach (all 64) (riseOne ev)

/-- A bandwidth monitor adds the bytes that pass its unit (R473), none while FREEZE is set. -/
def passOne (kind unit n : Nat) (m : Fin 16) (s : State) : State :=
  if s.fbit (aPmcBw m.1 0) 31 && decide (s.fld (aPmcBw m.1 0) 30 28 = kind)
      && (decide (kind = 2 ∨ kind = 3) || decide (s.fld (aPmcBw m.1 0) 27 22 = unit)) then
    s.onMonitor m fun c => { c with count := c.count + n }
  else s

/-- `n` bytes pass unit `unit` of kind `kind`. -/
def pass (kind unit n : Nat) (s : State) : State :=
  if n = 0 ∨ s.fbit (aPmc 0) 31 then s else s.forEach (all 16) (passOne kind unit n)

/-- Payload of device-bound TLPs (R473, KIND 2). -/
def hostIn (n : Nat) (s : State) : State := s.pass 2 0 n

/-- R473: `n` bytes of payload leave for the host. -/
def hostOut (n : Nat) (s : State) : State := s.pass 3 0 n

/-- The completion of a BAR0 read. -/
def reply (v : Word) (s : State) : State := (s.hostOut 4).emit (.readReply v)

/-- The completion of a BAR4 read. -/
def replyData (b : List Byte) (s : State) : State := (s.hostOut b.length).emit (.dataReply b)

/-- R107, R117: the entry asks for No-Snoop on its bulk data; R110 refuses it on a ring without NS_OK. -/
def entryNs (e : Entry) : Bool := bit (fieldAt e 1 1) 2

/-- R116, R117, R472, R473: bulk data leaves for host memory: No-Snoop as its entry asks, Relaxed Ordering as RO_EN says. -/
def hostStore (ns : Bool) (addr : Nat) (bs : List Byte) (s : State) : State :=
  ((s.emit (.hostWrite addr bs ns (s.fbit aHifCtrl 15))).count (5 * 64 + 5) 1).pass 3 0 bs.length

/-- R436: the requests that cover a range of host memory: each of at most `most` bytes, none across a 4 KB boundary. -/
def readRequests (most : Nat) : Nat → Nat → Nat → List (Nat × Nat)
  | 0, _, _ => []
  | fuel + 1, addr, len =>
    if len = 0 then []
    else
      let n := min len (min most (4096 - addr % 4096))
      (addr, n) :: readRequests most fuel (addr + n) (len - n)

/-- R117, R436: bulk data is read from host memory. -/
def hostLoad (ns : Bool) (addr len : Nat) (s : State) : State :=
  s.forEach (readRequests s.hif.pcie.maxRead len addr len) fun x => emit (.hostRead x.1 x.2 ns)

/-! ## Events -/

/-- HIF_CTRL.ASYNC_RING; ring 0 is no ring of the host (R116). -/
def asyncRing (s : State) : Option RingIx :=
  (fin? 128 (s.fld aHifCtrl 14 8)).bind fun r => if r.1 = 0 then none else some r

/-- The sizes of a ring's two rings (R97, R98). -/
def sqSize (s : State) (r : RingIx) : Nat := 2 ^ s.fld (aRing r 8) 4 0
def eqSize (s : State) (r : RingIx) : Nat := 2 ^ s.fld (aRing r 0x18) 4 0

/-- R102: occupancy between a tail and a head of a ring of `size` entries. -/
def occupancy (size tail head : Nat) : Nat := (tail + 2 * size - head) % (2 * size)

/-- R114: no free slot in the event ring. -/
def eqFull (s : State) (r : RingIx) : Bool :=
  decide (s.eqSize r ≤ occupancy (s.eqSize r) s.hif.rings[r].eqTail s.hif.rings[r].eqHead)

/-- R512: events due on this ring are discarded. -/
def ringDead (s : State) (r : RingIx) : Bool :=
  decide (s.hif.rings[r].state = .disabled) || s.hif.rings[r].lostHalt

/-- R115: events tied to no ring cannot be written now. -/
def asyncBlocked (s : State) : Bool :=
  match s.asyncRing with
  | none => true
  | some r => decide (s.hif.rings[r].state ≠ .active) || s.eqFull r

/-- R115: how many events tied to no ring can wait: 256, and those that the free slots of the asynchronous ring will take
without waiting, of which a LOST event that is owed takes one. -/
def asyncRoom (s : State) : Nat :=
  match s.asyncRing with
  | none => 256
  | some r =>
    if s.hif.rings[r].state = .active then
      256 + (s.eqSize r - occupancy (s.eqSize r) s.hif.rings[r].eqTail s.hif.rings[r].eqHead - if 0 < s.hif.lost then 1 else 0)
    else 256

/-- R115: an event tied to no ring waits for the asynchronous ring, or is lost when the queue of 256 is full. -/
def postAsync (e : Event) (s : State) : State :=
  if s.asyncRoom ≤ s.hif.async.length then
    s.onHif fun h => { h with
      lost := h.lost + 1, lostCls := h.lostCls.max e.cls, lostEvents := sat32 (h.lostEvents + 1) }
  else s.onHif fun h => { h with async := h.async ++ [e] }

/-- R512: an event tied to a ring waits there, or is discarded and counted. -/
def postRing (r : RingIx) (e : Event) (s : State) : State :=
  if s.ringDead r then s.onHif fun h => { h with lostEvents := sat32 (h.lostEvents + 1) }
  else s.onRing r fun c => { c with due := c.due ++ [e] }

/-- An event of R112 that is tied to no ring, as of now. -/
def asyncEvent (s : State) (typ : EvType) (code : Code) (cls : Cls) (info0 : BitVec 64) (info1 : BitVec 48)
    (src : Nat) : Event :=
  ⟨code, typ, 0, 0, info0, s.mer.time, info1, BitVec.ofNat 8 src, cls, none⟩

/-- An ERROR event (R112). -/
def error (code : Code) (cls : Cls) (info0 : BitVec 64) (info1 : BitVec 48) (src : Nat) (s : State) : State :=
  s.postAsync (s.asyncEvent .error code cls info0 info1 src)

/-- An ERROR event in the layout of R457 for a code that touches no sheet. -/
def errorUnit (code : Code) (cls : Cls) (unit : Nat) (det : Nat) (src : Nat) (s : State) : State :=
  s.error code cls (infoUnit unit) (detail det) src

/-- A STATUS event (R112), class none. -/
def status (code : Code) (info0 : BitVec 64) (info1 : BitVec 48) (src : Nat) (s : State) : State :=
  s.postAsync (s.asyncEvent .status code .none info0 info1 src)

/-- R31, R457: a refused register write keeps the old value, is counted and posts CONFIG_REFUSED. -/
def refuseWrite (off : Nat) (v : Word) (s : State) : State :=
  (s.onHif fun h => { h with refused := h.refused + 1 }).postAsync
    (s.asyncEvent .configRefused 0x1001 .c (BitVec.ofNat 64 off) (detail v.toNat) (off / 0x100000))

/-- An access counted in HIF_BAD_ACCESS (R93 to R95, R494). -/
def badAccess (s : State) : State := s.onHif fun h => { h with badAccess := sat32 (h.badAccess + 1) }

/-! ## Entries -/

/-- The TAG of an entry (R107). -/
def entryTag (e : Entry) : BitVec 16 := BitVec.ofNat 16 (fieldAt e 2 2)

/-- A COMPLETION event of an entry (R112). -/
def completionEvent (s : State) (r : RingIx) (e : Entry) (code : Code) (info0 : BitVec 64) (info1 : BitVec 48)
    (src : Nat) : Event :=
  ⟨code, .completion, r, entryTag e, info0, s.mer.time, info1, BitVec.ofNat 8 src,
    if code = 0 then .none else .c, none⟩

/-- R107, R108: an entry completes: it leaves the ring's running entries, and its event is posted when it
failed or when FLAGS.EVENT is set; ring 0 reports to firmware (R116). -/
def complete (r : RingIx) (e : Entry) (code : Code) (info0 : BitVec 64) (info1 : BitVec 48) (src : Nat)
    (s : State) : State :=
  let t := s.onRing r fun c => { c with running := dropFirst (fun x => decide (x.1 = e)) c.running }
  if r.1 ≠ 0 ∧ (code ≠ 0 ∨ bit (fieldAt e 1 1) 1) then t.postRing r (s.completionEvent r e code info0 info1 src) else t

end State
end Sys2Proof.Machine
end

