-- ==== Sys2Proof/Machine/Lanes.lean ====
section
/-!
DEFINITION. The transmit lanes of a head port (R255 to R260): blocks and their coding, the distribution of the stream over
two lanes, the ALIGN schedule, what fills the stream when nothing else is due (R261, R273, R277), and the blocks of a row
frame (R264). The lanes carry a stream block in each 2.64 ns (R264); what falls between two commands is put on the lanes
when the next command of the port needs them (log entry 65).
-/
namespace Sys2Proof.Machine

/-! ## Blocks (R255 to R258) -/

/-- A block of eight bytes. -/
def LinkBlock.of (data : Bool) (b : List Byte) : LinkBlock := ⟨data, BitVec.ofNat 64 (leNat (slice b 0 8))⟩

/-- A control block of R258 that ends in a CRC-8: its type and bytes 1 to 6. -/
def ctrlBlock (typ : Nat) (body : List Byte) : List Byte :=
  let b := (BitVec.ofNat 8 typ :: body ++ List.replicate 6 0).take 7
  b ++ [crc8 0 b]

/-- R258: IDLE. -/
def idleBlock : LinkBlock := ⟨false, 0x1E⟩

/-- R256: 64 bits through the scrambler x^58 + x^39 + 1; bit 0 is the first sent, and `h` holds the 58 bits sent before,
the latest in bit 57. -/
def scramble (h : BitVec 58) (x : BitVec 64) : BitVec 64 :=
  let y := x ^^^ h.setWidth 64 ^^^ (h >>> 19).setWidth 64
  let low := y &&& 0x7FFFFFFFFF#64
  y ^^^ (low <<< 39) ^^^ (low <<< 58)

/-- The exclusive-or of the eight bytes of a block. -/
def foldBytes (x : BitVec 64) : Byte :=
  let a := x ^^^ (x >>> 32)
  let b := a ^^^ (a >>> 16)
  (b ^^^ (b >>> 8)).setWidth 8

/-- R255: the 66 bits of a block as a lane carries them, bit 0 first: the two sync bits, then the eight bytes. -/
def lineBits (data : Bool) (x : BitVec 64) : BitVec 66 :=
  (x.setWidth 66 <<< 2) ||| (if data then 2 else 1)

/-- R256, R258, R262: a block goes onto a physical lane: scrambled, counted into BIP8, and pre-inverted where set. -/
def Link.code (lane : Fin 3) (b : LinkBlock) (l : Link) : Link × BitVec 66 :=
  let c := l.coder[lane]
  let x := scramble c.scr b.body
  let line := lineBits b.data x
  ({ l with coder := l.coder.set lane.1 ⟨(x >>> 6).setWidth 58, c.bip ^^^ foldBytes x⟩ lane.2 },
    if l.preinv.getLsbD lane.1 then ~~~line else line)

/-- R256, R258: the ALIGN of a physical lane: not scrambled, with the BIP8 of what the lane has carried since the last. -/
def Link.align (lane : Fin 3) (l : Link) : Link × BitVec 66 :=
  let b : List Byte := [0x3C, BitVec.ofNat 8 lane.1, BitVec.ofNat 8 (255 - lane.1), l.coder[lane].bip, 0x5B, 0xA4, 0xC2, 0x3D]
  let line := lineBits false (LinkBlock.of false b).body
  ({ l with coder := l.coder.set lane.1 { l.coder[lane] with bip := 0 } lane.2 },
    if l.preinv.getLsbD lane.1 then ~~~line else line)

/-- R259: the physical lane of the next stream block. -/
def Link.nextLane (l : Link) : Fin 3 := if l.sent % 2 = 0 then l.lanes.1 else l.lanes.2

/-- R258: the TRAIN of a step on a lane. -/
def trainBlock (lane : Fin 3) (step : Nat) : LinkBlock :=
  .of false (ctrlBlock 0x4B [BitVec.ofNat 8 lane.1, BitVec.ofNat 8 (step * 16)])

/-- R261, R273, R277: what a link sends when nothing else is due: in T1 to T3 one TRAIN in every four blocks of a lane, in
the burst of a fault one PORT_FAULT in every two, and IDLE. -/
def Link.fill (l : Link) : LinkBlock :=
  if l.training && decide (1 ≤ l.lstate ∧ l.lstate ≤ 3) then
    (if l.sent / 2 % 4 = 0 then trainBlock l.nextLane l.lstate else idleBlock)
  else if l.bursting then
    (if l.sent / 2 % 2 = 0 then .of false (ctrlBlock 0xC3 [BitVec.ofNat 8 l.fault]) else idleBlock)
  else idleBlock

/-- R259: the stream blocks between two ALIGNs: 16,383 on each lane. -/
def alignPeriod : Nat := 32766

/-- R259, R264: the stream blocks that the lanes have had time for since the last ALIGN, of a slot each: 2.5 ns a tick,
2.64 ns a stream block. -/
def Link.slotsDue (l : Link) (tick : Nat) : Nat := min alignPeriod ((tick - l.since) * 125 / 132 - 2)

/-! ## Row frames (R264) -/

/-- R264: the context word of a segment. -/
def segContext (p : PortIx) (sheet : BitVec 32) (srow : Nat) : List Byte :=
  leBytes 8 (sheet.toNat * 2 ^ 32 + srow % 2 ^ 24 * 256 + p.1 * 8 + 5)

/-- R264: segment `i` of a row frame, of 512 bytes of the row. -/
def segment (p : PortIx) (sheet : BitVec 32) (srow n i : Nat) (data : List Byte) : List LinkBlock :=
  let start := leBytes 1 i ++ leBytes 6 n
  let crc := crc32c (segContext p sheet srow) (start ++ data)
  .of false (0x99 :: start) :: ((List.range 64).map fun k => LinkBlock.of true (slice data (8 * k) 8))
    ++ [.of false (0xAA :: (leBytes 4 crc.toNat ++ leBytes 1 i ++ [0, 0]))]

/-- R264: where another control block may stand before a block of a frame: before a segment but the first. -/
def segmentFlags (i : Nat) (l : List LinkBlock) : List (Bool × LinkBlock) :=
  l.mapIdx fun j b => (decide (j = 0 ∧ i ≠ 0), b)

/-- R264: a row frame: ROW_ID and the 4w segments, each block with whether another control block may stand before it. -/
def rowFrame (p : PortIx) (sheet : BitVec 32) (srow n : Nat) (data : List Byte) : List (Bool × LinkBlock) :=
  (true, .of false (0x87 :: (leBytes 4 sheet.toNat ++ leBytes 3 srow))) ::
    (List.range (data.length / 512)).flatMap fun i =>
      segmentFlags i (segment p sheet srow n i (slice data (512 * i) 512))

/-- R277: the fill of a REFRESH burst: other control blocks may stand between its data blocks. -/
def refreshFill : List (Bool × LinkBlock) := List.replicate 320 (true, ⟨true, 0⟩)

namespace State

/-- R258, R259: an ALIGN on both stream lanes, in one slot. -/
def putAlign (p : PortIx) (s : State) : State :=
  let l := s.port[p].link
  let a := l.align l.lanes.1
  let b := a.1.align l.lanes.2
  ((s.onLink p fun _ => { b.1 with sent := 0, since := s.tick }).emit (.laneBlock p l.lanes.1 a.2)).emit
    (.laneBlock p l.lanes.2 b.2)

/-- R259: a block goes onto the stream; the ALIGN that is due goes first. -/
def putBlock (p : PortIx) (b : LinkBlock) (s : State) : State :=
  let t := if alignPeriod ≤ s.port[p].link.sent then s.putAlign p else s
  let l := t.port[p].link
  let r := l.code l.nextLane b
  (t.onLink p fun _ => { r.1 with sent := l.sent + 1 }).emit (.laneBlock p l.nextLane r.2)

/-- The next block that the link sends by itself: one that waits, or fill. -/
def putNext (p : PortIx) (s : State) : State :=
  match s.port[p].link.queue with
  | x :: q => (s.putBlock p x.2).onLink p fun l => { l with queue := q }
  | [] => s.putBlock p s.port[p].link.fill

/-- `n` blocks that the link sends by itself. -/
def putMany (p : PortIx) (n : Nat) (s : State) : State := s.forEach (List.range n) fun _ => putNext p

/-- The lanes carry what they have had time for. -/
def catchUp (p : PortIx) (s : State) : State :=
  let l := s.port[p].link
  if l.idle then s else s.putMany p (l.slotsDue s.tick - l.sent)

/-- R264: the blocks of a segment in progress go first. -/
def endSegment (p : PortIx) (s : State) : State :=
  s.putMany p (s.port[p].link.queue.takeWhile fun x => !x.1).length

/-- R264, R277: send a control block: between segments, between frames, or within a burst. -/
def sendBlock (p : PortIx) (b : List Byte) (s : State) : State :=
  if s.port[p].link.idle then s else ((s.catchUp p).endSegment p).putBlock p (.of false b)

/-- R272, R273: the stream is cut after the block in transmission: what waits is not sent. -/
def cutStream (p : PortIx) (s : State) : State := (s.catchUp p).onLink p fun l => { l with queue := [] }

/-- R264, R277: blocks that follow one another are begun. -/
def beginBlocks (p : PortIx) (l : List (Bool × LinkBlock)) (s : State) : State :=
  if s.port[p].link.idle then s
  else (((s.catchUp p).endSegment p).onLink p fun k => { k with queue := k.queue ++ l }).putNext p

/-- R264: the blocks that wait have all been sent. -/
def endBlocks (p : PortIx) (s : State) : State := s.putMany p s.port[p].link.queue.length

/-- R235, R277: no row frame and no REFRESH burst is on the port's lanes. -/
def laneFree (s : State) (p : PortIx) : Bool :=
  let l := s.port[p].link
  s.port[p].sending.isNone && decide (l.queue.length ≤ l.slotsDue s.tick - l.sent)

/-- R273: the two PORT_FAULT blocks that begin the burst of a fault, one on each lane. -/
def beginFaultBurst (p : PortIx) (s : State) : State :=
  if s.port[p].link.idle then s
  else
    let t := s.putMany p (s.port[p].link.sent % 2)
    let b := LinkBlock.of false (ctrlBlock 0xC3 [BitVec.ofNat 8 t.port[p].link.fault])
    (t.putBlock p b).putBlock p b

end State
end Sys2Proof.Machine
end

