-- ==== Sys2Proof/Machine/Sheets.lean ====
section
/-!
DEFINITION. The shared operations on sheets and on what stops them: bands of a sheet (R139), errors that
touch a sheet (R39, R141, R457, R458), the port stop of R240 and the port fault of R273, the axis fault
of R340, the class D stop (R37, R249), finishing and cancelling a sheet (R135, R141, R142), and the
orderly stop of R41.
-/
namespace Sys2Proof.Machine

/-- R136, R137: a finished sheet's rewind mark is still valid; a sheet of no plane uses no band that could be reclaimed. -/
def SheetRecord.valid (m : SheetRecord) (tail : Nat) : Bool :=
  decide (m.sheet.mask = 0) || match m.mark with
  | none => false
  | some p => decide (tail ≤ p)

/-- R128: the planes of a sheet that print on a bar, with their roles: 1 colour, 2 overlay. -/
def Sheet.planes (sh : Sheet) (ovl : Bool) (k : BarIx) : List (Fin 16 × Nat) :=
  (all 16).filterMap fun p =>
    let b := sh.planeMap[p].toNat
    let role := b / 64
    if bit sh.mask.toNat p.1 && decide (b % 8 = k.1) && (decide (role = 1) || (ovl && decide (role = 2))) then
      some (p, role)
    else none

/-- Some bar has fired a row of the sheet. -/
def Sheet.begun (sh : Sheet) : Bool := sh.started

/-- R39, R141, R458: an error of a class touches the sheet; `tick` tells errors of one tick apart. -/
def Sheet.touch (code : Code) (cls : Cls) (row tick : Nat) (sh : Sheet) : Sheet :=
  let t := { sh with cls := sh.cls.max cls }
  if cls.rank < 3 then t
  else if sh.code = 0 ∨ (sh.codeTick = tick ∧ code < sh.code) then
    { t with code := code, codeRow := row, codeTick := tick }
  else t

namespace State

/-- The queued sheet with an ID. -/
def sheet? (s : State) (id : BitVec 32) : Option Sheet := s.job.sheets.find? fun x => decide (x.id = id)
/-- The record of a finished sheet. -/
def record? (s : State) (id : BitVec 32) : Option SheetRecord := s.job.records.find? fun x => decide (x.sheet.id = id)
/-- The anchor of a queued or finished sheet. -/
def anchor? (s : State) (id : BitVec 32) : Option Anchor := s.job.anchors.find? fun a => decide (a.sheet = some id)
/-- The open job with an ID. -/
def job? (s : State) (id : Nat) : Option Job := s.job.jobs.find? fun j => decide (j.id = id)
/-- The published band with an identifier. -/
def band? (s : State) (key : BandKey) : Option Band := s.job.bands.find? fun b => decide (b.key = key)

/-- Change the queued sheet with an ID. -/
def onSheet (id : BitVec 32) (g : Sheet → Sheet) (s : State) : State :=
  s.onJob fun j => { j with sheets := mapFirst (fun x => decide (x.id = id)) g j.sheets }

/-- R448: the sheet is at or after s_last; with no intact item yet, every sheet is. -/
def sinceLast (s : State) (id : BitVec 32) : Bool :=
  match s.ovl.lastSheet with
  | none => true
  | some l => decide (id = l) || afterMod 32 id.toNat l.toNat

/-! ## Rows and bands (R139) -/

/-- R139: the bands of a plane that a sheet uses, each with the sheet row of its first row, walked from
FIRST_BAND; the flag says whether the walk met only published bands. -/
def walkBands (s : State) (sh : Sheet) (plane : Nat) : Nat → Nat → Int → List (Band × Int) × Bool
  | 0, _, _ => ([], false)
  | fuel + 1, no, start =>
    if (sh.rows : Int) ≤ start then ([], true)
    else match s.band? ⟨sh.job, plane, no % 2 ^ 32⟩ with
      | none => ([], false)
      | some b =>
        let r := walkBands s sh plane fuel (no + 1) (start + b.rows)
        if start + b.rows ≤ 0 then r else ((b, start) :: r.1, r.2)

/-- The bands of a plane that a sheet uses. -/
def bandsOf (s : State) (sh : Sheet) (plane : Nat) : List (Band × Int) × Bool :=
  s.walkBands sh plane (s.job.bands.length + 1) sh.firstBand (-(sh.firstRow : Int))

/-- R139: the number of the first band that the walk of a plane finds unpublished; none when it needs no more. -/
def walkStop (s : State) (sh : Sheet) (plane : Nat) : Nat → Nat → Int → Option Nat
  | 0, no, _ => some no
  | fuel + 1, no, start =>
    if (sh.rows : Int) ≤ start then none
    else match s.band? ⟨sh.job, plane, no % 2 ^ 32⟩ with
      | none => some no
      | some b => walkStop s sh plane fuel (no + 1) (start + b.rows)

/-- The planes of PLANE_MASK that the job's map binds to a bar. -/
def planesOf (sh : Sheet) : List (Fin 16) :=
  (all 16).filter fun p => bit sh.mask.toNat p.1 && decide (sh.planeMap[p].toNat / 64 ≠ 0)

/-- R139: the band of a plane that holds a sheet row, and the row within the band. -/
def locate (s : State) (sh : Sheet) (plane row : Nat) : Option (Band × Nat) :=
  ((s.bandsOf sh plane).1.find? fun q => decide (q.2 ≤ (row : Int) ∧ (row : Int) < q.2 + q.1.rows)).map
    fun q => (q.1, ((row : Int) - q.2).toNat)

/-- R135, R139: a queued sheet uses a band, as far as the bands published so far tell: it serves rows of the sheet, or it
lies at or behind the first band that is still to come. -/
def sheetUses (s : State) (sh : Sheet) (b : Band) : Bool :=
  decide (sh.job = b.key.job) && (planesOf sh).any fun p =>
    decide (p.1 = b.key.plane) && (
      (s.bandsOf sh p.1).1.any (fun q => decide (q.1.key = b.key)) ||
        (s.walkStop sh p.1 (s.job.bands.length + 1) sh.firstBand (-(sh.firstRow : Int))).any fun no =>
          afterMod 32 (b.key.band + 1) (no % 2 ^ 32))

/-- R135: a published band that no reservation may reclaim. -/
def hard (s : State) (b : Band) : Bool :=
  s.job.sheets.any (fun sh => s.sheetUses sh b) ||
    ((s.job? b.key.job).isSome && (!b.used || b.tile))

/-! ## The write position of a bar (R232) -/

/-- R232: WR of a bar, the next row to be written to its ports; it is never behind a row that has passed. -/
def barWr (s : State) (k : BarIx) : Nat :=
  max s.bar[k].pass (((s.bar[k].rows.find? fun r => !r.written).map (·.n)).getD s.bar[k].grow)

/-! ## Stopping a port (R240, R273) -/

/-- R240, R300: the port's queue is discarded, its replays end, and its positions move to the bar's WR; a port that fires no row
has no prediction. -/
def clearQueue (p : PortIx) (s : State) : State :=
  let n := s.barWr (barOf p)
  (s.onHls fun h => { h with slow := h.slow &&& ~~~(BitVec.ofNat 32 (2 ^ p.1)) }).onPort p fun q => { q with
    old := (q.rows.filter (·.sent)).map (·.n) ++ q.old
    fire := n, mark := n, tx := n, rel := n, wr := n, joinAt := n
    rows := [], late := [], sending := none, replayQ := [], commit := none }

/-- R278: the link leaves T6: a running scan ends with ERRORS invalid. -/
def leaveT6 (p : PortIx) (s : State) : State :=
  let t := s.rise (64 + 2 * p.1 + 1) (decide (s.port[p].link.lstate = 6))
  if t.port[p].link.scanning then
    (t.onLink p fun l => { l with scanning := false, errors := t.freeNat % 2 ^ 32 }).useFree
  else t

/-- R273: what a port-level fault does to the link: the burst of PORT_FAULT begins. -/
def faultLink (p : PortIx) (cause : Nat) (s : State) : State :=
  (((s.cutStream p).leaveT6 p).onLink p fun l => { l with
      lstate := 7, fault := cause, bursting := true, echoWait := false, training := false }).beginFaultBurst p

/-- R273: a port-level fault, which holds FIRE inactive; `cls` is D for a class D stop, which lets a strobe complete its
width (R249) and after which the port counts as stopped with its container, and S otherwise. -/
def portFault (p : PortIx) (cause : Nat) (cls : Cls) (s : State) : State :=
  ((((s.clearQueue p).onFn (.port p) fun f =>
      { f with running := false, own := if cls = .d then f.own else true }).onPort p fun q =>
      { q with missing := 0x0702, pair := q.pair && decide (cls = .d) }).faultLink p cause).errorUnit 0x0702 cls (unitPort p) 0
    0x0B

/-! ## Axis faults (R340, R341) -/

/-- R341: the target that a stop, a fault or an axis stop keeps. -/
def keepTarget (a : Axis) : Option Int :=
  match a.motion with
  | .move t => some t
  | _ => a.kept

/-- R341: REMAIN for a kept target at the present position. -/
def remainTo (a : Axis) (t : Option Int) : Int :=
  match t with
  | some t => t - a.pos.floor
  | none => 0

/-- Steps cease at once. -/
def cease (a : Axis) : Axis :=
  let t := keepTarget a
  { a with vel := 0, acc := 0, motion := .rest, kept := t, remain := remainTo a t, hstep := 0, hwaitZ := false,
           hset := false, stopReq := false }

/-- Brake to rest with a deceleration. -/
def brake (a : Axis) (dec : Nat) : Axis :=
  let t := keepTarget a
  if a.vel = 0 then cease a
  else { a with motion := .brake dec, kept := t, remain := remainTo a t, hstep := 0, hwaitZ := false, hset := false }

/-- R340: the place of a cause in the order in which the causes of one tick are recorded; no cause comes last. -/
def faultRank (cause : Nat) : Nat :=
  match cause with
  | 6 => 0
  | 2 => 1
  | 1 => 2
  | 3 => 3
  | 4 => 4
  | 5 => 5
  | _ => 6

/-- R340: the fault of cause `cause` ends the running command, keeps REMAIN and sets FAULT; `dec` is the
deceleration, none when steps cease at once. The first cause stands, and of the causes of one tick the first in the order
of R340. -/
def axisFault (x : AxisIx) (cause : Nat) (code : Code) (dec : Option Nat) (s : State) : State :=
  let old := s.axis[x]
  if old.fault ≠ 0 ∧ ¬(old.faultTick = s.tick + 1 ∧ faultRank cause < faultRank old.fault) then s
  else
    (s.onAxis x fun a =>
      let b := match dec with
        | none => cease a
        | some d => brake a d
      { b with fault := cause, faultTick := s.tick + 1, enOff := a.enOff || s.fbit (aMot x.1 0) 28 }).errorUnit code .c
        (unitAxis x) 0 0x0E

/-! ## Class D (R37, R249, R273, R340, R464, R484) -/

/-- What the first class D event of an engine run does, beside the signals. -/
def classDHalt (s : State) : State :=
  let t := s.onPorts fun v => v.map fun q => { q with dead := true, commit := none }
  let t := t.forEach ((all 32).filter fun p => decide (s.port[p].link.lstate = 6)) fun p => portFault p 5 .d
  let t := t.forEach ((all 8).filter fun x => s.axisRuns x) fun x u =>
    u.axisFault x 4 0x0A0A (some (u.rdN (aMot x.1 0x10)))
  t.onSys fun y => { y with svc := 3 }

/-- A class D decision with a code: ENGINE_OK falls, DSTOP and the first D_CODE are recorded, every sheet
in transit takes class D, and all firing stops. The event of the code is posted by the caller. -/
def classDown (code : Code) (s : State) : State :=
  let t := s.onInteg fun i => { i with
    engineOk := false, okHolds := false, dstop := true, dcode := if s.integ.dstop then i.dcode else code }
  let t := t.onJob fun j => { j with
    sheets := j.sheets.map fun sh => if sh.anchored then sh.touch code .d 0 s.tick else sh }
  if s.integ.dstop then t else t.classDHalt

/-- A class D error that touches no one sheet, in the layout of R457. -/
def classD (code : Code) (unit det src : Nat) (s : State) : State :=
  (s.classDown code).errorUnit code .d unit det src

/-! ## Errors that touch a sheet (R38, R39, R457, R458) -/

/-- The decision point of a finished sheet still lies ahead. -/
def undecided (s : State) (id : BitVec 32) : Bool :=
  s.job.anchors.any fun a => decide (a.sheet = some id) && !a.decided

/-- An error of a code and class touches a sheet from a row on. The first one of its code, sheet and unit
posts an ERROR event (R458). A class S error that touches a sheet already decided as good becomes class
D (R38). -/
def sheetError (code : Code) (cls : Cls) (id : BitVec 32) (row unit det src : Nat) (s : State) : State :=
  match s.sheet? id with
  | some sh =>
    let t := s.onSheet id fun x => { x.touch code cls row s.tick with seen := (code, BitVec.ofNat 8 unit) :: x.seen }
    if sh.seen.contains (code, BitVec.ofNat 8 unit) then
      s.onSheet id fun x => x.touch code cls row s.tick
    else t.error code cls (infoSheet id row unit) (detail det) src
  | none =>
    match s.record? id with
    | none => s.error code cls (infoSheet id row unit) (detail det) src
    | some m =>
      let late := decide (cls = .s) && !s.undecided id && decide (m.sheet.cls.rank < 3)
      let cls := if late then .d else cls
      let hit (x : SheetRecord) : SheetRecord := { x with
        sheet := { x.sheet.touch code cls row s.tick with seen := (code, BitVec.ofNat 8 unit) :: x.sheet.seen } }
      let t := s.onJob fun j => { j with
        records := mapFirst (fun x => decide (x.sheet.id = id)) hit j.records }
      let t := if late then t.classDown code else t
      if m.sheet.seen.contains (code, BitVec.ofNat 8 unit) then t
      else t.error code cls (infoSheet id row unit) (detail det) src

/-! ## The end of a sheet (R135, R141, R142) -/

/-- R141: the SHEET event of a sheet with its rewind mark; outcome 0 good, 1 reject, 2 cancelled. The mark of a sheet that
uses no band holds for good. -/
def sheetEvent (sh : Sheet) (outcome : Nat) (mark : Option Nat) (s : State) : State :=
  let row := if outcome = 1 then sh.codeRow % 2 ^ 24 else 0
  s.postRing sh.ring
    ⟨if outcome = 1 then sh.code else 0, .sheet, sh.ring, sh.tag,
      BitVec.ofNat 64 (sh.id.toNat + sh.job % 65536 * 2 ^ 32 + outcome * 2 ^ 48 + b2n (decide (sh.mask = 0)) * 2 ^ 56),
      s.mer.time, BitVec.ofNat 48 row, 5, sh.cls, mark⟩

/-- R187: a finished or cancelled sheet frees its patches. -/
def freePatches (id : BitVec 32) (s : State) : State :=
  s.onSe fun e => { e with patches := e.patches.filter fun q => decide (q.sheet ≠ id) }

/-- R135: the bands of a sheet that are published, and whether every band it needs is. -/
def sheetBands (s : State) (sh : Sheet) : List Band × Bool :=
  (planesOf sh).foldl (fun acc p =>
    let w := s.bandsOf sh p.1
    (acc.1 ++ w.1.map (·.1), acc.2 && w.2)) ([], true)

/-- R137: the rewind mark of a sheet. -/
def markOf (s : State) (sh : Sheet) : Option Nat :=
  let w := s.sheetBands sh
  if w.2 then some (w.1.foldl (fun m b => min m b.pos) s.job.wr) else none

/-- R135, R142: the bands of a sheet that leaves the queue are hard no longer on its account. -/
def softenBands (sh : Sheet) (s : State) : State :=
  let used := (s.sheetBands sh).1.map (·.key)
  s.onJob fun j => { j with
    sheets := dropFirst (fun x => decide (x.id = sh.id)) j.sheets
    bands := j.bands.map fun b => if used.contains b.key then { b with used := true } else b }

/-- R135, R140, R141: the sheet is finished: it leaves the queue for the records, its bands count as
used, its patches are freed, and its SHEET event is posted. -/
def finishSheet (sh : Sheet) (s : State) : State :=
  let mark := s.markOf sh
  let t := (s.softenBands sh).onJob fun j => { j with records := (⟨sh, mark, sh.jobOpen⟩ :: j.records).take 1024 }
  (t.freePatches sh.id).sheetEvent sh (if 3 ≤ sh.cls.rank then 1 else 0) mark

/-- R135: every bar in use has fired or rejected the sheet's last row. -/
def sheetDone (s : State) (sh : Sheet) : Bool :=
  sh.anchored && (sh.begun || (all 8).any fun k => s.bar[k].used) &&
    (all 8).all fun k => !s.bar[k].used || decide (sh.rows ≤ sh.fired[k])

/-- Finish every sheet whose last row has passed, in queue order. -/
def finishDone (s : State) : State :=
  s.forEach s.job.sheets fun sh t =>
    match t.sheet? sh.id with
    | some x => if t.sheetDone x then t.finishSheet x else t
    | none => t

/-- R41: an edge that is committed for a row of a sheet is given up. -/
def uncommit (id : BitVec 32) (s : State) : State :=
  s.onPorts fun v => v.map fun q =>
    if q.rows.any fun r => decide (r.n = q.fire ∧ r.sheet = id) then { q with commit := none } else q

/-- R464, R142: the anchor of a sheet stays as a physical sheet with no queued sheet, which posts
E_SHEET_NOT_READY in the layout of R145; no row of the sheet fires. -/
def toPhysical (id : BitVec 32) (s : State) : State :=
  match s.anchor? id with
  | none => s
  | some a =>
    let t := s.onJob fun j => { j with
      anchors := mapFirst (fun x => decide (x.sheet = some id)) (fun x => { x with sheet := none, rows := 1 }) j.anchors }
    let t := (t.onSheet id fun x => { x with anchored := false }).uncommit id
    t.error 0x0207 .s (BitVec.ofInt 64 a.pe) (BitVec.ofNat 48 (b2n a.parity)) 5

/-- R314: the sheet-row slots of a cancelled sheet go to CANCELLED. -/
def cancelSlots (id : BitVec 32) (s : State) : State :=
  s.forEach (all 128) fun j t =>
    if t.mer.pslot[j].state = .armed ∧ t.fbit (aPSlot j.1 0xC) 30 ∧ t.rd (aPSlot j.1 8) = id then
      t.onPSlot j fun q => { q with state := .cancelled, due := none }
    else t

/-- R138: the last queued ID after sheets were cancelled. -/
def lastQueued (s : State) : Option (BitVec 32) :=
  match s.job.sheets.getLast? with
  | some sh => some sh.id
  | none => (s.job.records.head?).map (·.sheet.id)

/-- R142: a sheet that no bar has begun is cancelled, and its bands become soft. -/
def cancelSheet (sh : Sheet) (s : State) : State :=
  let mark := s.markOf sh
  let t := (if sh.anchored then s.toPhysical sh.id else s).softenBands sh
  let t := ((t.freePatches sh.id).cancelSlots sh.id).sheetEvent sh 2 mark
  t.onJob fun j => { j with lastId := t.lastQueued }

/-- R150: cancel every queued sheet that no bar has begun, in queue order. -/
def cancelUnbegun (s : State) : State :=
  s.forEach (s.job.sheets.filter fun sh => !sh.begun) cancelSheet

/-! ## The orderly stop (R41, R464) -/

/-- R41, R124, R125: finish what has been begun and fire nothing later; anchored sheets of which no bar
has fired a row return to the queue. -/
def orderlyStop (s : State) : State :=
  if s.engRuns && !s.integ.dstop && !s.integ.orderly then
    (s.onInteg fun i => { i with orderly := true }).forEach
      (s.job.sheets.filter fun sh => sh.anchored && !sh.begun) fun sh => toPhysical sh.id
  else s

end State
end Sys2Proof.Machine
end

