-- ==== Sys2Proof/Machine/Rings.lean ====
section
/-!
DEFINITION. Event rings at work: the 32 bytes of an event (R112, R113), its write into a free slot
(R114), MSI-X moderation (R121, R122), and the halt of a ring (R103).
-/
namespace Sys2Proof.Machine

/-- The TIME field of R112 for a Meridian time in units of 2^-24 ns: seconds [63:30], nanoseconds [29:0]. -/
def eventTime (t : Nat) : Nat :=
  let ns := t / 16777216
  ns / 1000000000 % 2 ^ 34 * 2 ^ 30 + ns % 1000000000

/-- R112: the 32 bytes of an event, with the phase of the slot and the SQ_HEAD index of its ring. -/
def eventBytes (e : Event) (phase sqHead : Nat) : BitVec 256 :=
  BitVec.ofNat 256 (e.code.toNat + e.typ.byte * 2 ^ 16 + e.ring.1 * 2 ^ 24 + e.tag.toNat * 2 ^ 32
    + sqHead % 65536 * 2 ^ 48 + e.info0.toNat * 2 ^ 64 + eventTime e.time * 2 ^ 128
    + e.info1.toNat * 2 ^ 192 + e.src.toNat * 2 ^ 240 + (phase * 128 + e.cls.rank) * 2 ^ 248)

namespace State

/-- R98: the moderation fields of a ring; MOD_COUNT 0 acts as 1. -/
def irqEn (s : State) (r : RingIx) : Bool := s.fbit (aRing r 0x18) 12
def modCount (s : State) (r : RingIx) : Nat := max 1 (s.fld (aRing r 0x18) 20 13)
def modTime (s : State) (r : RingIx) : Nat := s.fld (aRing r 0x18) 30 21

/-- R121, R122: the ring's message is due: it is sent, or marked pending on a masked vector, and the count is cleared.
Function Mask masks every vector, and with MSI-X Enable clear no message is sent. -/
def sendMsix (r : RingIx) (s : State) : State :=
  let v : Fin 128 := ⟨s.fld (aRing r 0x18) 11 5 % 128, Nat.mod_lt _ (by decide)⟩
  let t := s.onRing r fun c => { c with unsig := 0 }
  if t.fbit (aMsix v.1) 0 || t.hif.pcie.funcMask || !t.hif.pcie.msixEnable then t.onHif fun h => { h with pba := h.pba.set v.1 true v.2 }
  else ((t.count (5 * 64 + 3) 1).hostOut 4).emit (.msix v.1)

/-- R122: the conditions of a message other than the time: the count, and three-quarter occupancy. -/
def msixDue (s : State) (r : RingIx) : Bool :=
  let c := s.hif.rings[r]
  s.irqEn r && decide (0 < c.unsig) &&
    (decide (s.modCount r ≤ c.unsig) ||
      decide (3 * s.eqSize r ≤ 4 * occupancy (s.eqSize r) c.eqTail c.eqHead))

/-- Send the ring's message when a condition of R122 holds. -/
def moderate (r : RingIx) (s : State) : State := if s.msixDue r then s.sendMsix r else s

/-- R113, R114, R122: write an event into the next slot of a ring, and moderate. -/
def writeEvent (r : RingIx) (e : Event) (s : State) : State :=
  let c := s.hif.rings[r]
  let n := s.eqSize r
  let head := s.hif.rings[e.ring].sqHead % s.sqSize e.ring
  let t := (s.onRing r fun c => { c with
      eqTail := (c.eqTail + 1) % (2 * n), unsig := if s.irqEn r then c.unsig + 1 else 0 }).emit
    (.eventWrite r (c.eqTail % n) (eventBytes e (if c.eqTail < n then 1 else 0) head))
  let t := (((t.count (5 * 64 + 2) 1).count (5 * 64 + 5) 1).pass 3 0 32)
  if t.irqEn r && decide (3 ≤ e.cls.rank) then t.sendMsix r else t.moderate r

/-- R103, R104, R126: a ring halts with a cause; causes 4 and 5 mark it for R512. -/
def haltRing (r : RingIx) (cause : Nat) (s : State) : State :=
  s.onRing r fun c =>
    { c with state := .halted, cause := cause, lostHalt := c.lostHalt || decide (cause = 4 ∨ cause = 5) }

/-- Every entry of a draining ring has completed and every event of one has been posted (R101). -/
def drained (c : Ring) : Bool :=
  c.fetched.isEmpty && c.running.isEmpty && !c.due.any fun e => decide (e.typ = .completion)

/-- R101: the ring becomes DISABLED; what is still due on it is discarded and counted (R512). HALT_CAUSE returns to 0 now, and
stands while the ring drains; the manual does not say at which of the two moments it does (DESIGN CHOICE, log entry 89). -/
def disableRing (r : RingIx) (s : State) : State :=
  let n := s.hif.rings[r].due.length
  let t := s.onHif fun h => { h with lostEvents := sat32 (h.lostEvents + n) }
  t.onRing r fun c => { c with state := .disabled, cause := 0, due := [], unsig := 0, bells := [], held := false }

end State
end Sys2Proof.Machine
end

