-- ==== Sys2Proof/Machine/Ledger.lean ====
section
/-!
DEFINITION. The health ledger as firmware reads it (R36, R388 to R391): the records in force, and the
units they keep out of service or swap.
-/
namespace Sys2Proof.Machine

/-- R391: the Cleared record `c` covers the record `x`. -/
def Record.clears (c x : Record) : Bool :=
  decide (c.kind = 0x0D) && decide (x.kind ≠ 0x0D) &&
    (decide (c.unit.toNat % 256 = 0xFF) || decide (c.unit.toNat = x.kind)) &&
    (decide (c.old = 0xFFFFFFFF) || decide (c.old = x.unit))

/-- The record `c`, appended after `x`, ends what `x` recorded: a Cleared record, KIND 0x09 for a channel listed out by
KIND 0x08, or a later snapshot of the same counter (R388). -/
def Record.ends (c x : Record) : Bool :=
  c.clears x || (decide (c.kind = 0x09) && decide (x.kind = 0x08) && decide (c.unit = x.unit) && decide (c.old = x.new))
    || (decide (c.kind = 0x0C) && decide (x.kind = 0x0C) && decide (c.unit = x.unit) && decide (c.old = x.old))

/-- R390: the records in force, in the order of the ledger. -/
def inForce : List Record → List Record
  | [] => []
  | x :: xs =>
    if xs.any (fun c => c.ends x) || decide (x.kind = 0x0D) || decide (x.kind = 0x09) then inForce xs
    else x :: inForce xs

namespace State

/-- The records in force of a kind. -/
def recorded (s : State) (kind : Nat) : List Record :=
  (inForce s.cal.ledger).filter fun x => decide (x.kind = kind)

/-- R389: firmware has a record to append; its SEQ and SEC are taken when it is programmed. -/
def queueRecord (kind : Nat) (unit old new : Nat) (s : State) : State :=
  s.onCal fun c => { c with
    pending := c.pending ++ [⟨0, 0, kind, false, BitVec.ofNat 32 unit, BitVec.ofNat 32 old, BitVec.ofNat 32 new⟩] }

/-- R166, R388: firmware copies the fault counts of the decompressor lanes to the ledger: a record of KIND 0x0C for each lane
whose counts are not those of its latest record. The manual says neither when nor in what form: at each stop of the whole
engine, with the block number of R457 as the source and DISAGREE and FAIL as the value (DESIGN CHOICE, log entry 92). -/
def recordLaneFaults (s : State) : State :=
  s.forEach (all 34) fun l t =>
    let v := s.exp.laneFault[l].disagree * 256 + s.exp.laneFault[l].fail
    let known := ((s.recorded 0x0C ++ s.cal.pending).filter fun x =>
      decide (x.kind = 0x0C) && decide (x.unit.toNat = 6) && decide (x.old.toNat = l.1)).getLast?.map (·.new.toNat)
    if known.getD 0 = v then t else t.queueRecord 0x0C 6 l.1 v

/-- R36, R388: firmware has a swap to append: records of KIND 0x01 to 0x04, that a restart waits for. -/
def swapPending (s : State) : Bool := s.cal.pending.any fun x => decide (1 ≤ x.kind ∧ x.kind ≤ 4)

/-- R388, R390: the slots of one half of the ledger region: SIZE × 64 KB in two halves of 32-byte records. -/
def halfSlots (s : State) : Nat := s.fld (aCal 0x204) 15 0 * 1024

end State
end Sys2Proof.Machine
end

