-- ==== Sys2Proof/Machine/Reset.lean ====
section
/-!
DEFINITION. What a cold and a warm reset do (R77, R78, R80, R402, R509), and the commands that begin and
end them (R66, R68 to R70, R77 to R80, R480, R493).
-/
namespace Sys2Proof.Machine

/-- R80: the precedence of causes that arise in one cycle: 0 stands before 1. -/
def ResetCause.place : ResetCause → Nat
  | .powerOn => 0 | .supply => 1 | .refclk => 2 | .overtemp => 3 | .porst => 4
  | .sysrst => 5 | .host => 6 | .wdog => 7

/-- Bits [8:1] of RST_CAUSE that record a cause (R80). -/
def ResetCause.bit : ResetCause → Nat
  | .sysrst => 1 | .host => 2 | .wdog => 3 | .powerOn => 4 | .porst => 5
  | .supply => 6 | .refclk => 7 | .overtemp => 8

/-- The holds of a cold reset. -/
def Hold.cold : Hold → Bool
  | .porst | .supply | .refclk | .overtemp => true
  | .sysrst | .warm => false

namespace State

/-- R421: the MAC address registers read the OTP addresses. -/
def loadMacs (s : State) : State :=
  s.forEach (all 2) fun p t =>
    (t.wrN (aEthPort p.1 4) (s.sys.mac[p].toNat % 2 ^ 32)).wrN (aEthPort p.1 8) (s.sys.mac[p].toNat / 2 ^ 32)

/-- R78: the head lanes that carry signals go to electrical idle. -/
def idleLanes (s : State) : State :=
  s.forEach ((all 32).filter fun p => !s.port[p].link.idle) fun p => emit (.lanesIdle p)

/-- The levels at the balls outlast a reset: the press pins, switches, encoders and GPIOs. -/
def keepPins (s t : State) : State :=
  let t := t.onInteg fun i => { i with
    pressRun := s.integ.pressRun, estop := s.integ.estop, holdoff := s.integ.holdoff
    latch := s.integ.estop || s.integ.holdoff }
  let t := t.onAxes fun v => v.mapFinIdx fun x a h =>
    { a with sw := s.axis[x].sw, a := s.axis[x].a, b := s.axis[x].b }
  let t := t.onHls fun u => { u with enc := u.enc.mapFinIdx fun m e h =>
    { e with a := s.hls.enc[m].a, b := s.hls.enc[m].b } }
  t.onGpio fun _ => s.gpioIn

/-- What either reset leaves: Sidereal, the flash, the OTP array, the pins, the record of what has left
the device, and the waiting commands. The manual does not say which group the MSI-X table and its PBA belong to: either reset
clears them, and a loss of the link by PERST_n leaves them (DESIGN CHOICE, log entry 89). -/
def resetCommon (s : State) : State :=
  let t : State := { State.reset with
    pending := s.pending, sdr := s.sdr, out := s.out, tick := s.tick, free := s.free,
    cfg := s.cfg.filter fun e => decide (e.1 / 0x100000 = 4) }
  let t := t.onSys fun y => { y with
    mainRails := s.sys.mainRails, keyHash := s.sys.keyHash, revoked := s.sys.revoked, fuses := s.sys.fuses,
    gradeE := s.sys.gradeE, mac := s.sys.mac }
  let t := t.onCal fun c => { c with ledger := s.cal.ledger, slots := s.cal.slots, half := s.cal.half, trail := s.cal.trail, seq := s.cal.seq }
  keepPins s t

/-- R80: the last reset began in this cycle, for a cause that takes precedence over this one or is this one. -/
def outranked (s : State) (cause : ResetCause) : Bool :=
  decide (s.sys.rstTick = s.tick + 1 ∧ s.sys.cause.place ≤ cause.place)

/-- R77, R80: a cold reset for a cause begins, held by `hold`; of two causes in one cycle the one that takes precedence is
recorded, and a rail that tripped in it. -/
def coldReset (cause : ResetCause) (hold : Hold) (s : State) : State :=
  (s.idleLanes.resetCommon).onSys fun y => { y with
    cause := if s.outranked cause then s.sys.cause else cause, rstTick := s.tick + 1
    rail := if s.sys.rstTick = s.tick + 1 then s.sys.rail else 15
    held := hold :: s.sys.held.filter fun h => decide (h ≠ hold ∧ h ≠ .warm) }

/-- R402, R406: what the spool controller keeps across a warm reset. -/
def keepSpool (s t : State) : State :=
  let t := t.onMem fun _ => s.mem
  t.onSpl fun u => { u with
    valid := s.spl.valid, errs := s.spl.errs, chmap := s.spl.chmap, dev := s.spl.dev, devHost := s.spl.devHost
    chans := s.spl.chans.map fun c => { Chan.reset with ecc := c.ecc, remaps := c.remaps, out := c.out, selfRef := true }
    groups := s.spl.groups.map fun g => { Group.reset with ecc := g.ecc, remaps := g.remaps } }

/-- The counters and tables that are kept across a warm reset: R165, R189, R207, R228, R284, R342,
R392, R430, R467, R481. -/
def keepWarm (s t : State) : State :=
  let t := keepSpool s t
  let t := t.onExp fun e => { e with laneFault := s.exp.laneFault }
  let t := t.onSe fun e => { e with
    engines := s.se.engines, stagedLevels := s.se.stagedLevels, checks := s.se.checks }
  let t := t.onBars fun v => v.mapFinIdx fun k b h =>
    { b with staged := s.bar[k].staged, edSat := s.bar[k].edSat, seam := s.bar[k].seam, residue := s.bar[k].residue }
  let t := t.onHls fun u => { u with enc := u.enc.mapFinIdx fun m e h =>
    { e with qerr := s.hls.enc[m].qerr, zcount := s.hls.enc[m].zcount } }
  let t := t.onAxes fun v => v.mapFinIdx fun x a h => { a with homed := s.axis[x].homed }
  let t := t.onCal fun c => { c with skip := s.cal.skip, miss := s.cal.miss, void := s.cal.void }
  let t := t.onEth fun u => { u with port := u.port.mapFinIdx fun p e h => { e with loss := s.eth.port[p].loss } }
  let t := t.onInteg fun i => { i with dcode := s.integ.dcode }
  let t := t.onHif fun h => { h with linkUp := s.hif.linkUp, pcie := s.hif.pcie }
  t.onSys fun y => { y with
    pll := s.sys.pll, otpRead := s.sys.otpRead, wdogCount := s.sys.wdogCount, wdogCore := s.sys.wdogCore,
    wdogPer := s.sys.wdogPer, warmCount := satTo 255 (s.sys.warmCount + 1) }

/-- R77, R80: a warm reset for a cause begins, held by `hold`. A second warm cause in the same cycle begins no second
reset: it holds the device too, and the cause that takes precedence is recorded. -/
def warmReset (cause : ResetCause) (hold : Hold) (s : State) : State :=
  if s.sys.rstTick = s.tick + 1 then
    s.onSys fun y => { y with
      cause := if s.outranked cause then y.cause else cause, held := y.held.filter (fun h => decide (h ≠ hold)) ++ [hold] }
  else
    let t := (keepWarm s s.idleLanes.resetCommon).onSys fun y => { y with cause := cause, rstTick := s.tick + 1, held := [hold] }
    if t.sys.otpRead then t.loadMacs else t

/-- A hold of the reset ends. -/
def release (h : Hold) (s : State) : State := s.onSys fun y => { y with held := y.held.filter fun x => decide (x ≠ h) }

/-- The device is out of reset with its main rails up. -/
def clear (s : State) : Bool := s.sys.held.isEmpty && s.sys.mainRails

end State

/-! ## The commands -/

/-- R77, R80: PORST_n is asserted. -/
def execPorstNAssert (suppliesUp : Bool) (s : State) : Result :=
  .next ((s.coldReset (if suppliesUp && s.sys.mainRails then .porst else .powerOn) .porst).onSys
    fun y => { y with mainRails := true })

/-- R79, R191, R192: PORST_n is released; the cold reset proceeds, with the default tables staged. -/
def execPorstNRelease (s : State) : Result :=
  .next (if s.sys.mainRails then s.release .porst else s)

/-- R68: a monitored rail stays low: a cold reset that records the rail. -/
def execSupplyMonitorTrip (rail : Fin 6) (s : State) : Result :=
  if s.sys.mainRails then
    .next ((s.coldReset .supply .supply).onSys fun y => { y with rail := if s.outranked .supply && decide (s.sys.rail ≠ 15) then s.sys.rail else rail.1 })
  else .next s

/-- R70: REFCLK is absent or off frequency: a cold reset. -/
def execRefclkLoss (s : State) : Result :=
  .next (if s.sys.mainRails then s.coldReset .refclk .refclk else s)

/-- R69: a sensor reads above the maximum: firmware posts the warning. -/
def execOvertempWarning (_sensor : Fin 8) (s : State) : Result :=
  .next (if s.up then s.errorUnit 0x1007 .c unitNone 0 0 else s)

/-- R69: a sensor reads 5 °C above the maximum: the stop event is written where the asynchronous ring
can be, and a cold reset begins, held until the device has cooled. -/
def execOvertempStop (_sensor : Fin 8) (s : State) : Result :=
  if s.sys.mainRails then
    let t := match s.asyncRing with
      | some r =>
        if s.hostUp && !s.asyncBlocked && s.hif.async.isEmpty then
          s.writeEvent r (s.asyncEvent .error 0x100A .d (infoUnit unitNone) 0 0)
        else s
      | none => s
    .next (t.coldReset .overtemp .overtemp)
  else .next s

/-- R69: every sensor reads 10 °C below the maximum. -/
def execOvertempRecovered (s : State) : Result := .next (s.release .overtemp)

/-- R78: SYSRST_n is held low for `ns` nanoseconds or longer: 1,000 begins a warm reset, below 200 is
ignored, and between them the outcome is free. -/
def execSysrstNAssert (ns : Nat) (s : State) : Result :=
  if ns < 200 ∨ !s.sys.mainRails then .next s
  else
    let t := if ns < 1000 then s.useFree else s
    if ns < 1000 ∧ !s.freeBool then .next t
    else if t.sys.held.any Hold.cold then
      .next (t.onSys fun y => { y with held := y.held.filter (fun h => decide (h ≠ .sysrst)) ++ [.sysrst] })
    else .next (t.warmReset .sysrst .sysrst)

/-- R79, R60: SYSRST_n is released. -/
def execSysrstNRelease (s : State) : Result := .next (s.release .sysrst)

/-- R493: a host write of RST_CTRL; bit 31 begins a warm reset. -/
def execRstCtrlWarm (v : Word) (s : State) : Result :=
  .next (if s.hostUp && v.getLsbD 31 then s.warmReset .host .warm else s)

/-- R480: the watchdog of an active core expires: a warm reset, and the expiry is counted. -/
def execCoreWatchdogExpiry (core : Fin 5) (s : State) : Result :=
  if s.clear && decide (s.sys.stage = 4) && decide (s.sys.cores[core] = .active) then
    .next ((s.warmReset .wdog .warm).onSys fun y => { y with
      wdogCount := satTo 255 (y.wdogCount + 1), wdogCore := core.1, wdogPer := upd y.wdogPer core (· + 1) })
  else .next s

/-- The warm reset of RST_CTRL.WARM or a watchdog ends. -/
def execWarmResetEnd (s : State) : Result := .next (s.release .warm)

/-- R70: REFCLK runs within tolerance again. -/
def execRefclkReturn (s : State) : Result := .next (s.release .refclk)

/-- R68: the tripped rail is within tolerance again. -/
def execSupplyRecovered (s : State) : Result := .next (s.release .supply)

/-- R65, R81, R82: the main rails go off: everything but Sidereal loses its state. -/
def execMainRailsOff (s : State) : Result :=
  .next ((s.coldReset s.sys.cause .porst).onSys fun y => { y with mainRails := false, held := [.porst] })

end Sys2Proof.Machine
end

