-- ==== Sys2Proof/Machine/Boot.lean ====
section
/-!
DEFINITION. The way from the end of a reset to firmware being ready (R79, R89, R479, R485 to R488,
R510): image headers and their acceptance, the cores' built-in test, the probe of the head ports, and
what firmware takes from the ledger.
-/
namespace Sys2Proof.Machine

/-- R261, R263: what a module advertises has the bits of the fields of ABR_PORTn_CAPS and RTT. -/
def capsField (c : ModCaps) : ModCaps :=
  { c with rowbuf := c.rowbuf % 4096, stage := c.stage % 256, nsens := c.nsens % 16, rtt := c.rtt % 65536 }

/-! ## Firmware images (R485, R486) -/

/-- Every byte of a range is 0. -/
def zeros (bs : List Byte) (o n : Nat) : Bool := (slice bs o n).all fun b => decide (b = 0)

/-- Fields of the header of R485. -/
def imgBodyLen (h : List Byte) : Nat := leAt h 4 4
def imgVersion (h : List Byte) : Nat := leAt h 8 4
def imgSvn (h : List Byte) : Nat := leAt h 12 1
def imgKey (h : List Byte) : Nat := leAt h 13 1

/-- R485: MAGIC, BODY_LEN, SVN, KEY_SLOT and the reserved bytes are as the header states, and the image is there. -/
def imgForm (h : List Byte) : Bool :=
  decide (leAt h 0 4 = 0x31465753) && decide (imgBodyLen h % 64 = 0) && decide (64 ≤ imgBodyLen h)
    && decide (imgBodyLen h ≤ 2359296) && decide (imgSvn h ≤ 64) && decide (imgKey h ≤ 3)
    && zeros h 14 50 && zeros h 161 31 && zeros h 336 176 && decide (512 + imgBodyLen h ≤ h.length)

namespace State

/-- R486: the conditions of acceptance other than the rollback counter. -/
def imgSound (s : State) (h : List Byte) : Bool :=
  imgForm h && (match fin? 4 (imgKey h) with
    | some k => decide (Config.sha384 (slice h 64 97) = s.sys.keyHash[k]) && !s.sys.revoked.getLsbD k.1
    | none => false)
    && decide (slice h 192 48 = Config.sha384 (slice h 512 (imgBodyLen h)))
    && Config.ecdsaValid (slice h 64 97) (slice h 0 240) (slice h 240 96)

/-- R486: the verdict on an image: 0 accepted, E_FW_ROLLBACK, or E_FW_IMAGE. -/
def imgVerdict (s : State) (h : List Byte) : Code :=
  if !s.imgSound h then 0x1101 else if imgSvn h < s.sys.fuses then 0x1102 else 0

/-- R487, R488: a failure is recorded in BOOT_STATUS.ERR and kept for posting. -/
def bootError (c : Code) (s : State) : State :=
  if c = 0 then s else s.onSys fun y => { y with bootErr := c, bootErrs := y.bootErrs ++ [c] }

/-- R487: slot B goes before slot A: greater SVN, then greater VERSION. -/
def imgBefore (b a : List Byte) : Bool :=
  decide (imgSvn a < imgSvn b) || (decide (imgSvn a = imgSvn b) && decide (imgVersion a < imgVersion b))

/-- The image runs: STAGE 4 with its source, SVN and VERSION. -/
def runImage (src : Nat) (h : List Byte) (s : State) : State :=
  s.onSys fun y => { y with stage := 4, src := src, imgSvn := imgSvn h, imgVer := imgVersion h }

/-! ## The cores' built-in test (R479, R480) -/

/-- The cores out of service by the ledger, with the cores that took their place (KIND 0x07). -/
def coreSwaps (s : State) : List (Nat × Nat) := (s.recorded 0x07).map fun x => (x.old.toNat, x.new.toNat)

/-- The state of a core at the test: failed, out of service (recorded, or three watchdog expiries), or as at reset. -/
def coreTest (s : State) (bad : List (Fin 5)) (c : Fin 5) : CoreState :=
  if bad.contains c then .failedTest
  else if (s.coreSwaps.any fun q => decide (q.1 = c.1)) || decide (3 ≤ s.sys.wdogPer[c]) then .outOfService
  else if c.1 < 4 || s.coreSwaps.any fun q => decide (q.2 = c.1) then .active
  else .spare

/-- R479, R36: each core that fails or is out of service is replaced by the spare after a ledger record of
KIND 0x07, which firmware appends first (R389); without a spare the failure is recorded as KIND 0x0B. -/
def testCores (bad : List (Fin 5)) (s : State) : State :=
  let t := s.onSys fun y => { y with cores := Vector.ofFn (s.coreTest bad) }
  let lost := (all 5).filter fun c =>
    decide (t.sys.cores[c] ≠ .active) && (if c.1 < 4 then !s.coreSwaps.any fun q => decide (q.1 = c.1)
      else s.coreSwaps.any fun q => decide (q.2 = c.1))
      && !(s.recorded 0x0B).any fun x => decide (x.unit.toNat = 0x07 ∧ x.old.toNat = c.1)
  match lost, t.sys.cores[4] with
  | [], _ => t
  | c :: cs, .spare => (t.queueRecord 0x07 0 c.1 4).forEach cs fun c => queueRecord 0x0B 0x07 c.1 0
  | cs, _ => t.forEach cs fun c => queueRecord 0x0B 0x07 c.1 0

/-- The cores that serve as logical cores. -/
def activeCores (s : State) : Nat := s.sys.cores.toList.countP fun c => decide (c = .active)

/-! ## What firmware takes from the ledger at boot (R390, R406, R479) -/

/-- R402, R406: the HBM remap entries of a channel, from records of KIND 0x05. -/
def ledgerRemaps (s : State) (c : ChanIx) : List Remap :=
  (s.recorded 0x05).filterMap fun x =>
    if x.unit.toNat = c.1 then some ⟨false, false, x.new.toNat / 14, x.new.toNat % 14, none⟩ else none

/-- The SRAM remap entries of a macro group, from records of KIND 0x06. -/
def ledgerRows (s : State) (g : GroupIx) : List Remap :=
  (s.recorded 0x06).filterMap fun x => if x.unit.toNat = g.1 then some ⟨false, false, x.old.toNat, 0, none⟩ else none

/-- R36: the engine is recorded as swapped out, or as failed with no spare. -/
def engineGone (s : State) (i : Nat) : Bool :=
  (s.recorded 0x01).any (fun x => decide (x.old.toNat = i)) ||
    (s.recorded 0x0B).any fun x => decide (x.unit.toNat = 1) && decide (x.old.toNat = i)

/-- R13, R165: the DCMP_LANE_EN bits of lanes out of service are held at 0. -/
def holdLanes (s : State) : State :=
  let out := (all 34).foldl (fun m l => m + (if s.exp.laneOut.contains l.1 then 2 ^ l.1 else 0)) 0
  (s.wrN (aDcmp 0) (s.rdN (aDcmp 0) - (s.rdN (aDcmp 0) &&& out % 2 ^ 32))).wrN (aDcmp 4)
    (s.rdN (aDcmp 4) - (s.rdN (aDcmp 4) &&& out / 2 ^ 32))

/-- Units recorded as swapped out: engines, lanes and channels (R36). -/
def takeOut (s : State) : State :=
  let t := s.onSe fun e => { e with engines := e.engines.mapFinIdx fun i q _ => { q with out := q.out || s.engineGone i } }
  let t := (t.onExp fun e => { e with laneOut := ((s.recorded 0x02).map fun x => x.unit.toNat).eraseDups }).holdLanes
  t.onSpl fun u => { u with
    chans := u.chans.mapFinIdx fun i q h => { q with
      out := q.out || (s.recorded 0x04).any fun x => decide (x.old.toNat = i)
      remaps := if q.remaps.isEmpty then s.ledgerRemaps ⟨i, h⟩ else q.remaps }
    groups := u.groups.mapFinIdx fun i q h => { q with
      remaps := if q.remaps.isEmpty then s.ledgerRows ⟨i, h⟩ else q.remaps } }

/-- R390: when the active half is at least 75 % full, one record for each state in force is written into
the other half, which becomes active; the records take new numbers. -/
def compactLedger (s : State) : State :=
  if 0 < s.halfSlots ∧ 3 * s.halfSlots ≤ 4 * s.cal.slots then
    let live := inForce s.cal.ledger
    s.onCal fun c => { c with
      ledger := live.mapIdx fun i x => { x with seq := c.seq + BitVec.ofNat 32 i }
      slots := live.length, half := !c.half, trail := false, seq := c.seq + BitVec.ofNat 32 live.length }
  else s

/-- R307: E_TIME_UNTRACED, while TRACE is clear. -/
def untraced (s : State) : State :=
  if s.mer.trace then s else s.postAsync (s.asyncEvent .status 0x0907 .c (infoUnit unitNone) 0 0x0D)

/-- R487: a write of BOOT_CTRL; GO is ignored unless STAGE is 2. -/
def writeBootCtrl (v : Word) (s : State) : State :=
  if v.getLsbD 31 && decide (s.sys.stage = 2) then s.onSys fun y => { y with stage := 3, src := 2 } else s

/-- R390: the slots whose check fails before the last record. -/
def corruptSlots (s : State) : Nat := s.cal.slots - s.cal.ledger.length - b2n s.cal.trail

end State

/-! ## The commands -/

/-- R70, R79: the main PLL locks after PORST_n is released. -/
def execMainPllLock (s : State) : Result :=
  .next (if s.clear then s.onSys fun y => { y with pll := true } else s)

/-- R79, R421: the OTP array has been read and checked. -/
def execOtpReadDone (s : State) : Result :=
  .next (if s.clear && s.sys.pll then (s.onSys fun y => { y with otpRead := true }).loadMacs else s)

/-- R89, R90, R305, R307: Meridian takes Sidereal's time at a Sidereal tick boundary, and is traceable unless TIME_LOST is
set; the registers that copy its time take it too. R60: XSPI_RESET_n has been low for 10 µs by then, and the boot ROM drives it
high, more than 100 µs before its first flash access. -/
def execMeridianSeed (s : State) : Result :=
  if s.clear && s.sys.pll && !s.sys.seeded then
    let t := (s.onMer fun m => { m with
        time := s.sdr.sec * (1000000000 * 16777216) + s.sdr.sub * (1000000000 * 512)
        copy := s.sdr.sec * (1000000000 * 16777216) + s.sdr.sub * (1000000000 * 512)
        trace := !s.sdr.timeLost }).onSys fun y => { y with seeded := true, xspiHigh := true }
    .next (t.emit (.xspiReset true)).untraced
  else .next s

/-- R79, R77: the HBM has been trained, or its training restored; the channels leave self-refresh. -/
def execHbmTrainingDone (s : State) : Result :=
  if s.clear && s.sys.pll && s.sys.otpRead && s.sys.seeded then
    .next ((s.onSys fun y => { y with hbm := true }).onSpl fun u =>
      { u with chans := u.chans.map fun c => { c with selfRef := false } })
  else .next s

/-- R479, R487: the boot ROM has read both slots and verified them; the
accepted image with the greater SVN, then the greater VERSION, then slot A, runs on the tested cores. -/
def execBootSlotVerifyDone (a b : List Byte) (bad : List (Fin 5)) (s : State) : Result :=
  if s.clear && s.sys.pll && s.sys.hbm && decide (s.sys.stage < 2) then
    let va := s.imgVerdict a
    let vb := s.imgVerdict b
    let t := ((s.onSys fun y => { y with stage := 1 }).bootError va).bootError vb
    if va = 0 ∧ (vb ≠ 0 ∨ !State.imgBefore b a) then .next ((t.runImage 0 a).testCores bad)
    else if vb = 0 then .next ((t.runImage 1 b).testCores bad)
    else .next t
  else .next s

/-- R487: no slot holds an accepted image by 30 ms: the boot ROM awaits the host. -/
def execBootAwaitHost (s : State) : Result :=
  .next (if s.clear && s.sys.pll && s.sys.seeded && decide (s.sys.stage < 2) then
    s.onSys fun y => { y with stage := 2 } else s)

/-- R487: a host write of BOOT_CTRL; GO is ignored unless STAGE is 2. -/
def execBootGo (v : Word) (s : State) : Result :=
  .next (if s.clear && s.hif.linkUp then s.writeBootCtrl v else s)

/-- R486, R487: the host image has been read and verified; `image` is what BOOT_IMG_LEN bytes of host
memory held. A rejected image leaves the boot ROM awaiting again. -/
def execHostImageVerifyDone (image : List Byte) (bad : List (Fin 5)) (s : State) : Result :=
  if s.clear && decide (s.sys.stage = 3) then
    let h := slice image 0 (s.rdN aBootLen)
    let v := if 512 + imgBodyLen h = s.rdN aBootLen then s.imgVerdict h else 0x1101
    let t := s.hostLoad false (s.rd64 aBootAddr) (s.rdN aBootLen)
    if v = 0 then .next ((t.runImage 2 h).testCores bad)
    else .next ((t.bootError v).onSys fun y => { y with stage := 2 })
  else .next s

/-- R510, R63: firmware has trained the head ports: a port found is stopped with its link active and its
capabilities loaded, any other is absent. -/
def execBootPortProbe (found : List (PortIx × ModCaps)) (s : State) : Result :=
  if s.clear && decide (s.sys.stage = 4) && !s.sys.probed then
    let t := s.onSys fun y => { y with probed := true }
    .next (t.forEach (all 32) fun p => State.onLink p fun l =>
      match found.find? fun q => decide (q.1 = p) with
      | some q => { l with lstate := 6, fault := 0, caps := capsField q.2, lock := true, idle := false, absent := false,
                           trained := some (0, 1) }
      | none => { l with lstate := 7, fault := 6, absent := true, idle := true })
  else .next s

/-- R79, R390, R406, R479, R484, R488: firmware has loaded the remaps and swaps of the ledger, and reports
ready; it posts each recorded boot failure. -/
def execFirmwareReady (s : State) : Result :=
  if s.clear && s.sys.hbm && s.sys.seeded && decide (s.sys.stage = 4) && s.sys.probed && !s.sys.fwReady
      && decide (4 ≤ s.activeCores) then
    let t := s.takeOut.forEach (List.replicate s.corruptSlots ()) fun _ => State.errorUnit 0x0C07 .c unitNone 0 0x10
    let t := t.compactLedger.onSys fun y => { y with fwReady := true, svc := 1, bootErrs := [] }
    .next (t.forEach s.sys.bootErrs fun c => State.errorUnit c .c unitNone 0 1)
  else .next s

end Sys2Proof.Machine
end

