-- ==== Sys2Proof/Machine/Sidereal.lean ====
section
/-!
DEFINITION. Sidereal, the always-on island: its counters, loads, alarms and comparators (R81 to R88).
-/
namespace Sys2Proof.Machine
namespace State

/-- R82: the main side reaches Sidereal, and the host can reach the main side. -/
def sdrReach (s : State) : Bool := s.hostUp && s.sys.mainRails

/-- The 48-bit seconds value in a register pair of Sidereal (R88). -/
def sdrPair (s : State) (j : Nat) : Nat := s.rdN (aSdr j) + s.rdN (aSdr (j + 4)) % 65536 * 4294967296

/-- R86: an armed alarm whose value is reached sets its ALARM flag and disarms itself. -/
def sdrAlarm (n : Fin 2) (s : State) : State :=
  if s.sdr.armed[n.1] && decide (s.sdrPair (0x30 + 8 * n.1) ≤ s.sdr.sec) then
    (s.onSdr fun d => { d with armed := d.armed.set n.1 false n.2, alarm := d.alarm.set n.1 true n.2 }).setW1c
      (aSdr 0x24) (4 + n.1)
  else s

/-- R86: arm or disarm an alarm as a write of SDR_CTRL asks. -/
def sdrArmBits (v : Word) (n : Fin 2) (s : State) : State :=
  if v.getLsbD (1 + n.1) then s.onSdr fun d => { d with armed := d.armed.set n.1 true n.2 }
  else if v.getLsbD (3 + n.1) then s.onSdr fun d => { d with armed := d.armed.set n.1 false n.2 }
  else s

/-- R84, R86: a write of SDR_CTRL: refused when it loads while BUSY, or sets both ARMn and DISARMn. -/
def sdrCtrl (v : Word) (s : State) : State :=
  if (v.getLsbD 0 && s.sdr.busy) || (v.getLsbD 1 && v.getLsbD 3) || (v.getLsbD 2 && v.getLsbD 4) then
    s.refuseWrite (aSdr 0x20) v
  else
    let t := if v.getLsbD 0 then s.onSdr fun d => { d with busy := true } else s
    t.forEach (all 2) (sdrArmBits v)

/-- R87: WAKE_OUT is high while an ALARM flag is set, or an EVENT flag whose comparator has WAKE_EN. -/
def wakeOut (s : State) : Bool :=
  s.sdr.alarm.any id || (all 4).any fun n => s.sdr.event[n] && s.fbit (aSdr (0x40 + 4 * n.1)) 14

/-- R85: the comparator's output for an input level, in 1/16 mV: sure outside the hysteresis of 10 mV on
either side of the threshold and where the output agrees with the level; else a free choice. -/
def compare (s : State) (n : Fin 4) (level : Nat) : Bool × Bool :=
  let th := 75 * s.fld (aSdr (0x40 + 4 * n.1)) 7 0
  let up := s.sdr.high[n]
  if th + 160 ≤ level then (true, false)
  else if level + 160 ≤ th then (false, false)
  else if up = decide (th ≤ level) then (up, false)
  else (s.freeBool, true)

end State

/-- R82: Sidereal's own power-on reset, which comes with the main rails off or at their first application. -/
def execSiderealPowerOnReset (s : State) : Result :=
  if !s.sys.mainRails || s.sys.held.contains .porst then
    .next ((s.onSdr fun _ => Sidereal.reset).onCfg fun t => t.filter fun e => decide (e.1 / 0x100000 ≠ 4))
  else .next s

/-- R84, R86: a tick of XTAL32: the counters advance, or take a pending load, and the alarms are compared. -/
def execSiderealTick (s : State) : Result :=
  let t := s.onSdr fun d =>
    if d.busy then
      { d with sec := s.sdrPair 0x14, sub := s.fld (aSdr 0x10) 14 0, busy := false, timeLost := false }
    else if d.sub + 1 < 32768 then { d with sub := d.sub + 1 }
    else { d with sub := 0, sec := (d.sec + 1) % 2 ^ 48 }
  .next (t.forEach (all 2) State.sdrAlarm)

/-- R84: a write of SDR_CTRL that sets LOAD. -/
def execSdrLoad (v : Word) (s : State) : Result := .next (if s.sdrReach then (s.hostIn 4).sdrCtrl v else s)

/-- R86: a write of SDR_CTRL that sets ARMn. -/
def execSdrArm (_n : Fin 2) (v : Word) (s : State) : Result := .next (if s.sdrReach then (s.hostIn 4).sdrCtrl v else s)

/-- R86: a write of SDR_CTRL that sets DISARMn. -/
def execSdrDisarm (_n : Fin 2) (v : Word) (s : State) : Result := .next (if s.sdrReach then (s.hostIn 4).sdrCtrl v else s)

/-- R83: a read of SDR_SUB copies the seconds. -/
def execSdrSubRead (s : State) : Result :=
  if s.sdrReach then
    .next ((s.onSdr fun d => { d with secCopy := d.sec }).reply (BitVec.ofNat 32 s.sdr.sub))
  else .next s

/-- R85: an enabled comparator samples its input: a crossing in the selected direction sets EVENT and,
when it was clear, records the seconds. The output that the first sample after the power-on reset, or after EN is set again, is
compared with is not stated: it is low after the reset and kept while EN is 0 (DESIGN CHOICE, log entry 89). -/
def execComparatorSample (n : Fin 4) (level : Nat) (s : State) : Result :=
  if !s.fbit (aSdr (0x40 + 4 * n.1)) 15 then .next s
  else
    let c := s.compare n level
    let t := if c.2 then s.useFree else s
    let crossed := decide (c.1 ≠ s.sdr.high[n]) && decide (c.1 ≠ s.fbit (aSdr (0x40 + 4 * n.1)) 11)
    let t := t.onSdr fun d => { d with
      high := d.high.set n.1 c.1 n.2
      stamp := if crossed && !d.event[n] then d.stamp.set n.1 d.sec n.2 else d.stamp
      event := if crossed then d.event.set n.1 true n.2 else d.event }
    .next (if crossed then t.setW1c (aSdr 0x24) n.1 else t)

end Sys2Proof.Machine
end

