-- ==== Sys2Proof/Machine/HostRings.lean ====
section
/-!
DEFINITION. The host interface at work: doorbells (R102 to R105), enabling, disabling and draining a ring
(R98, R99, R101), the fetch of entries (R106, R114), the posting of due events (R114, R115, R512),
moderation (R121, R122) and the host heartbeat (R123, R124).
-/
namespace Sys2Proof.Machine
namespace State

/-! ## Doorbells -/

/-- R102: the position that a doorbell value names on a ring of `size` entries. -/
def bellPos (v : Word) (size : Nat) : Option Nat :=
  if bits v.toNat 30 16 = 0 ∧ bits v.toNat 15 0 < size then some (bits v.toNat 31 31 * size + bits v.toNat 15 0)
  else none

/-- R103: a submission doorbell on an ACTIVE ring is valid at this position. -/
def sqBellOk (s : State) (r : RingIx) (p : Nat) : Bool :=
  let c := s.hif.rings[r]
  let n := s.sqSize r
  decide (occupancy n c.sqTail c.sqHead ≤ occupancy n p c.sqHead) && decide (occupancy n p c.sqHead ≤ n)

/-- R104: an event head is valid when it advances up to the event tail at most. -/
def eqBellOk (s : State) (r : RingIx) (p : Nat) : Bool :=
  let c := s.hif.rings[r]
  let n := s.eqSize r
  decide (occupancy n c.eqTail p ≤ occupancy n c.eqTail c.eqHead)

/-- A doorbell page takes writes: the device is up, and the page is that of an ACTIVE ring of the host. -/
def bellRing (s : State) (r : RingIx) : Bool := decide (r.1 ≠ 0) && decide (s.hif.rings[r].state = .active)

/-- R103: a completion event of an invalid submission doorbell. -/
def bellEvent (s : State) (r : RingIx) : Event :=
  ⟨0x0101, .completion, r, 0, infoUnit unitNone, s.mer.time, 0, 2, .c, none⟩

/-! ## Enabling and disabling (R98, R99, R101) -/

/-- R99: the sizes and bases with which a ring can be enabled, given the SQ_CFG value. -/
def ringSettings (s : State) (r : RingIx) (v : Word) : Bool :=
  let sq := bits v.toNat 4 0
  let eq := s.fld (aRing r 0x18) 4 0
  decide (4 ≤ sq ∧ sq ≤ 16 ∧ 4 ≤ eq ∧ eq ≤ 16) && decide (s.rd64 (aRing r 0) ≠ 0) && decide (s.rd64 (aRing r 0x10) ≠ 0)

/-- R98, R99, R101: a write of SQ_CFG of a host ring. EN = 0 begins disabling an ACTIVE or HALTED ring, also one that was
halted while it drained, whose EN reads 0 already. -/
def writeSqCfg (r : RingIx) (v : Word) (s : State) : State :=
  let off := aRing r 8
  let old := s.rdN off
  let new := v &&& BitVec.ofNat 32 0xF000001F
  if r.1 = 0 then s.badAccess
  else if s.hif.rings[r].state = .disabled then
    if new.toNat = old then s
    else if new.getLsbD 31 then
      if s.ringSettings r v then
        (s.wr off new).onRing r fun c =>
          { Ring.reset with state := .active, fetched := c.fetched, running := c.running }
      else s.refuseWrite off v
    else s.wr off new
  else if s.hif.rings[r].state ≠ .draining ∧ new.getLsbD 31 = false ∧ old % 2 ^ 31 = new.toNat then
    (s.wr off new).onRing r fun c => { c with state := .draining, bells := [] }
  else if new.toNat = old then s
  else s.refuseWrite off v

/-! ## Fetching (R106, R114) -/

/-- An entry with EVENT or FENCE set (R107). -/
def entryHeld (e : Entry) : Bool := decide (fieldAt e 1 1 % 4 ≠ 0)

/-- R106, R114: the ring has entries to fetch, and the next is not known to wait for room in the event ring. -/
def fetchable (s : State) (r : RingIx) : Bool :=
  let c := s.hif.rings[r]
  decide (c.state = .active) && decide (c.sqHead ≠ c.sqTail) && !(c.held && s.eqFull r)

/-- R106: the age of a ring: that of its oldest doorbell whose entries are not all fetched. -/
def ringAge (c : Ring) : Nat := (c.bells.head?.map (·.2)).getD 0

/-- R27, R106: the ring whose entries are fetched next. -/
def fetchRing (s : State) : Option RingIx :=
  (arbitrate 128 s.hif.fetchPtr (((all 128).filter s.fetchable).map fun r =>
    (r.1, ringAge s.hif.rings[r], s.fld (aRing r 8) 29 28))).bind (fin? 128)

/-- R106, R114: how many of the entries read are taken: at most those between head and tail, those of Max Read Request Size,
and the ring's end; and while the event ring is full, none from the first with EVENT or FENCE set on. -/
def fetchCount (s : State) (r : RingIx) (entries : List Entry) : Nat :=
  let c := s.hif.rings[r]
  let n := s.sqSize r
  let most := min (min (occupancy n c.sqTail c.sqHead) (s.hif.pcie.maxRead / 64)) (n - c.sqHead % n)
  let l := entries.take most
  if s.eqFull r then (l.takeWhile fun e => !entryHeld e).length else l.length

/-- R106, R117: the entries that a read asks for, from the ring's head on; it never carries No-Snoop. -/
def readEntries (r : RingIx) (s : State) : State :=
  let c := s.hif.rings[r]
  let n := s.sqSize r
  s.emit (.hostRead (s.rd64 (aRing r 0) + 64 * (c.sqHead % n))
    (64 * min (min (occupancy n c.sqTail c.sqHead) (s.hif.pcie.maxRead / 64)) (n - c.sqHead % n)) false)

/-- R106: the doorbells whose entries are not all fetched once the head has moved to `head`. -/
def bellsLeft (n head : Nat) (c : Ring) : List (Nat × Nat) :=
  c.bells.filter fun b => decide (occupancy n c.sqTail b.1 < occupancy n c.sqTail head)

/-- Take entries into the ring's fetched list. -/
def takeEntries (r : RingIx) (l : List Entry) (s : State) : State :=
  let n := s.sqSize r
  (((s.onRing r fun c =>
    let head := (c.sqHead + l.length) % (2 * n)
    let new := l.mapIdx fun i e => (e, (c.sqHead + i) % (2 * n))
    { c with sqHead := head, fetched := c.fetched ++ new, bells := bellsLeft n head c, held := false }).count
      (5 * 64 + 1) l.length).count (5 * 64 + 4) 1).hostIn (64 * l.length)

/-! ## Posting (R114, R115, R512) -/

/-- R137, R141: bit 56 of a SHEET event tells whether the rewind mark is valid when the event is written. -/
def withMark (s : State) (e : Event) : Event :=
  if e.mark.any fun p => decide (s.job.tail ≤ p) then { e with info0 := e.info0 ||| BitVec.ofNat 64 (2 ^ 56), mark := none }
  else { e with mark := none }

/-- The oldest event due on a ring is written into a free slot, or discarded and counted on a ring that
is DISABLED or halted by cause 4 or 5. -/
def postDue (r : RingIx) (s : State) : State :=
  match s.hif.rings[r].due with
  | [] => s
  | e :: rest =>
    let t := s.onRing r fun c => { c with due := rest }
    if s.ringDead r then t.onHif fun h => { h with lostEvents := sat32 (h.lostEvents + 1) }
    else if s.eqFull r then s
    else t.writeEvent r (s.withMark e)

/-- R115: the LOST event, or else the oldest event of the device queue, is written on the asynchronous ring. -/
def postAsyncDue (s : State) : State :=
  match s.asyncRing with
  | none => s
  | some r =>
    if s.asyncBlocked then s
    else if 0 < s.hif.lost then
      (s.onHif fun h => { h with lost := 0, lostCls := .none }).writeEvent r
        ⟨0x0108, .lost, 0, 0, BitVec.ofNat 64 s.hif.lost, s.mer.time, 0, 2, s.hif.lostCls, none⟩
    else match s.hif.async with
      | [] => s
      | e :: rest => (s.onHif fun h => { h with async := rest }).writeEvent r e

/-! ## MSI-X (R121) -/

/-- A vector is unmasked: its control bit clears, and a pending message is sent, unless the function masks its vectors. -/
def unmask (v : Fin 128) (s : State) : State :=
  let t := s.wr (aMsix v.1) 0
  if s.hif.pba[v] && s.hif.pcie.msixEnable && !s.hif.pcie.funcMask then (((t.onHif fun h => { h with pba := h.pba.set v.1 false v.2 }).count (5 * 64 + 3) 1).hostOut 4).emit (.msix v.1)
  else t

/-- R123: a write of HIF_HB; the first one after EN was set arms the timer. -/
def heartbeat (s : State) : State :=
  if s.fbit aHifHbCfg 31 && decide (s.hif.hb = .idle) then s.onHif fun h => { h with hb := .armed } else s

end State

/-! ## The commands -/

/-- R103: a host write of a submission tail. -/
def execSqDoorbell (r : RingIx) (v : Word) (s : State) : Result :=
  if !s.hostUp then .next s
  else if !s.bellRing r then .next s.badAccess
  else
    let t := (s.count (5 * 64) 1).hostIn 4
    let pos := (State.bellPos v (s.sqSize r)).filter (s.sqBellOk r)
    match pos with
    | none => .next ((t.haltRing r 1).postRing r (t.bellEvent r))
    | some p =>
      if p = s.hif.rings[r].sqTail then .next t
      else .next (t.onRing r fun c => { c with sqTail := p, bells := c.bells ++ [(p, t.tick)] })

/-- R104: a host write of an event head. -/
def execEqDoorbell (r : RingIx) (v : Word) (s : State) : Result :=
  if !s.hostUp then .next s
  else if !s.bellRing r then .next s.badAccess
  else
    let t := (s.count (5 * 64) 1).hostIn 4
    let pos := (State.bellPos v (s.eqSize r)).filter (s.eqBellOk r)
    match pos with
    | none => .next (t.haltRing r 2)
    | some p => .next (t.onRing r fun c => { c with eqHead := p })

/-- R99: a host write of SQ_CFG that sets EN. -/
def execRingEnable (r : RingIx) (v : Word) (s : State) : Result :=
  .next (if s.hostUp then (s.hostIn 4).writeSqCfg r v else s)

/-- R101: a host write of SQ_CFG that clears EN. -/
def execRingDisable (r : RingIx) (v : Word) (s : State) : Result :=
  .next (if s.hostUp then (s.hostIn 4).writeSqCfg r v else s)

/-- R101: the last fetched entry of a draining ring has completed and posted: the ring is DISABLED. -/
def execRingDrainComplete (r : RingIx) (s : State) : Result :=
  .next (if s.hif.rings[r].state = .draining ∧ State.drained s.hif.rings[r] then s.disableRing r else s)

/-- R106: the device reads entries of the ring that R27 chooses; `entries` is what host memory held from
the ring's head on. -/
def execEntryFetch (entries : List Entry) (s : State) : Result :=
  if !s.hostUp then .next s
  else match s.fetchRing with
    | none => .next s
    | some r =>
      let n := s.fetchCount r entries
      let t := s.readEntries r
      if n = 0 then .next (if s.eqFull r && entries.head?.any State.entryHeld then t.onRing r fun c => { c with held := true } else t)
      else .next ((t.takeEntries r (entries.take n)).onHif fun h => { h with fetchPtr := (r.1 + 1) % 128 })

/-- R114, R115: the oldest event due on a ring, or in the device queue, is posted. -/
def execEventPost (t : EventTarget) (s : State) : Result :=
  if !s.up then .next s
  else match t with
    | .ring r => .next (s.postDue r)
    | .async => .next s.postAsyncDue

/-- R122: MOD_TIME has passed since the oldest unsignalled event. -/
def execMsixModerationTimeout (r : RingIx) (s : State) : Result :=
  .next (if s.hostUp && s.irqEn r && decide (s.modTime r ≠ 0) && decide (0 < s.hif.rings[r].unsig) then
    s.sendMsix r else s)

/-- R121: the host unmasks a vector. -/
def execMsixUnmask (vector : Fin 128) (s : State) : Result :=
  .next (if s.hostUp then (s.hostIn 4).unmask vector else s)

/-- R123: any write of HIF_HB is a heartbeat. -/
def execHifHb (_v : Word) (s : State) : Result :=
  .next (if s.hostUp then (s.hostIn 4).heartbeat else s)

/-- R124: the heartbeat timer runs out: E_HOST_LOST, and an orderly stop. -/
def execHeartbeatTimeout (s : State) : Result :=
  .next (if s.up && decide (s.hif.hb = .armed) then
    ((s.onHif fun h => { h with hb := .expired }).status 0x0106 (infoUnit unitNone) 0 2).orderlyStop
  else s)

end Sys2Proof.Machine
end

