-- ==== Sys2Proof/Machine/Memory.lean ====
section
/-!
DEFINITION. The spool as memory: its bytes by their place in the stacks (R395), the valid map (R400), the
error code with its counters and buckets (R397, R399, R408), remapping (R407), and the injection of
errors (R409). A byte that nothing has written reads 0 (R400).
-/
/-- R189: the byte of the device area at an address that the device itself has stored, where it has: what the bytes are and
where they stand is not defined. They depend on the number of times that the device has written its staging area, and on the
band directory, the patch store, the completed taps and the calibration sums. -/
opaque Sys2Proof.Config.deviceByte :
  Nat → List Sys2Proof.Machine.Band → List Sys2Proof.Machine.Patch → List Sys2Proof.Machine.Tap →
    Sys2Proof.Machine.Table Sys2Proof.Machine.CellSum → Nat → Option Sys2Proof.Byte

namespace Sys2Proof.Machine

/-- R95: the usable spool, 78.75 GB. -/
def spoolSize : Nat := 84557168640

/-- R189: the device area begins at 78 GB of usable spool. -/
def deviceArea : Nat := 83751862272

/-- What a byte that is not listed reads as (R400). -/
def memDefault (_ : Nat) : Byte := 0
/-- Read one byte of the spool. -/
def memRead (m : List Host.Cell) (a : Nat) : Byte := tget memDefault m a
/-- Write one byte of the spool. -/
def memWrite (m : List Host.Cell) (a : Nat) (b : Byte) : List Host.Cell := tput memDefault m a b
/-- Write bytes at consecutive addresses. -/
def memWrites (m : List Host.Cell) (a : Nat) (bs : List Byte) : List Host.Cell := tputs memDefault m a bs
/-- Read `n` bytes from an address. -/
def memReads (m : List Host.Cell) (a : Nat) : Nat → List Byte
  | 0 => []
  | n + 1 => memRead m a :: memReads m (a + 1) n

/-- Addresses from `lo` on ascend strictly, and no listed byte is 0. -/
def Memory.wfFrom : Nat → List Host.Cell → Bool
  | _, [] => true
  | lo, (a, b) :: t => decide (lo ≤ a) && decide (b ≠ 0) && Memory.wfFrom (a + 1) t

/-- The canonical form of the spool's list of bytes. -/
def Memory.wf (m : List Host.Cell) : Bool := Memory.wfFrom 0 m

namespace State

/-! ## Placement (R395, R400) -/

/-- SPL_CHMAPr: the channel of an interleave slot. -/
def chmap (s : State) (slot : Nat) : ChanIx :=
  ⟨s.fld (aSpl (0x40 + 4 * (slot / 5))) (6 * (slot % 5) + 5) (6 * (slot % 5)) % 64, Nat.mod_lt _ (by decide)⟩

/-- The channel, row and block that hold a usable spool address. -/
def place (s : State) (a : Nat) : ChanIx × Nat × Nat := (s.chmap (a / 896 % 60), a / 896 / 60, a % 896 / 64)

/-- R395: the place of a usable spool address, as one number: rows of 64 channels of 896 data bytes each. It depends on the
interleave, so bytes stay with their channel when SPL_CHMAPr is rewritten (R396). -/
def physAddr (s : State) (a : Nat) : Nat := (a / 53760 * 64 + (s.chmap (a / 896 % 60)).1) * 896 + a % 896

/-- The place of a block of a channel, over 64. -/
def physBlock (c : ChanIx) (row blk : Nat) : Nat := (row * 64 + c.1) * 14 + blk

/-- R395: the byte at a usable spool address, as stored. -/
def byteAt (s : State) (a : Nat) : Byte := memRead s.mem (s.physAddr a)

/-- R395: `n` bytes from a usable spool address, as stored. -/
def peek (s : State) (a : Nat) : Nat → List Byte
  | 0 => []
  | n + 1 => s.byteAt a :: peek s (a + 1) n

/-- The granule of a row of a channel, numbered over all 64 channels. -/
def granule (c : ChanIx) (row : Nat) : Nat := c.1 * 393216 + row / 4

/-- The granule of a usable spool address. -/
def granuleOf (s : State) (a : Nat) : Nat := granule (s.place a).1 (s.place a).2.1

/-! ## Corrections (R408) -/

/-- THRESH of SPL_BUCKET_CFG. -/
def thresh (s : State) : Nat := s.fld (aSpl 8) 31 24

/-- One corrected code word in a set of counters: check symbols only, or data. -/
def EccCount.corrected (thr : Nat) (check : Bool) (e : EccCount) : EccCount :=
  { e with bucket := min thr (e.bucket + 1), quiet := e.quiet || decide (e.bucket + 1 = thr)
           chk := if check then satTo 255 (e.chk + 1) else e.chk
           corr := if check then e.corr else sat32 (e.corr + 1) }

/-- The bucket reaches its threshold from below, and no event of it is outstanding. -/
def EccCount.fills (thr : Nat) (e : EccCount) : Bool := decide (e.bucket + 1 = thr) && !e.quiet

/-- E_ECC_BUCKET of a channel or, with `sram`, a macro group. -/
def bucketEvent (sram : Bool) (i : Nat) : State → State :=
  error 0x0D04 .c (BitVec.ofNat 64 (i + b2n sram * 256)) 0 0x11

/-- A corrected code word of a channel. -/
def correctHbm (c : ChanIx) (check : Bool) (s : State) : State :=
  let e := s.spl.chans[c].ecc
  let t := (s.onChan c fun q => { q with ecc := EccCount.corrected s.thresh check q.ecc }).count
    (4 * 64 + if check then 33 else 32) 1
  if EccCount.fills s.thresh e then t.bucketEvent false c.1 else t

/-- A corrected word of a macro group. -/
def correctSram (g : GroupIx) (check : Bool) (s : State) : State :=
  let e := s.spl.groups[g].ecc
  let t := (s.onGroup g fun q => { q with ecc := EccCount.corrected s.thresh check q.ecc }).count (4 * 64 + 34) 1
  if EccCount.fills s.thresh e then t.bucketEvent true g.1 else t

/-! ## Remapping (R407) -/

/-- A block of a channel is remapped, or its spare is marked POISON. -/
def remapHbm (c : ChanIx) (row blk : Nat) (poison : Bool) (s : State) : State :=
  let q := s.spl.chans[c]
  if q.remaps.any fun x => decide (x.row = row ∧ x.blk = blk) then
    s.onChan c fun q => { q with
      remaps := q.remaps.map fun x => if x.row = row ∧ x.blk = blk then { x with poison := x.poison || poison } else x }
  else if q.remaps.length < 32 then
    ((s.onChan c fun q => { q with remaps := q.remaps ++ [⟨poison, false, row, blk, none⟩] }).count (4 * 64 + 36) 1).queueRecord
      0x05 c.1 0 (row * 14 + blk)
  else s.errorUnit 0x0D03 .c (unitChan c) 0 0x11

/-- The spare of a block holds no good data. -/
def poisoned (s : State) (c : ChanIx) (row blk : Nat) : Bool :=
  s.spl.chans[c].remaps.any fun x => decide (x.row = row ∧ x.blk = blk) && x.poison

/-! ## Banks and self-refresh (R412, R416) -/

/-- R412: an access to a row of a channel moves its bank's counter and makes it the last-opened row. -/
def touchBank (c : ChanIx) (row : Nat) (s : State) : State :=
  let b := Config.bankOf row
  s.onChan c fun q =>
    let n := tget (fun _ => 1) q.page b
    let hit := decide (tget (fun _ => 0) q.lastRow b = row + 1)
    { q with
      page := tput (fun _ => 1) q.page b (if hit then min 3 (n + 1) else n - 1)
      lastRow := tput (fun _ => 0) q.lastRow b (row + 1) }

/-- R412: a row of a channel is open, under SPL_CTRL.PAGE. -/
def rowOpen (s : State) (c : ChanIx) (row : Nat) : Bool :=
  let b := Config.bankOf row
  let q := s.spl.chans[c]
  decide (tget (fun _ => 0) q.lastRow b = row + 1) &&
    (match s.fld (aSpl 0) 31 30 with
      | 1 => true
      | 2 => false
      | _ => decide (2 ≤ tget (fun _ => 1) q.page b))

/-- R416: a request takes its channel out of self-refresh. -/
def wakeChan (c : ChanIx) (s : State) : State := s.onChan c fun q => { q with selfRef := false }

/-! ## Blocks (R397, R400, R407, R409) -/

/-- What the decoder makes of a code word with these erroneous symbols. -/
inductive Decoded where
  | clean | corrected (check two : Bool) | uncorrectable | beyond
  deriving DecidableEq, Repr

/-- R397, R399: the decoder's result by the number and place of the erroneous symbols. -/
def decodeErrors (e : List (Nat × Byte)) : Decoded :=
  if e.isEmpty then .clean
  else if e.length ≤ 2 then .corrected (e.all fun q => decide (64 ≤ q.1)) (decide (e.length = 2))
  else if e.length ≤ 6 then .uncorrectable
  else .beyond

/-- Patterns XORed into symbols: those of one symbol combine, and a symbol whose pattern is 0 is not erroneous. -/
def combineErrors (l : List (Nat × Byte)) : List (Nat × Byte) :=
  l.foldl (fun (m : Table Byte) q => tput (fun _ => 0) m q.1 (tget (fun _ => 0) m q.1 ^^^ q.2)) []

/-- The erroneous symbols of a read of a block, by its place over 64: the stored ones, and what strikes this read. -/
def blockErrors (s : State) (b : Nat) (upset : List (Fin 72 × Byte)) : List (Nat × Byte) :=
  combineErrors (tget (fun _ => []) s.spl.errs b ++ upset.map fun q => (q.1.1, q.2))

/-- An uncorrectable code word is counted, and its block remapped with the spare marked POISON. -/
def uncorrectable (c : ChanIx) (row blk : Nat) (s : State) : State :=
  ((s.onChan c fun q => { q with ecc := { q.ecc with uncorr := satTo 255 (q.ecc.uncorr + 1) } }).count
    (4 * 64 + 35) 1).remapHbm c row blk true

/-- R410: a block of the device area reads uncorrectable; which block holds what in that area is not stated (R189), so which one
it is, is free. -/
def lostBlock (s : State) : State :=
  (s.onFree (· + 3)).uncorrectable ⟨s.freeNat % 64, Nat.mod_lt _ (by decide)⟩ (Config.freeNat (s.free + 1) % 1572864)
    (Config.freeNat (s.free + 2) % 14)

/-! ## HBM scrub (R403, R404, R407) -/

/-- R407: scrub corrected this block, or word, in the pass before. -/
def twice (hist : List (Nat × Nat)) (no x : Nat) : Bool := hist.any fun q => decide (q.2 = x) && decide (q.1 + 1 = no)

/-- R407: scrub remembers the last 256 blocks, or words, that it corrected. -/
def remember (hist : List (Nat × Nat)) (no x : Nat) : List (Nat × Nat) := ((no, x) :: hist).take 256

/-- R404: a corrected block is written back. -/
def writeBack (b : Option Nat) (s : State) : State :=
  match b with
  | some b => s.onSpl fun u => { u with errs := tput (fun _ => []) u.errs b [] }
  | none => s

/-- What a scrub read of a block, or of a spare, makes of the erroneous symbols `e`. -/
def scrubFinds (c : ChanIx) (row blk : Nat) (e : List (Nat × Byte)) (back : Option Nat) (s : State) : State :=
  let q := s.spl.chans[c]
  let x := row * 14 + blk
  let t := ((s.count (4 * 64 + 37) 1).count (4 * 64 + 20) 1).pass 1 5 64
  if s.poisoned c row blk then t.uncorrectable c row blk
  else match decodeErrors e with
    | .clean => t
    | .corrected check two =>
      let t := t.correctHbm c check
      let t := if two || twice q.hist q.passNo x then (t.remapHbm c row blk false).writeBack (some (physBlock c row blk)) else t
      (t.writeBack back).onChan c fun u => { u with hist := remember u.hist u.passNo x }
    | .uncorrectable => t.uncorrectable c row blk
    | .beyond => if t.freeBool then t.useFree.uncorrectable c row blk else t.useFree

/-- R403: the channel scrubs its next block, or the next spare in use. -/
def scrubNext (c : ChanIx) (upset : List (Fin 72 × Byte)) (writeSince : Bool) (s : State) : State :=
  let q := s.spl.chans[c]
  let i := q.scrub
  let t := if i < 22020096 then
      let b := physBlock c (i / 14) (i % 14)
      if s.spl.valid.contains (granule c (i / 14)) then
        s.scrubFinds c (i / 14) (i % 14) (s.blockErrors b upset) (if writeSince then none else some b)
      else s
    else match q.remaps[i - 22020096]? with
      | some x => s.scrubFinds c x.row x.blk (combineErrors (upset.map fun q => (q.1.1, q.2))) none
      | none => s
  t.onChan c fun u =>
    if 22020096 + u.remaps.length ≤ i + 1 then { u with scrub := 0, passNo := u.passNo + 1 } else { u with scrub := i + 1 }

/-- R416: scrub reads that were held are issued. -/
def issueHeld (c : ChanIx) (s : State) : State :=
  let n := s.spl.chans[c].held
  (s.onChan c fun u => { u with held := 0 }).forEach (List.range n) fun _ => scrubNext c [] false

/-- R416: a request reaches a row of a channel, which leaves self-refresh; scrub reads that were held are issued. -/
def reach (c : ChanIx) (row : Nat) (s : State) : State := ((s.wakeChan c).issueHeld c).touchBank c row

/-! ## Reads and writes of blocks (R395, R400, R409, R410) -/

/-- R95, R397, R400: read block `b` (a usable spool address over 64) on a QoS port; `none` when it is
uncorrectable. -/
def readBlock (port b : Nat) (upset : List (Fin 72 × Byte)) (s : State) : State × Option (List Byte) :=
  let p := s.place (64 * b)
  let t := (s.count (4 * 64 + 4 * port) 1).pass 1 port 64
  let data := memReads s.mem (s.physAddr (64 * b)) 64
  let x := s.physAddr (64 * b) / 64
  if s.spl.chans[p.1].offline then (s, none)
  else if !s.spl.valid.contains (granule p.1 p.2.1) then (t, some (List.replicate 64 0))
  else
  let t := t.reach p.1 p.2.1
  if s.poisoned p.1 p.2.1 p.2.2 then (t.uncorrectable p.1 p.2.1 p.2.2, none)
  else match decodeErrors (s.blockErrors x upset) with
    | .clean => (t, some data)
    | .corrected check two =>
      let t := t.correctHbm p.1 check
      if two then
        ((t.remapHbm p.1 p.2.1 p.2.2 false).onSpl fun u => { u with errs := tput (fun _ => []) u.errs x [] }, some data)
      else (t, some data)
    | .uncorrectable => (t.uncorrectable p.1 p.2.1 p.2.2, none)
    | .beyond =>
      if t.freeBool then (t.useFree.uncorrectable p.1 p.2.1 p.2.2, none)
      else (t.useFree.useFree, some (slice (Config.freeBlock (t.free + 1)) 0 64))

/-- R400: the first write into a granule fills it with zeros and sets its valid bit. -/
def fillGranule (g : Nat) (s : State) : State :=
  if s.spl.valid.contains g then s
  else (s.onSpl fun u => { u with valid := insertBy id g u.valid }).pass 1 7 (55 * 64)

/-- R409: an armed injection that names this block is applied to the code word just encoded. -/
def applyFlip (b : Nat) (s : State) : State :=
  match s.spl.flip with
  | some f =>
    if !f.sram && decide (f.addr / 64 = b) then
      s.onSpl fun u => { u with
        flip := none, errs := tput (fun _ => []) u.errs (s.physAddr (64 * b) / 64) (f.pats.filter fun q => decide (q.2 ≠ 0)) }
    else s
  | none => s

/-- Write bytes within one block on a QoS port: `false` when a partial write meets an uncorrectable block,
which stays as it is (R410). A write of the whole block clears POISON (R407). -/
def writeBlock (port a : Nat) (bs : List Byte) (s : State) : State × Bool :=
  let b := a / 64
  let p := s.place a
  let t := (((s.count (4 * 64 + 4 * port) 1).pass 1 port bs.length).fillGranule (s.granuleOf a)).reach p.1 p.2.1
  let whole := decide (bs.length = 64)
  let x := s.physAddr (64 * b) / 64
  let found := decodeErrors (s.blockErrors x [])
  if s.spl.chans[p.1].offline then (s, false)
  else if !whole && (s.poisoned p.1 p.2.1 p.2.2 || decide (found = .uncorrectable ∨ found = .beyond)) then
    (t.uncorrectable p.1 p.2.1 p.2.2, false)
  else
    let t := match whole, found with
      | false, .corrected check two =>
        let t := t.correctHbm p.1 check
        if two then t.remapHbm p.1 p.2.1 p.2.2 false else t
      | _, _ => t
    let heal (x : Remap) : Remap := if x.row = p.2.1 ∧ x.blk = p.2.2 then { x with poison := false } else x
    let t := if whole then t.onChan p.1 fun q => { q with remaps := q.remaps.map heal } else t
    let t := (t.onSpl fun u => { u with errs := tput (fun _ => []) u.errs x [] }).onMem fun m => memWrites m (s.physAddr a) bs
    (t.applyFlip b, true)

/-- Write a run of bytes, block by block. -/
def spoolWrite (port : Nat) : Nat → Nat → List Byte → State → State × Bool
  | 0, _, _, s => (s, true)
  | fuel + 1, a, bs, s =>
    if bs.isEmpty then (s, true)
    else
      let n := 64 - a % 64
      let r := s.writeBlock port a (bs.take n)
      let q := spoolWrite port fuel (a + n) (bs.drop n) r.1
      (q.1, r.2 && q.2)

/-- R395: write bytes to the spool at a usable address. -/
def spoolPut (port a : Nat) (bs : List Byte) (s : State) : State × Bool := spoolWrite port (bs.length + 1) a bs s

/-- Read blocks `b` to `b + n - 1`. -/
def spoolBlocks (port b : Nat) : Nat → State → State × Option (List Byte)
  | 0, s => (s, some [])
  | n + 1, s =>
    let r := s.readBlock port b []
    let q := spoolBlocks port (b + 1) n r.1
    (q.1, match r.2, q.2 with
      | some x, some y => some (x ++ y)
      | _, _ => none)

/-- R95, R189: bytes at `a` as the spool holds them; in the device area those that the device has stored, in an arrangement
that the manual does not define: an unknown function of what the area holds, beside the bytes that BAR4 has written since the
device last wrote the staging area. -/
def deviceView (s : State) (a : Nat) (bs : List Byte) : List Byte :=
  if a + bs.length ≤ deviceArea then bs
  else bs.mapIdx fun i b =>
    if a + i < deviceArea || s.spl.devHost.any fun q => decide (q.1 ≤ a + i ∧ a + i < q.1 + q.2) then b
    else (Config.deviceByte s.spl.dev s.job.bands s.se.patches s.cal.taps s.cal.sums (a + i)).getD b

/-- Read `n` bytes of the spool from a usable address; `none` when a block of them is uncorrectable. -/
def spoolGet (port a n : Nat) (s : State) : State × Option (List Byte) :=
  let r := s.spoolBlocks port (a / 64) ((a + n + 63) / 64 - a / 64)
  (r.1, r.2.map fun bs => s.deviceView a (slice bs (a % 64) n))

/-- R189: the device writes its staging area. -/
def stageWritten (s : State) : State := s.onSpl fun u => { u with dev := u.dev + 1, devHost := [] }

/-- R396, R400: the valid bits of every granule of a channel clear, and its bytes read 0. -/
def clearChannel (c : ChanIx) (s : State) : State :=
  let t := s.onMem fun m => m.filter fun q => decide (q.1 / 896 % 64 ≠ c.1)
  t.onSpl fun u => { u with
    valid := u.valid.filter fun g => decide (g / 393216 ≠ c.1)
    errs := u.errs.filter fun q => decide (q.1 / 14 % 64 ≠ c.1) }

/-! ## The spool ring (R131) -/

/-- R131: the size of the ring in 64-byte units, and its base in bytes. -/
def ringUnits (s : State) : Nat := s.fld aJobSpool 6 0 * 2 ^ 24
def ringBase (s : State) : Nat := s.fld aJobSpool 22 16 * 2 ^ 30

/-- R131: the usable spool address of a position. -/
def posAddr (s : State) (p : Nat) : Nat := s.ringBase + 64 * (p % s.ringUnits)

/-- Write bytes to the ring from a byte offset within it, wrapping at its end. -/
def ringPut (port pos : Nat) (bs : List Byte) (s : State) : State × Bool :=
  let room := 64 * (s.ringUnits - pos % s.ringUnits)
  let r := s.spoolPut port (s.posAddr pos) (bs.take room)
  let q := r.1.spoolPut port s.ringBase (bs.drop room)
  (q.1, r.2 && q.2)

/-- Read `n` bytes of the ring from byte `off` after position `pos`. -/
def ringGet (port pos off n : Nat) (s : State) : State × Option (List Byte) :=
  let start := (64 * pos + off) % (64 * s.ringUnits)
  let room := min n (64 * s.ringUnits - start)
  let r := s.spoolGet port (s.ringBase + start) room
  let q := r.1.spoolGet port s.ringBase (n - room)
  (q.1, match r.2, q.2 with
    | some x, some y => some (x ++ y)
    | _, _ => none)

end State
end Sys2Proof.Machine
end

