-- ==== Sys2Proof/Machine/Entries.lean ====
section
/-!
DEFINITION. Ring entries: when one starts (R107, R108), what makes one malformed (R110), the pool channels
that carry bulk data (R431), and how an entry ends.
-/
namespace Sys2Proof.Machine

/-- OPCODE of an entry (R107). -/
def opcode (e : Entry) : Nat := fieldAt e 0 1

/-- R110, R149: every byte outside the header and the listed fields `(offset, size)` is 0. -/
def fieldsOnly (e : Entry) (l : List (Nat × Nat)) : Bool :=
  (List.range 64).all fun i =>
    decide (i < 4) || (l.any fun f => decide (f.1 ≤ i ∧ i < f.1 + f.2)) || decide (fieldAt e i 1 = 0)

/-- CRC-32C of a payload folded with an eight-byte context word (R158, R453). -/
def foldedCrc (context : Nat) (bs : List Byte) : Word := crc32c (leBytes 8 context) bs

namespace State

/-- R110: the opcode, the flags and the reserved bytes are as R107 to R109 state. -/
def commonForm (s : State) (r : RingIx) (e : Entry) : Bool :=
  decide (opcode e ≤ 0x0B) && decide (fieldAt e 1 1 < 8) && decide (fieldAt e 60 4 = 0)
    && (!bit (fieldAt e 1 1) 2 || s.fbit (aRing r 8) 30)

/-- R134, R187: a landing or a patch of this ring waits for space, and so has not started. -/
def ringWaits (s : State) (r : RingIx) : Bool :=
  (s.se.ringPatch.any fun w => decide (w.1 = r)) || s.job.waiting.any fun w => match w.src with
    | .entry q _ => decide (q = r)
    | .gather q _ _ => decide (q = r)
    | .transport => false

/-- R108: the entry of a ring that starts next; FENCE waits for every earlier entry and its event. -/
def entry? (s : State) (r : RingIx) : Option Entry :=
  match s.hif.rings[r].fetched with
  | [] => none
  | (e, _) :: _ =>
    let c := s.hif.rings[r]
    if !s.up || s.ringWaits r then none
    else if bit (fieldAt e 1 1) 0 && (!c.running.isEmpty || c.due.any fun x => decide (x.typ = .completion)) then none
    else some e

/-- The ring's next entry starts. -/
def begin (r : RingIx) (s : State) : State :=
  s.onRing r fun c => { c with fetched := c.fetched.drop 1, running := c.running ++ c.fetched.take 1 }

/-- An entry ends with an error code in the layout of R457. -/
def fail (r : RingIx) (e : Entry) (code : Code) (src : Nat) (s : State) : State :=
  s.complete r e code (infoUnit unitNone) 0 src

/-- An entry ends well. -/
def done (r : RingIx) (e : Entry) (info0 : Nat) (src : Nat) (s : State) : State :=
  s.complete r e 0 (BitVec.ofNat 64 info0) 0 src

/-- Run the next entry of a ring, when it is one of those `mine` names: malformed, it ends with
E_ENTRY_MALFORMED (R110); otherwise `body` starts it, or leaves it waiting. -/
def runEntry (r : RingIx) (mine form : Entry → Bool) (body : Entry → State → State) (s : State) : State :=
  match s.entry? r with
  | none => s
  | some e =>
    if !mine e then s
    else if s.commonForm r e && form e then body e s
    else (s.begin r).fail r e 0x0102 2

/-- R126: the bus address of an entry of a ring. -/
def entryAddr (s : State) (r : RingIx) (e : Entry) : Nat :=
  match s.hif.rings[r].running.find? fun x => decide (x.1 = e) with
  | some x => s.rd64 (aRing r 0) + 64 * (x.2 % s.sqSize r)
  | none => 0

/-! ## Pool channels (R431) -/

/-- R439: a channel that halted still waits for its entry's completion event to be written. -/
def chanWaits (s : State) (c : DmaChan) : Bool :=
  match c.waits with
  | none => false
  | some (r, tag) => s.hif.rings[r].due.any fun x => decide (x.typ = .completion ∧ x.tag = tag)

/-- R431: the lowest-numbered free pool channel. -/
def poolFree (s : State) : Option DmaIx :=
  (all 32).find? fun ch => !s.fbit (aDma ch.1 0) 31 && s.dma.ch[ch].owner.isNone && !s.chanWaits s.dma.ch[ch]

/-- R97, R431: the class of a ring's entries and of their transfers. -/
def ringClass (s : State) (r : RingIx) : Nat := s.fld (aRing r 8) 29 28

/-- R97, R431: the class of a channel: a pool channel carries that of its entry's ring. -/
def dmaClass (s : State) (ch : DmaIx) : Nat :=
  match s.dma.ch[ch].owner with
  | some (r, _) => s.ringClass r
  | none => s.fld (aDma ch.1 0) 29 28

/-- R432, R472, R473: beats of a channel that move `n` bytes. -/
def countBeats (ch : DmaIx) (n : Nat) (s : State) : State :=
  (s.count (5 * 64 + 8 + s.dmaClass ch) ((n + 63) / 64)).pass 5 ch.1 n

/-- R431: the channel carries an entry, whose bulk data is its LENGTH. -/
def takePool (ch : DmaIx) (r : RingIx) (e : Entry) (s : State) : State :=
  s.onDmaCh ch fun c => { c with
    owner := some (r, e), state := 2, fault := 0, hops := 0, age := s.tick, left := fieldAt e 4 4, waits := none }

/-- The channel that carries an entry. -/
def poolOf (s : State) (r : RingIx) (e : Entry) : Option DmaIx :=
  (all 32).find? fun ch => decide (s.dma.ch[ch].owner = some (r, e))

/-- R439: the channel of an entry returns to the pool: all its beats have moved, or a fault has ended them, and then it is
free once the entry's event is written. -/
def freePool (r : RingIx) (e : Entry) (fault : Nat) (s : State) : State :=
  match s.poolOf r e with
  | none => s
  | some ch =>
    if fault = 0 then (s.countBeats ch s.dma.ch[ch].left).onDmaCh ch fun c => { c with
      owner := none, state := 0, fault := 0, xfer := none, left := 0 }
    else s.onDmaCh ch fun c => { c with
      owner := none, state := 5, fault := fault, faultAddr := s.entryAddr r e, xfer := none, left := 0
      waits := some (r, entryTag e) }

/-- R126, R439: the FAULT cause of an entry's error code. -/
def faultOf (code : Code) : Nat :=
  if code = 0x0105 then 2 else if code = 0x0104 then 3 else if code = 0x0D05 then 4
  else if code = 0x0F02 then 5 else if code = 0x0F03 then 6 else if code = 0x0F04 then 7 else 0

/-- An entry with bulk data ends with an error: its channel returns to the pool first. -/
def failBulk (r : RingIx) (e : Entry) (code : Code) (src : Nat) (s : State) : State :=
  (s.freePool r e (faultOf code)).fail r e code src

/-- An entry with bulk data ends well. -/
def doneBulk (r : RingIx) (e : Entry) (info0 : Nat) (info1 : BitVec 48) (src : Nat) (s : State) : State :=
  (s.freePool r e 0).complete r e 0 (BitVec.ofNat 64 info0) info1 src

/-- R431, R155: an entry with bulk data starts when a pool channel is free, and not while the spool it
needs is in self-refresh under L2; else it waits. -/
def withPool (r : RingIx) (e : Entry) (body : State → State) (s : State) : State :=
  if s.sys.lpCur = 2 then s
  else match s.poolFree with
    | none => s
    | some ch => body ((s.begin r).takePool ch r e)

/-- A host buffer can be read or written: the link is up (R125). -/
def linkOk (s : State) : Bool := s.hif.linkUp

end State

/-- R109: NOP, and every opcode that R109 does not list. -/
def execNop (r : RingIx) (s : State) : Result :=
  .next (s.runEntry r (fun e => decide (opcode e = 0 ∨ 0x0B < opcode e)) (fun e => fieldsOnly e [])
    fun e t => (t.begin r).done r e 0 2)

end Sys2Proof.Machine
end

