-- ==== Sys2Proof/Machine/Container.lean ====
section
/-!
DEFINITION. The Brunen container (R156 to R160), the spool ring's reservations and tail (R134 to R136), the
publication of a landed band (R130), and the sources of a gathered one (R148, R437).
-/
namespace Sys2Proof.Machine

/-! ## The container (R156 to R159) -/

/-- R157: slices, column and row replication, and sample size, from FORMAT. -/
def fmtSlices (f : Byte) : Nat := 2 ^ bits f.toNat 5 4
def fmtYrep (f : Byte) : Nat := bits f.toNat 3 3
def fmtXrep (f : Byte) : Nat := bits f.toNat 2 2
def fmtWide (f : Byte) : Nat := bits f.toNat 0 0
/-- R157: the stored columns C. -/
def fmtCols (f : Byte) : Nat := 65536 / (1 + fmtXrep f)
/-- R157: UNCOMP_LEN of a band of `rows` printed rows. -/
def fmtLen (f : Byte) (rows : Nat) : Nat := rows / (1 + fmtYrep f) * fmtCols f * (1 + fmtWide f)

/-- R158: the context word of a container's checks. -/
def bandContext (job plane band slice kind : Nat) : Nat :=
  job * 2 ^ 48 + band * 2 ^ 16 + plane * 2 ^ 12 + slice * 2 ^ 8 + kind

/-- Header and trailer fields. -/
def cJob (h : List Byte) : Nat := leAt h 8 2
def cPlane (h : List Byte) : Nat := leAt h 6 1 % 16
def cBand (h : List Byte) : Nat := leAt h 12 4
def cRows (h : List Byte) : Nat := leAt h 16 2
def cFormat (h : List Byte) : Byte := (slice h 5 1).headD 0
def cSliceLens (h : List Byte) : List Nat := (List.range 8).map fun i => leAt h (28 + 4 * i) 4
def cSliceCrcs (t : List Byte) : List Word := (List.range 8).map fun i => BitVec.ofNat 32 (leAt t (4 * i) 4)

/-- R160: the checks that fail with E_CONTAINER_HEADER, over the landed bytes. -/
def containerSound (c : List Byte) : Bool :=
  let f := cFormat c
  let n := c.length
  let t := slice c (n - 48) 48
  let lens := cSliceLens c
  let ctx := fun kind => bandContext (cJob c) (cPlane c) (cBand c) 0 kind
  decide (leAt c 0 4 = 0x314E5242) && decide (leAt c 4 1 = 1) && decide (leAt t 40 4 = 0x454E5242)
    && decide (bits f.toNat 7 6 = 0) && decide (bits f.toNat 1 1 = 0) && decide (leAt c 6 1 < 16)
    && decide (leAt c 7 1 = 0) && decide (leAt c 10 2 = 0) && decide (leAt c 18 2 = 0)
    && decide (foldedCrc (ctx 0x11) (slice c 0 60) = BitVec.ofNat 32 (leAt c 60 4))
    && decide (foldedCrc (ctx 0x13) (slice t 0 44) = BitVec.ofNat 32 (leAt t 44 4))
    && decide (leAt t 32 4 = cBand c) && decide (leAt t 36 4 = leAt c 20 4)
    && decide (1 ≤ cRows c ∧ cRows c ≤ 128) && decide (fmtYrep f = 0 ∨ cRows c % 2 = 0)
    && decide (leAt c 20 4 = fmtLen f (cRows c))
    && (lens.take (fmtSlices f)).all (fun l => decide (1 ≤ l))
    && (lens.drop (fmtSlices f)).all (fun l => decide (l = 0))
    && ((cSliceCrcs t).drop (fmtSlices f)).all (fun x => decide (x = 0))
    && decide (n = 64 * ((64 + lens.sum + 48 + 63) / 64)) && decide (leAt c 24 4 = n)

/-- The band directory's entry of a sound container at a position (R130). -/
def containerBand (c : List Byte) (pos : Nat) : Band :=
  let f := cFormat c
  { key := ⟨cJob c, cPlane c, cBand c⟩, pos := pos, len := c.length, rows := cRows c, format := f
    sliceLen := (cSliceLens c).take (fmtSlices f)
    sliceCrc := (cSliceCrcs (slice c (c.length - 48) 48)).take (fmtSlices f)
    bad := false, used := false, tile := false }

namespace State

/-- R128, R149: the job is open and its PLANE_MAP gives the plane a role. -/
def planeOpen (s : State) (job plane : Nat) : Bool :=
  match s.job? job, fin? 16 plane with
  | some j, some p => decide (j.planeMap[p].toNat / 64 ≠ 0)
  | _, _ => false

/-! ## Reservations and the tail (R134 to R136) -/

/-- R134: free space of the ring, in 64-byte units. -/
def ringFree (s : State) : Nat := s.ringUnits - (s.job.wr - s.job.tail)

/-- R135, R136: the tail may move past this reservation. -/
def spanSoft (s : State) (x : Span) : Bool :=
  match x.use with
  | .dead => true
  | .landing _ => false
  | .band key => match s.band? key with
    | some b => decide (b.pos ≠ x.pos) || !s.hard b
    | none => true

/-- R130, R136: the tail passes the oldest reservation; the entry of its band is freed. -/
def passTail (s : State) : State :=
  match s.job.spans with
  | [] => s
  | x :: rest => s.onJob fun j => { j with
      spans := rest, tail := x.pos + x.units
      bands := j.bands.filter fun b => decide (b.pos ≠ x.pos) || decide (x.use ≠ .band b.key) }

/-- R136: reclaim soft space in position order until `enough` holds. -/
def reclaim (enough : State → Bool) : Nat → State → State
  | 0, s => s
  | fuel + 1, s =>
    if enough s then s
    else match s.job.spans with
      | [] => s
      | x :: _ => if s.spanSoft x then reclaim enough fuel s.passTail else s

/-- R134: reclaim soft space for a container of `len` bytes. -/
def makeRoom (len : Nat) (s : State) : State :=
  s.reclaim (fun t => decide ((len + 63) / 64 ≤ t.ringFree)) (s.job.spans.length + 1)

/-- R134: reserve a container at the write pointer. -/
def reserve (src : LandSource) (len : Nat) (s : State) : State :=
  let u := (len + 63) / 64
  s.onJob fun j => { j with spans := j.spans ++ [⟨j.wr, u, .landing src⟩], wr := j.wr + u }

/-- What becomes of a reservation at a position. -/
def setSpan (pos : Nat) (use : SpanUse) (s : State) : State :=
  s.onJob fun j => { j with spans := mapFirst (fun x => decide (x.pos = pos)) (fun x => { x with use := use }) j.spans }

/-- R134: the ring has room for a container of `len` bytes. -/
def roomFor (s : State) (len : Nat) : Bool := decide ((len + 63) / 64 ≤ s.ringFree)

/-! ## Publication (R130, R160) -/

/-- R130, R160: check a landed container and publish its band, or answer why not. -/
def publish (pos : Nat) (c : List Byte) (s : State) : State × Code :=
  let dead := s.setSpan pos .dead
  if !containerSound c then (dead, 0x0301)
  else if !s.planeOpen (cJob c) (cPlane c) then (dead, 0x0203)
  else
    let b := containerBand c pos
    if (s.band? b.key).isSome then (dead, 0x0204)
    else
      let t := s.reclaim (fun t => decide (t.job.bands.length < 262144)) (s.job.spans.length + 1)
      if 262144 ≤ t.job.bands.length then (t.setSpan pos .dead, 0x030A)
      else ((t.setSpan pos (.band b.key)).onJob fun j => { j with bands := j.bands ++ [b] }, 0)

/-! ## Band-transport messages (R423, R424, R426) -/

/-- R424: the context word of FCRC. -/
def btContext (key : BandKey) (frag : Nat) : Nat :=
  key.band % 2 ^ 32 * 2 ^ 32 + key.job % 65536 * 65536 + key.plane % 16 * 4096 + frag % 4096

/-- R423: the 28 bytes before FCRC of a message that the device sends. -/
def btHeader (typ : Nat) (key : BandKey) (frag count : Nat) (code : Code) : List Byte :=
  leBytes 2 0xB75A ++ leBytes 1 1 ++ leBytes 1 typ ++ leBytes 2 key.job ++ leBytes 1 key.plane ++ leBytes 1 0
    ++ leBytes 4 key.band ++ leBytes 2 frag ++ leBytes 2 count ++ leBytes 10 0 ++ leBytes 2 code.toNat

/-- R423, R424: a whole message: the header, FCRC, and what follows. -/
def btMessage (typ : Nat) (key : BandKey) (frag count : Nat) (code : Code) (rest : List Byte) : List Byte :=
  let h := btHeader typ key frag count code
  h ++ leBytes 4 (foldedCrc (btContext key 0) (h ++ rest)).toNat ++ rest

/-- R426, R427: a RESULT to a source on a port. -/
def btResult (p : EthIx) (source : Nat) (key : BandKey) (code : Code) (s : State) : State :=
  s.emit (.ethMessage p source (btMessage 3 key 0 0 code []))

/-- The ring's bytes as stored, from a position on. -/
def ringPeek (s : State) (pos n : Nat) : List Byte :=
  let room := min n (64 * (s.ringUnits - pos % s.ringUnits))
  s.peek (s.posAddr pos) room ++ s.peek s.ringBase (n - room)

/-- R426: every fragment of a tracker has been written: the container has landed. -/
def landTransport (t : Tracker) (s : State) : State :=
  let q := s.publish t.pos (s.ringPeek t.pos t.total)
  let u := q.1.onEth fun e => { e with trackers := e.trackers.filter fun x => decide (x.key ≠ t.key) }
  let u := u.btResult t.port t.source t.key q.2
  if q.2 = 0 && s.fbit aEthBt 3 then
    u.status 0x0E02 (BitVec.ofNat 64 t.pos) (BitVec.ofNat 48 t.key.job) 0x12
  else u

/-! ## Gathering (R437, R438) -/

/-- Fields of an index-table entry (R437). -/
def ixAddr (x : IndexEntry) : Nat := fieldAt x 0 8
def ixLen (x : IndexEntry) : Nat := fieldAt x 8 4
def ixKind (x : IndexEntry) : Nat := fieldAt x 12 1
def ixPlane (x : IndexEntry) : Nat := fieldAt x 13 1

/-- R437: an index-table entry is well formed; `tiles` tells whether KIND 1 is allowed. -/
def ixForm (tiles : Bool) (x : IndexEntry) : Bool :=
  decide (1 ≤ ixLen x ∧ ixLen x ≤ 268435456) && decide (fieldAt x 14 2 = 0) &&
    (if ixKind x = 1 then tiles && decide (ixAddr x < 2 ^ 60) && decide (ixPlane x < 16)
     else decide (ixKind x ≤ 2) && decide (ixPlane x = 0))

/-- R437: the lengths of an index table sum to the transfer's length. -/
def ixSum (l : List IndexEntry) : Nat := (l.map ixLen).sum

/-- One run of a gather: the bytes it brings, or the error it ends with; `host` is what host memory holds
of the runs still to come. -/
def gatherRun (ns : Bool) (job : Option Nat) (x : IndexEntry) (host : List Byte) (s : State) :
    State × List Byte × Except Code (List Byte) :=
  if ixKind x = 0 then
    ((s.hostLoad ns (ixAddr x) (ixLen x)).hostIn (ixLen x), host.drop (ixLen x), .ok (slice host 0 (ixLen x)))
  else if ixKind x = 2 then
    if spoolSize < ixAddr x + ixLen x then (s, host, .error 0x0F02)
    else
      let r := s.spoolGet 2 (ixAddr x) (ixLen x)
      (r.1, host, match r.2 with | some bs => .ok bs | none => .error 0x0D05)
  else match job.bind fun j => s.band? ⟨j, ixPlane x, ixAddr x % 2 ^ 32⟩ with
    | none => (s, host, .error 0x0F04)
    | some b =>
      let off := ixAddr x / 2 ^ 32
      if b.len < off + ixLen x then (s, host, .error 0x0F03)
      else
        let t := s.onJob fun j => { j with
          bands := mapFirst (fun q => decide (q.key = b.key)) (fun q => { q with tile := true }) j.bands }
        let r := t.ringGet 2 b.pos off (ixLen x)
        (r.1, host, match r.2 with | some bs => .ok bs | none => .error 0x0D05)

/-- The JOB_ID that the bytes gathered so far spell, once the header's is among them. -/
def gatherJob (acc : List Byte) : Option Nat := if 10 ≤ acc.length then some (leAt acc 8 2) else none

/-- R437: the runs of an index table, concatenated in table order. -/
def gatherAll (ns : Bool) (l : List IndexEntry) (host acc : List Byte) (s : State) : State × Except Code (List Byte) :=
  match l with
  | [] => (s, .ok acc)
  | x :: xs =>
    let r := s.gatherRun ns (gatherJob acc) x host
    match r.2.2 with
    | .error c => (r.1, .error c)
    | .ok bs => gatherAll ns xs r.2.1 (acc ++ bs) r.1

/-- R437: gather a table into bytes, or the error that ends it. -/
def gather (ns tiles : Bool) (len : Nat) (l : List IndexEntry) (host : List Byte) (s : State) :
    State × Except Code (List Byte) :=
  if !l.all (ixForm tiles) || decide (ixSum l ≠ len) then (s, .error 0x0F03) else s.gatherAll ns l host []

end State
end Sys2Proof.Machine
end

