-- ==== Sys2Proof/Machine/Jobs.lean ====
section
/-!
DEFINITION. The job, sheet and band entries (R127 to R142, R149, R438) and what lands in the spool
(R130, R134, R160).
-/
namespace Sys2Proof.Machine

/-! ## Entry forms (R149, R438) -/

def formJobOpen (e : Entry) : Bool :=
  let planes := (List.range 16).map fun p => fieldAt e (28 + p) 1
  fieldsOnly e [(24, 2), (28, 16)] && decide (1 ≤ fieldAt e 24 2)
    && planes.all (fun b => decide (b / 8 % 8 = 0) && decide (b / 64 ≤ 2))
    && (List.range 8).all fun k => decide ((planes.filter fun b => decide (b / 64 = 1 ∧ b % 8 = k)).length ≤ 1)

def formJobClose (e : Entry) : Bool := fieldsOnly e [(24, 3)] && decide (fieldAt e 26 1 ≤ 1)

/-- REPRINT of SFLAGS. -/
def isReprint (e : Entry) : Bool := decide (fieldAt e 43 1 = 1)

def formSheet (e : Entry) : Bool :=
  fieldsOnly e [(24, 24)] && decide (fieldAt e 43 1 ≤ 1) &&
    (if isReprint e then decide (fieldAt e 28 2 = 0) && decide (fieldAt e 30 2 = 0) && decide (fieldAt e 32 4 = 0)
     else decide (1 ≤ fieldAt e 32 4 ∧ fieldAt e 32 4 < 2 ^ 24))

def formBandWrite (e : Entry) : Bool :=
  fieldsOnly e [(4, 12)] && decide (128 ≤ fieldAt e 4 4 ∧ fieldAt e 4 4 ≤ 268435456)

def formBandGather (e : Entry) : Bool :=
  fieldsOnly e [(4, 12), (24, 5)] && decide (128 ≤ fieldAt e 4 4 ∧ fieldAt e 4 4 ≤ 268435456)
    && decide (fieldAt e 4 4 % 64 = 0) && decide (1 ≤ fieldAt e 24 4 ∧ fieldAt e 24 4 ≤ 65536) && decide (fieldAt e 28 1 ≤ 1)

def formSpoolRead (e : Entry) : Bool :=
  fieldsOnly e [(4, 20)] && decide (1 ≤ fieldAt e 4 4 ∧ fieldAt e 4 4 ≤ 268435456)
    && decide (fieldAt e 16 8 + fieldAt e 4 4 ≤ spoolSize)

namespace State

/-! ## Jobs (R127, R149) -/

/-- JOB_OPEN of a well-formed entry. -/
def jobOpen (r : RingIx) (e : Entry) (s : State) : State :=
  let t := s.begin r
  let id := fieldAt e 24 2
  if 16 ≤ s.job.jobs.length then t.fail r e 0x0201 5
  else if (s.job? id).isSome then t.fail r e 0x0202 5
  else (t.onJob fun j => { j with
    jobs := j.jobs ++ [⟨id, Vector.ofFn fun p : Fin 16 => BitVec.ofNat 8 (fieldAt e (28 + p.1) 1)⟩] }).done r e 0 5

/-- R149: RELEASE removes the job's bands that no queued or unfinished sheet uses; their space is reclaimed
when the tail passes it. -/
def releaseBands (id : Nat) (s : State) : State :=
  let goes (b : Band) : Bool := decide (b.key.job = id) && !s.job.sheets.any fun sh => s.sheetUses sh b
  let keys := (s.job.bands.filter goes).map (·.key)
  s.onJob fun j => { j with
    bands := j.bands.filter fun b => !keys.contains b.key
    spans := j.spans.map fun x => if keys.any (fun k => decide (x.use = .band k)) then { x with use := .dead } else x }

/-- JOB_CLOSE of a well-formed entry. -/
def jobClose (r : RingIx) (e : Entry) (s : State) : State :=
  let t := s.begin r
  let id := fieldAt e 24 2
  if (s.job? id).isNone then t.fail r e 0x0203 5
  else
    let t := t.onJob fun j => { j with
      jobs := j.jobs.filter fun q => decide (q.id ≠ id)
      sheets := j.sheets.map fun q => if q.job = id then { q with jobOpen := false } else q
      records := j.records.map fun q => if q.sheet.job = id then { q with jobUid := false } else q }
    (if bit (fieldAt e 26 1) 0 then t.releaseBands id else t).done r e 0 5

/-! ## Sheets (R138 to R140) -/

/-- A new sheet as its entry queues it: its phase, its job with the plane map, and its rows and bands. -/
def newSheet (r : RingIx) (e : Entry) (phase : BitVec 32) (job : Nat) (map : Vector Byte 16) (mask : BitVec 16)
    (rows firstBand firstRow : Nat) : Sheet :=
  { id := BitVec.ofNat 32 (fieldAt e 24 4), phase := phase, job := job, planeMap := map, mask := mask
    rows := rows, firstBand := firstBand, firstRow := firstRow, ring := r, tag := entryTag e
    computed := Vector.replicate 8 0, fired := Vector.replicate 8 0
    cls := .none, code := 0, codeRow := 0, codeTick := 0, seen := [], anchored := false, started := false
    jobOpen := true, reached := Vector.replicate 8 0 }

/-- R140: the sheet that a SHEET entry queues, or the code that refuses it, before the order is judged. -/
def sheetOf (s : State) (r : RingIx) (e : Entry) : Except Code Sheet :=
  if isReprint e then
    match s.record? (BitVec.ofNat 32 (fieldAt e 44 4)) with
    | some m =>
      if m.jobUid && m.valid s.job.tail then
        let o := m.sheet
        .ok (newSheet r e o.phase o.job o.planeMap o.mask o.rows o.firstBand o.firstRow)
      else .error 0x0206
    | none => .error 0x0206
  else match s.job? (fieldAt e 28 2) with
    | none => .error 0x0203
    | some j =>
      let mask := fieldAt e 30 2
      if (all 16).any fun p => bit mask p.1 && decide (j.planeMap[p].toNat / 64 = 0) then .error 0x020C
      else .ok (newSheet r e (BitVec.ofNat 32 (fieldAt e 24 4)) j.id j.planeMap (BitVec.ofNat 16 mask)
        (fieldAt e 32 4) (fieldAt e 36 4) (fieldAt e 40 3))

/-- R138: the ID is after the last queued ID. -/
def orderOk (s : State) (id : BitVec 32) : Bool :=
  match s.job.lastId with
  | none => true
  | some l => afterMod 32 id.toNat l.toNat

/-- R188: patches of a newly queued sheet that reach beyond its rows are counted. -/
def clipPatches (sh : Sheet) (s : State) : State :=
  s.onSe fun u => { u with clipped :=
    u.clipped + u.patches.countP fun q => decide (q.sheet = sh.id) && decide (sh.rows < q.firstRow + q.rows) }

/-- SHEET of a well-formed entry; it waits while 64 sheets are queued. -/
def queueSheet (r : RingIx) (e : Entry) (s : State) : State :=
  if 64 ≤ s.job.sheets.length then s
  else
    let t := s.begin r
    match s.sheetOf r e with
    | .error c => t.fail r e c 5
    | .ok sh =>
      if s.orderOk sh.id then
        ((t.clipPatches sh).onJob fun j => { j with sheets := j.sheets ++ [sh], lastId := some sh.id }).done r e 0 5
      else t.fail r e 0x0205 5

/-! ## Landing (R126, R130, R134, R160) -/

/-- A landing of an entry ends: its reservation is dead, and the entry fails. -/
def failLanding (r : RingIx) (e : Entry) (pos : Nat) (code : Code) (s : State) : State :=
  (s.setSpan pos .dead).failBulk r e code (if code.toNat / 256 = 0x0F then 0x13 else 5)

/-- The container's bytes are written through QP0, checked and published; the entry completes. -/
def landEntry (r : RingIx) (e : Entry) (pos : Nat) (bs : List Byte) (s : State) : State :=
  let w := s.ringPut 0 pos bs
  if !w.2 then w.1.failLanding r e pos 0x0D05
  else
    let q := w.1.publish pos bs
    if q.2 = 0 then q.1.doneBulk r e pos 0 5 else q.1.failBulk r e q.2 5

/-- The landing at a position is complete. -/
def land (pos : Nat) (host : List Byte) (s : State) : State :=
  match s.job.spans.find? fun x => decide (x.pos = pos) with
  | some ⟨_, _, .landing (.entry r e)⟩ =>
    let n := fieldAt e 4 4
    if !s.linkOk then s.failLanding r e pos 0x0104
    else (((s.hostLoad (entryNs e) (fieldAt e 8 8) n).hostIn n).count (5 * 64 + 4) 1).landEntry r e pos (slice host 0 n)
  | some ⟨_, _, .landing (.gather r e table)⟩ =>
    let g := s.gather (entryNs e) true (fieldAt e 4 4) table host
    (match g.2 with
    | .error c => g.1.failLanding r e pos c
    | .ok bs => g.1.landEntry r e pos bs)
  | some ⟨_, _, .landing .transport⟩ =>
    (match s.eth.trackers.find? fun t => decide (t.pos = pos) && decide (t.bits.length = t.count) with
    | some t => s.landTransport t
    | none => s)
  | _ => s

/-- R437: the index table of a BAND_GATHER: COUNT entries from host memory, or from the spool. -/
def gatherTable (e : Entry) (table : List IndexEntry) (s : State) : State × Option (List IndexEntry) :=
  let n := fieldAt e 24 4
  if bit (fieldAt e 28 1) 0 then
    if spoolSize < fieldAt e 8 8 + 16 * n then (s, none)
    else
      let r := s.spoolGet 2 (fieldAt e 8 8) (16 * n)
      (r.1, r.2.map fun bs => (List.range n).map fun i => BitVec.ofNat 128 (leAt bs (16 * i) 16))
  else ((s.hostLoad (entryNs e) (fieldAt e 8 8) (16 * n)).hostIn (16 * n), some ((List.range n).map fun i => table.getD i 0))

/-- R134, R437, R439: a landing whose entry has started is reserved, or ends with the error that it meets. -/
def enterLanding (src : LandSource) (len : Nat) (s : State) : State :=
  match src with
  | .entry r e => if s.linkOk then s.reserve src len else s.failBulk r e 0x0104 2
  | .gather r e table =>
    if !s.linkOk then s.failBulk r e 0x0104 2
    else
      let g := gatherTable e table s
      (match g.2 with
      | some l => g.1.reserve (.gather r e l) len
      | none => g.1.failBulk r e (if spoolSize < fieldAt e 8 8 + 16 * fieldAt e 24 4 then 0x0F02 else 0x0D05) 0x13)
  | .transport => s.reserve src len

/-- R134, R431: the entry of a landing starts, with a pool channel and a reservation. -/
def beginLanding (ch : DmaIx) (src : LandSource) (len : Nat) (s : State) : State :=
  match src with
  | .entry r e => ((s.begin r).takePool ch r e).enterLanding src len
  | .gather r e _ => ((s.begin r).takePool ch r e).enterLanding src len
  | .transport => s.reserve src len

/-- R134, R155, R431: a landing entry that comes up starts when there is space and a pool channel; short of space, or behind
others that are, it waits, and has not started. -/
def offerLanding (src : LandSource) (len : Nat) (s : State) : State :=
  if s.sys.lpCur = 2 then s
  else
    let t := s.makeRoom len
    if t.job.waiting.isEmpty && t.roomFor len then
      match t.poolFree with
      | some ch => t.beginLanding ch src len
      | none => t
    else t.onJob fun j => { j with waiting := j.waiting ++ [⟨src, len⟩] }

/-- R134: the first landing that waits starts once soft space has been reclaimed or space is free, and a pool channel too. -/
def reserveWaiting (s : State) : State :=
  match s.job.waiting with
  | [] => s
  | w :: rest =>
    let t := s.makeRoom w.len
    match t.roomFor w.len, t.poolFree with
    | true, some ch => (t.onJob fun j => { j with waiting := rest }).beginLanding ch w.src w.len
    | _, _ => t

end State

/-! ## The commands -/

/-- R127, R149: JOB_OPEN. -/
def execJobOpen (r : RingIx) (s : State) : Result :=
  .next (s.runEntry r (fun e => decide (opcode e = 3)) formJobOpen (State.jobOpen r))

/-- R127, R149: JOB_CLOSE. -/
def execJobClose (r : RingIx) (s : State) : Result :=
  .next (s.runEntry r (fun e => decide (opcode e = 4)) formJobClose (State.jobClose r))

/-- R138 to R140, R149: SHEET. -/
def execSheet (r : RingIx) (s : State) : Result :=
  .next (s.runEntry r (fun e => decide (opcode e = 5)) formSheet (State.queueSheet r))

/-- R134, R149: BAND_WRITE starts its landing, or waits for space. -/
def execBandWrite (r : RingIx) (s : State) : Result :=
  .next (s.runEntry r (fun e => decide (opcode e = 1)) formBandWrite fun e t =>
    t.offerLanding (.entry r e) (fieldAt e 4 4))

/-- R437, R438: BAND_GATHER starts its landing, or waits for space; `table` is what host memory held at ADDR0. -/
def execBandGather (r : RingIx) (table : List IndexEntry) (s : State) : Result :=
  .next (s.runEntry r (fun e => decide (opcode e = 2)) formBandGather fun e t =>
    t.offerLanding (.gather r e table) (fieldAt e 4 4))

/-- R134: a waiting reservation is made. -/
def execSpoolReservation (s : State) : Result := .next (if s.up && decide (s.sys.lpCur ≠ 2) then s.reserveWaiting else s)

/-- R130, R160: the last byte of the container reserved at `pos` lands; `host` is what host memory held. -/
def execContainerLanded (pos : Nat) (host : List Byte) (s : State) : Result :=
  .next (if s.up && decide (s.sys.lpCur ≠ 2) then s.land pos host else s)

/-- R438: SPOOL_READ. -/
def execSpoolRead (r : RingIx) (s : State) : Result :=
  .next (s.runEntry r (fun e => decide (opcode e = 9)) formSpoolRead fun e t =>
    t.withPool r e fun u =>
      if !u.linkOk then u.failBulk r e 0x0104 2
      else
        let g := u.spoolGet 2 (fieldAt e 16 8) (fieldAt e 4 4)
        match g.2 with
        | none => g.1.failBulk r e 0x0D05 0x13
        | some bs => (g.1.hostStore (State.entryNs e) (fieldAt e 8 8) bs).doneBulk r e 0 0 0x13)

end Sys2Proof.Machine
end

