-- ==== Sys2Proof/Machine/Gearing.lean ====
section
/-!
DEFINITION. Heliostat's geometry and predictions (R22): gearing and landing targets (R288, R289), the rows of single-pass
and scanning mode (R290, R301, R302), the fit, the arrival and the fire instant (R292 to R298), and the row
rate (R299). Positions are in 1/256 count, row coordinates in 2^-32 row, fire times in 1/16 ns.
-/
namespace Sys2Proof.Machine

/-- Floor of a quotient; 0 for a divisor of 0. -/
def floorDiv (a b : Int) : Int := Int.fdiv a b
/-- Ceiling of a quotient. -/
def ceilDiv (a b : Int) : Int := -(Int.fdiv (-a) b)

/-- One row. -/
def rowUnit : Int := 4294967296

/-- A gear entry: START in 1/256 count, RATIO in 2^-32 row per count, and ys in 2^-32 row (R288). -/
structure GearSeg where
  start : Int
  ratio : Int
  ys    : Int
  deriving DecidableEq, Repr

/-- R288: ys of each entry from the starts and ratios. -/
def gearSegs : List (Int × Int) → List GearSeg
  | [] => []
  | (s0, r0) :: rest =>
    let go := rest.foldl (fun (acc : List GearSeg × GearSeg) x =>
      let n : GearSeg := ⟨x.1, x.2, acc.2.ys + floorDiv ((x.1 - acc.2.start) * acc.2.ratio) 256⟩
      (acc.1 ++ [n], n)) ([⟨s0, r0, 0⟩], ⟨s0, r0, 0⟩)
    go.1

/-- R288: the entry that applies at a position. -/
def segAt (l : List GearSeg) (q : Int) : GearSeg :=
  match l with
  | [] => ⟨0, 0, 0⟩
  | g :: gs => gs.foldl (fun best x => if x.start ≤ q then x else best) g

/-- R288: the entry that holds a row coordinate. -/
def segOf (l : List GearSeg) (y : Int) : GearSeg :=
  match l with
  | [] => ⟨0, 0, 0⟩
  | g :: gs => gs.foldl (fun best x => if x.ys ≤ y then x else best) g

/-- R288: y0 at a position. -/
def gearY (l : List GearSeg) (q : Int) : Int :=
  let g := segAt l q
  g.ys + floorDiv ((q - g.start) * g.ratio) 256

/-- R288: the least position, in 1/256 count, at which y0 reaches a row coordinate. -/
def gearX (l : List GearSeg) (y : Int) : Int :=
  let g := segOf l y
  g.start + ceilDiv ((y - g.ys) * 256) g.ratio

namespace State

/-- The 64-bit signed value of a register pair. -/
def rdS64 (s : State) (off : Nat) : Int := signed 64 (s.rd64 off)

/-- R289: START of entry `e` in counts; entry 0 applies from below and starts at 0. -/
def gearStart (s : State) (m e : Nat) : Int := if e = 0 then 0 else s.rdS64 (aHlsEnc m (0x80 + 8 * e))
/-- R289: RATIO of entry `e`, in 2^-32 row per count. -/
def gearRatio (s : State) (m e : Nat) : Nat :=
  s.rdN (aHlsEnc m (0x100 + 8 * e)) + 4294967296 * (s.rdN (aHlsEnc m (0x104 + 8 * e)) % 2)
/-- R289: NSEG. -/
def gearCount (s : State) (m : Nat) : Nat := s.fld (aHlsEnc m 0x40) 3 0 + 1
/-- The gear table of a master encoder. -/
def gears (s : State) (m : Nat) : List GearSeg :=
  gearSegs ((List.range (s.gearCount m)).map fun e => (256 * s.gearStart m e, (s.gearRatio m e : Int)))

/-- The encoder that clocks the rows (R289). -/
def rowEnc (s : State) : EncIx := if s.scan then 1 else 0

/-- BAR_OFF_k in 1/256 count (R291). -/
def barOff (s : State) (k : BarIx) : Int := signed 32 (s.rdN (aHlsBar k.1 0))
/-- EDGE_OFF in 1/256 count (R291): a distance, not signed. -/
def edgeOff (s : State) : Int := s.rdN (aHls 0x2000)
/-- THROW_k in 1/16 ns (R298). -/
def throwOf (s : State) (k : BarIx) : Nat := s.fld (aHlsBar k.1 4) 23 0
/-- LP_EN of a bar (R298). -/
def lpOn (s : State) (k : BarIx) : Bool := s.fbit (aHlsBar k.1 8) 31
/-- VREF of a bar, in counts/s (R298). -/
def vref (s : State) (k : BarIx) : Nat := s.fld (aHlsBar k.1 8) 26 0

/-! ## Scanning (R301, R302) -/

def passRows (s : State) : Nat := s.fld (aHls 0x2010) 31 8
def passCount (s : State) : Nat := s.fld (aHls 0x2010) 5 0 + 1
/-- The pass of a sheet row. -/
def passOf (s : State) (r : Nat) : Nat := r / s.passRows
/-- The direction of pass k: +1 or -1. -/
def passDir (s : State) (k : Nat) : Int := if s.fbit (aHls (0x2100 + 4 * (k % s.passCount))) 31 then -1 else 1
/-- FEED after pass k, in counts. -/
def feedOf (s : State) (k : Nat) : Nat := s.fld (aHls (0x2100 + 4 * (k % s.passCount))) 23 0
def orgF (s : State) : Int := s.rdS64 (aHls 0x2020)
def orgB (s : State) : Int := s.rdS64 (aHls 0x2028)

/-- R301: where bar k fires sheet row r in scanning mode, in the pass's travel coordinate. -/
def scanTarget (s : State) (k : BarIx) (r : Nat) : Int :=
  let d := s.passDir (s.passOf r)
  let g := gearX (s.gears 1) ((r % s.passRows : Nat) * rowUnit)
  if d = 1 then 256 * s.orgF + g + s.barOff k else -(256 * s.orgB - g + s.barOff k)

/-- R290, R301: X_b of sheet row r for anchor `a`. -/
def rowTarget (s : State) (a : Anchor) (k : BarIx) (r : Nat) : Int :=
  if s.scan then s.scanTarget k r else s.barOff k + gearX (s.gears 0) (a.y + r * rowUnit)

/-- R288: the row coordinate Y_b at a position, in single-pass mode. -/
def barY (s : State) (k : BarIx) (q : Int) : Int := gearY (s.gears 0) (q - s.barOff k)

/-- R296, R297: the firing target of sheet row r at bar k, exactly: with landing prediction off it lies between
two 1/256 counts. -/
def fireTarget (s : State) (a : Anchor) (k : BarIx) (r : Nat) : Rat :=
  if s.lpOn k then s.rowTarget a k r
  else s.rowTarget a k r - (s.vref k * s.throwOf k : Nat) / (62500000 : Rat)

/-- The pass of the sheet that is being printed has its feed complete (R294, R303). -/
def passReady (s : State) (id : BitVec 32) (r : Nat) : Bool :=
  !s.scan || match s.hls.pass with
    | some p => decide (p.sheet = id) && decide (p.k = s.passOf r) && p.done
    | none => false

/-- R301: in scanning mode a sheet row belongs to the pass that runs, or is fed; row events act within it. -/
def rowCurrent (s : State) (id : BitVec 32) (r : Nat) : Bool :=
  !s.scan || match s.hls.pass with
    | some p => decide (p.sheet = id) && decide (p.k = s.passOf r)
    | none => false

/-! ## The high-water mark (R286, R301) -/

/-- The rows of a sheet up to the end of pass k. -/
def passEnd (s : State) (sh : Sheet) (k : Nat) : Nat := min sh.rows ((k + 1) * s.passRows)

/-- Every bar in use has fired the last row of a pass. -/
def passOver (s : State) (p : Pass) : Bool :=
  match s.sheet? p.sheet with
  | none => true
  | some sh => (all 8).all fun k => !s.bar[k].used || decide (s.passEnd sh p.k ≤ sh.fired[k])

/-- R286: a sheet, or in scanning mode a pass, is anchored to the encoder. -/
def held (s : State) (m : EncIx) : Bool :=
  if m = 0 then s.job.anchors.any fun a => !a.decided || match a.sheet with
    | some id => (s.sheet? id).isSome
    | none => false
  else match s.hls.pass with
    | some p => s.scan && p.done && !s.passOver p
    | none => false

/-- R301: the coordinate of travel of MENC1 in a pass; else the position. -/
def travel (s : State) (m : EncIx) (p : Int) : Int :=
  match s.hls.pass with
  | some q => if m = 1 ∧ s.scan then s.passDir q.k * p else p
  | none => p

/-- R286: H of an encoder: the greatest P since a sheet or pass was anchored to it, else P. -/
def high (s : State) (m : EncIx) : Int :=
  if s.held m then s.hls.enc[m].hwm else s.travel m s.hls.enc[m].pos

/-- R286: H of an encoder to which nothing is anchored is P. -/
def settleHigh (m : EncIx) (s : State) : State :=
  if s.held m then s else s.onEnc m fun e => { e with hwm := s.travel m e.pos }

/-! ## The fit and the arrival (R292 to R294) -/

/-- A time of 2^-24 ns units in ns. -/
def nsOf (t : Nat) : Rat := (t : Rat) / 16777216

/-- R293: the binary floating point of 53 or more significand bits: an exact result, rounded within 2^-52 of it. -/
def fround (x : Rat) : Rat := x + x * clampR (-1) 1 (Config.freeRounding x) / 4503599627370496
/-! R293: its operations, each with a rounding of its own. -/
def fadd (x y : Rat) : Rat := fround (x + y)
def fsub (x y : Rat) : Rat := fround (x - y)
def fmul (x y : Rat) : Rat := fround (x * y)
def fdiv (x y : Rat) : Rat := fround (x / y)
def fsqrt (x : Rat) : Rat := fround (ratSqrt x)

/-- R293: velocity (counts per ns) at the newest record, acceleration, its time (ns) and position. -/
structure Fit where
  v  : Rat
  a  : Rat
  t2 : Rat
  p2 : Int

/-- R293: fit() over the three newest records. -/
def fitOf (l : List (Nat × Int)) : Option Fit :=
  match l with
  | (t2, p2) :: (t1, p1) :: (t0, p0) :: _ =>
    let v1 := fdiv (fsub p2 p1) (fsub (nsOf t2) (nsOf t1))
    let v0 := fdiv (fsub p1 p0) (fsub (nsOf t1) (nsOf t0))
    let a := fdiv (fmul 2 (fsub v1 v0)) (fsub (nsOf t2) (nsOf t0))
    some ⟨fadd v1 (fdiv (fmul a (fsub (nsOf t2) (nsOf t1))) 2), a, nsOf t2, p2⟩
  | _ => none

/-- VMIN of an encoder, in counts per ns. -/
def vmin (s : State) (m : EncIx) : Rat := (s.fld (aHlsEnc m.1 8) 15 0 : Nat) / (1000000 : Rat)

/-- R293: arrival at a target in 1/256 count, in 1/16 ns. -/
def arrival (s : State) (m : EncIx) (x : Rat) : Option Nat :=
  match fitOf s.hls.enc[m].recs with
  | none => none
  | some q =>
    let d := fsub (x / 256) q.p2
    let disc := fadd (fmul q.v q.v) (fmul (fmul 2 q.a) d)
    if q.v < s.vmin m ∨ disc ≤ 0 then none
    else some ((16 * fadd q.t2 (fdiv (fmul 2 d) (fadd q.v (fsqrt disc))) + 1 / 2).floor.toNat)

/-- R294, R296: t_fire of sheet row r at bar k, in 1/16 ns. -/
def tFire (s : State) (id : BitVec 32) (k : BarIx) (r : Nat) : Option Nat :=
  match s.anchor? id with
  | none => none
  | some a =>
    if !s.passReady id r then none
    else (s.arrival s.rowEnc (s.fireTarget a k r)).map fun t => if s.lpOn k then t - s.throwOf k else t

/-- INC (R306): what Meridian time advances by at each tick, in 2^-24 ns. -/
def merInc (s : State) : Nat := s.rdN (aMer 0x10)

/-- The present Meridian time in 1/16 ns. -/
def now16 (s : State) : Nat := s.mer.time / 1048576

/-- R299: ρ at bar k for a target, at a time in 1/16 ns: rows per ns; none with fewer than two records. -/
def rowRate (s : State) (x : Int) (t : Rat) : Option Rat :=
  let m := s.rowEnc
  let ratio : Rat := ((segAt (s.gears m.1) x).ratio : Rat) / 4294967296
  match fitOf s.hls.enc[m].recs with
  | some q => some (ratio * (q.v + q.a * (t / 16 - q.t2)))
  | none => match s.hls.enc[m].recs with
    | (t1, p1) :: (t0, p0) :: _ => some (ratio * (((p1 - p0 : Int) : Rat) / (nsOf t1 - nsOf t0)))
    | _ => none

end State
end Sys2Proof.Machine
end

