-- ==== Sys2Proof/Machine/Motion.lean ====
section
/-!
DEFINITION. Motion axes (R328 to R344): the commands and their refusals, the profile generator, gearing, faults,
homing and the axis inputs.
-/
namespace Sys2Proof.Machine

/-- R282, R338: four counts per quadrature cycle: the step from one accepted state of A and B to the next, +1
when A leads B; both changing together is no count. -/
def quadStep (a0 b0 a b : Bool) : Int :=
  if a0 = a ∧ b0 = b then 0
  else if a0 ≠ a ∧ b0 ≠ b then 0
  else if a0 ≠ a then (if a = b0 then -1 else 1)
  else (if b = a0 then 1 else -1)

/-- R283: A and B take new levels together. -/
def quadError (a0 b0 a b : Bool) : Bool := decide (a0 ≠ a) && decide (b0 ≠ b)

/-- The nearest integer, ties away from zero. -/
def nearest (q : Rat) : Int := if q < 0 then -((-q + 1 / 2).floor) else (q + 1 / 2).floor

/-- The sign of a rational. -/
def signOf (q : Rat) : Rat := if q < 0 then -1 else if q = 0 then 0 else 1
/-- The magnitude of a rational. -/
def absOf (q : Rat) : Rat := if q < 0 then -q else q

namespace State

/-! ## Settings (R329) -/

def axVmax (s : State) (x : AxisIx) : Nat := s.fld (aMot x.1 4) 23 0
def axVstart (s : State) (x : AxisIx) : Nat := s.fld (aMot x.1 8) 23 0
def axAmax (s : State) (x : AxisIx) : Nat := s.rdN (aMot x.1 0xC)
def axDmax (s : State) (x : AxisIx) : Nat := s.rdN (aMot x.1 0x10)
def axEdec (s : State) (x : AxisIx) : Nat := s.rdN (aMot x.1 0x14)
def axJmax (s : State) (x : AxisIx) : Nat := s.rdN (aMot x.1 0x18)
/-- Axis-encoder counts per step, signed 16.16. -/
def axEncRatio (s : State) (x : AxisIx) : Rat := (signed 32 (s.rdN (aMot x.1 0x1C)) : Rat) / 65536
/-- HOME_OFS, TGT. -/
def axHomeOfs (s : State) (x : AxisIx) : Int := s.rdS64 (aMot x.1 0x38)
def axTgt (s : State) (x : AxisIx) : Int := s.rdS64 (aMot x.1 0x58)
/-- R331: the argument that a command finds in TGT: JOG takes the signed TGT_LO, and every other operation the whole. -/
def axArg (s : State) (x : AxisIx) (op : Nat) : Int := if op = 3 then signed 32 (s.rdN (aMot x.1 0x58)) else s.axTgt x
/-- A gear ratio: LO fraction in 2^-32, HI [15:0] signed integer. -/
def axGearRatio (s : State) (off : Nat) : Rat :=
  (s.rdN off : Rat) / 4294967296 + (signed 16 (s.rdN (off + 4)) : Rat)
/-- The encoder that a geared axis follows (R336). -/
def axMaster (s : State) (x : AxisIx) : EncIx := if s.fbit (aMot x.1 0x2C) 31 then 1 else 0

/-! ## Gearing (R336, R337) -/

/-- R336: the master function F. -/
def gearF (s : State) (x : AxisIx) (p : Int) : Rat :=
  let ra := s.axGearRatio (aMot x.1 0x40)
  let rb := s.axGearRatio (aMot x.1 0x48)
  let c := s.rdS64 (aMot x.1 0x50)
  if s.fbit (aMot x.1 0x2C) 30 && decide (c < p) then ra * c + rb * ((p - c : Int) : Rat) else ra * p

/-- R336: the demand of a geared axis. -/
def gearDemand (s : State) (x : AxisIx) (p0 g0 : Int) : Rat :=
  g0 + s.gearF x s.hls.enc[s.axMaster x].pos - s.gearF x p0

/-- R337: demand less position, for a geared axis. -/
def gearLag (s : State) (x : AxisIx) : Option Rat :=
  match s.axis[x].motion with
  | .gear p0 g0 => some (s.gearDemand x p0 g0 - s.axis[x].pos.floor)
  | _ => none

/-! ## Limits (R332, R340) -/

/-- The limit that lies in a direction of motion: LIMP for positive, LIMN for negative. -/
def limitTowards (a : Axis) (dir : Rat) : Bool := (a.sw[0] && decide (0 < dir)) || (a.sw[1] && decide (dir < 0))

/-- The direction in which a command would set an axis going. -/
def commandDir (a : Axis) (op : Nat) (arg : Int) : Rat :=
  match op with
  | 1 => signOf ((arg : Rat) - a.pos)
  | 2 => match a.motion with
    | .move t => signOf (((t + arg : Int) : Rat) - a.pos)
    | _ => signOf (arg : Rat)
  | 3 => signOf (arg : Rat)
  | 6 => match a.kept with
    | some t => signOf ((t : Rat) - a.pos)
    | none => 0
  | _ => 0

/-- FEED_AXIS belongs to Heliostat in scanning mode while the engine runs (R332). -/
def axOwned (s : State) (x : AxisIx) : Bool := s.scan && s.engRuns && decide (s.fld (aHls 0x2014) 31 29 = x.1)

/-- R332, R340: the code with which a command is refused, if any. -/
def commandRefusal (s : State) (x : AxisIx) (op : Nat) (arg : Int) (byHeliostat : Bool) : Option Code :=
  let a := s.axis[x]
  if !s.axisRuns x || s.fns.axis[x].busy then some 0x0A02
  else if a.fault ≠ 0 ∧ op ≠ 10 then some 0x0A03
  else if ((op = 7 ∨ op = 8) ∧ a.motion ≠ .rest) ∨ (op = 6 ∧ a.remain = 0) then some 0x0A04
  else if limitTowards a (commandDir a op arg) ∨ (op = 10 ∧ a.sw[0] ∧ a.sw[1]) then some 0x0A05
  else if s.axOwned x && !byHeliostat then some 0x0A06
  else none

/-! ## Commands (R331, R336, R341, R342) -/

/-- R341: a command that discards the kept target. -/
def discardKept (a : Axis) : Axis := { a with kept := none, remain := 0, stopReq := false, hstep := 0, hwaitZ := false, hset := false }

/-- A move to a target; the last step lands on it. -/
def startMove (t : Int) (a : Axis) : Axis :=
  if a.vel = 0 ∧ a.pos = t then { a with motion := .rest, remain := 0, kept := none, stopReq := false }
  else { a with motion := .move t, stopReq := false, hstep := 0, hwaitZ := false, hset := false }

/-- R338, R342: POS takes a value, and ENCPOS follows it. -/
def setPosition (ratio : Rat) (v : Int) (a : Axis) : Axis :=
  { a with pos := v, encpos := nearest (v * ratio) }

/-- R342: the Set step. -/
def homeSet (ratio : Rat) (ofs : Int) (a : Axis) : Axis :=
  { setPosition ratio (a.pos.floor + (ofs - a.hlatch)) a with
    vel := 0, acc := 0, motion := .rest, hstep := 0, hwaitZ := false, hset := false, homed := true }

/-- R342: METHOD, HDIR and HOME_Z. -/
def homeMethod (s : State) (x : AxisIx) : Nat := s.fld (aMot x.1 0x30) 31 30
def homePos (s : State) (x : AxisIx) : Bool := s.fbit (aMot x.1 0x30) 29
def homeZ (s : State) (x : AxisIx) : Bool := s.fbit (aMot x.1 0x30) 28
/-- R342: the switch that serves as the reference: LIMP 0, LIMN 1, HOME 2. -/
def homeRef (s : State) (x : AxisIx) : Fin 3 :=
  match s.homeMethod x with
  | 1 => 1
  | 2 => 0
  | _ => 2

/-- R342: the limit switch that lies in the search direction: LIMP 0, LIMN 1. -/
def homeAhead (s : State) (x : AxisIx) : Fin 3 := if s.homePos x then 0 else 1

/-- R342: the step in which homing begins: H1 is skipped when the reference is already active, and over at once
when the limit in the search direction is. -/
def firstHomeStep (s : State) (x : AxisIx) : Nat :=
  if s.axis[x].sw[s.homeRef x] then 3 else if s.axis[x].sw[s.homeAhead x] then 2 else 1

/-- R342: HOME begins. -/
def startHome (x : AxisIx) (s : State) : State :=
  if s.homeMethod x = 3 then
    s.onAxis x fun a => homeSet (s.axEncRatio x) (s.axHomeOfs x) { discardKept a with hlatch := a.pos.floor }
  else s.onAxis x fun a =>
    { discardKept a with motion := .homing, hstep := s.firstHomeStep x, homed := false }

/-- R340: CLEAR clears FAULT; with STALL_EN, POS follows ENCPOS, and REMAIN the kept target. -/
def clearFault (x : AxisIx) (s : State) : State :=
  s.onAxis x fun a =>
    let b := { a with fault := 0, enOff := false }
    if s.fbit (aMot x.1 0) 27 && decide (s.axEncRatio x ≠ 0) then
      let c := { b with pos := nearest (b.encpos / s.axEncRatio x) }
      { c with remain := remainTo c c.kept }
    else b

/-- The effect of an accepted command of R331. -/
def applyCommand (x : AxisIx) (op : Nat) (arg : Int) (s : State) : State :=
  match op with
  | 1 => s.onAxis x fun a => startMove arg (discardKept a)
  | 2 => s.onAxis x fun a =>
    let base := match a.motion with
      | .move t => t
      | _ => a.pos.floor
    startMove (base + arg) (discardKept a)
  | 3 => s.onAxis x fun a => { discardKept a with motion := .jog arg }
  | 4 => s.onAxis x fun a => { discardKept a with motion := .gear s.hls.enc[s.axMaster x].pos a.pos.floor }
  | 5 => s.onAxis x fun a =>
    if a.motion = .rest then { a with kept := none, remain := 0 }
    else
      let kept := match a.motion with
        | .move t => some t
        | .brake _ => a.kept
        | _ => none
      let b := brake { a with kept := kept } (s.axDmax x)
      { b with stopReq := decide (b.motion ≠ .rest) }
  | 6 => s.onAxis x fun a => match a.kept with
    | some t => startMove t a
    | none => a
  | 7 => s.startHome x
  | 8 => s.onAxis x fun a => { setPosition (s.axEncRatio x) arg a with homed := false }
  | 9 => s.onAxis x fun a =>
    let kept := match a.motion with
      | .move t => some t
      | .brake _ => a.kept
      | _ => none
    cease { a with kept := kept }
  | 10 => s.clearFault x
  | _ => s

/-- R331, R332: a command is refused with its event, or takes effect. -/
def axisCommand (x : AxisIx) (op : Nat) (arg : Int) (byHeliostat : Bool) (s : State) : State :=
  match s.commandRefusal x op arg byHeliostat with
  | some c => s.errorUnit c .c (unitAxis x) 0 0x0E
  | none => s.applyCommand x op arg

/-- R330, R332: a CMD value takes effect with its argument: as a command, or as the queued move, replacing one that is held. -/
def takeCmd (x : AxisIx) (v : Word) (arg : Int) (s : State) : State :=
  let op := bits v.toNat 31 28
  if v.getLsbD 27 then
    s.onAxis x fun a => { a with queued := some (op, arg), replaced := a.replaced + b2n a.queued.isSome }
  else s.axisCommand x op arg false

/-- R330, R331: a CMD write is refused while one is crossing, and with an operation that R331 does not list. -/
def cmdRefused (s : State) (x : AxisIx) (v : Word) : Bool :=
  s.axis[x].cmd.isSome || decide (bits v.toNat 31 28 = 0 ∨ 10 < bits v.toNat 31 28)

/-- R330: a host write of MOT_AXn_CMD: its operation and the argument in TGT cross together. -/
def writeAxisCmd (x : AxisIx) (v : Word) (s : State) : State :=
  if s.cmdRefused x v then s.refuseWrite (aMot x.1 0x60) v
  else s.onAxis x fun a => { a with cmd := some (v, s.axArg x (bits v.toNat 31 28), s.tick) }

/-- R330, R331: a host write of MOT_AXn_CMD whose crossing ends within its own tick. -/
def commandNow (x : AxisIx) (v : Word) (s : State) : State :=
  if s.cmdRefused x v then s.refuseWrite (aMot x.1 0x60) v else s.takeCmd x v (s.axArg x (bits v.toNat 31 28))

/-- R310, R332: Meridian action 0x07 starts the queued move, at the end of its tick, after the register commands of that
tick. -/
def startQueued (x : AxisIx) (s : State) : State :=
  if s.axis[x].queued.isNone then s.errorUnit 0x0A07 .c (unitAxis x) 0 0x0E
  else s.onAxis x fun a => { a with begins := true }

/-- R332: the queued move that a Meridian action has started. -/
def beginQueued (x : AxisIx) (s : State) : State :=
  if !s.axis[x].begins then s
  else match s.axis[x].queued with
    | none => s.onAxis x fun a => { a with begins := false }
    | some q => (s.onAxis x fun a => { a with begins := false, queued := none }).axisCommand x q.1 q.2 false

/-- R330: the command that crosses takes effect in the third tick after its write. -/
def crossCommand (x : AxisIx) (s : State) : State :=
  match s.axis[x].cmd with
  | some (v, arg, at0) => if at0 + 2 ≤ s.tick then (s.onAxis x fun a => { a with cmd := none }).takeCmd x v arg else s
  | none => s

/-! ## The profile generator (R333, R334) -/

/-- A tick of 2.5 ns, in s. -/
def dt : Rat := 1 / 400000000

end State

/-- The limits of a motion (R329, R334): AMAX, the deceleration, JMAX, the start speed in force, VMAX, and STEP_W and DIR_SETUP in
ticks. -/
structure Profile where
  am : Nat
  dm : Nat
  j  : Nat
  vs : Nat
  vm : Nat
  w  : Nat
  su : Nat
  deriving DecidableEq, Repr

namespace State

/-- R329, R333: the limits of an axis; with JMAX non-zero VSTART counts as 0. -/
def profile (s : State) (x : AxisIx) : Profile :=
  { am := s.axAmax x, dm := s.axDmax x, j := s.axJmax x, vs := if s.axJmax x = 0 then s.axVstart x else 0
    vm := s.axVmax x, w := 4 * s.fld (aMot x.1 0) 13 7, su := 4 * s.fld (aMot x.1 0) 6 0 }

/-- R333: the distance needed to reach rest under the deceleration and JMAX, from a speed and an acceleration in the direction
of motion; with JMAX 0 the speed steps from VSTART to rest. -/
def stopDist (q : Profile) (v c : Rat) : Rat :=
  if q.j = 0 then (if v ≤ q.vs then 0 else (v * v - (q.vs : Rat) * q.vs) / (2 * q.dm))
  else
    let t := c / q.j
    let w := v + c * t / 2
    let run := v * t + c * t * t / 2 - q.j * t * t * t / 6
    let rest := if (q.dm : Rat) * q.dm / q.j ≤ w then w * (w / q.dm + (q.dm : Rat) / q.j) / 2 else w * fsqrt (w / q.j)
    run + rest

/-- The speed at which an acceleration that falls to 0 within JMAX would leave the axis. -/
def easedSpeed (q : Profile) (v c : Rat) : Rat := if q.j = 0 then v else v + c * absOf c / (2 * q.j)

/-- An acceleration brought towards 0 for one tick, its change within JMAX. -/
def easeAcc (q : Profile) (c : Rat) : Rat :=
  if absOf c ≤ q.j * dt then 0 else if 0 < c then c - q.j * dt else c + q.j * dt

/-- The first of two accelerations whose eased speed keeps to a bound, or the one brought towards 0. -/
def pickAcc (q : Profile) (keeps : Rat → Bool) (v c first : Rat) : Rat :=
  if keeps (easedSpeed q (v + (c + first) / 2 * dt) first) then first
  else if keeps (easedSpeed q (v + c * dt) c) then c
  else easeAcc q c

/-- R333, R334: one tick from a speed `v` and an acceleration `c` towards the speed `w`, all in the direction of motion. With JMAX 0
the speed changes by AMAX or DMAX, from and to VSTART; otherwise the acceleration changes within JMAX, and is 0 as the speed is
reached. -/
def toSpeed (q : Profile) (w v c : Rat) : Rat × Rat :=
  if q.j = 0 then
    if v < w then (min w ((if v = 0 then (q.vs : Rat) else v) + q.am * dt), 0)
    else if w < v then
      let u := v - q.dm * dt
      (if w = 0 ∧ (u < q.vs ∨ u ≤ 0) then 0 else max w u, 0)
    else (v, 0)
  else
    let step := q.j * dt
    let e := easedSpeed q v c
    let g :=
      if e < w then pickAcc q (fun z => decide (z ≤ w)) v c (min q.am (c + step))
      else if w < e then pickAcc q (fun z => decide (w ≤ z)) v c (if c < -q.dm then c + step else max (-q.dm) (c - step))
      else easeAcc q c
    let u := v + (c + g) / 2 * dt
    if w = 0 ∧ (u ≤ 0 ∨ (u ≤ step * dt ∧ absOf g ≤ step)) then (0, 0) else (u, g)

/-- R333: one tick towards a target that lies `d` ahead: away from 0 while the axis can still come to rest on the target, else
towards 0; none when the tick brings it to rest there. -/
def approach (q : Profile) (d v c : Rat) : Option (Rat × Rat) :=
  let slow : Rat := if q.j = 0 then max (q.vs : Rat) (q.dm * dt) else q.j * dt * dt
  let can (u : Rat × Rat) : Bool := decide (stopDist q u.1 u.2 ≤ d - u.1 * dt)
  let full := toSpeed q q.vm v c
  let mild := toSpeed { q with am := min q.am q.dm } q.vm v c
  let hold := toSpeed q (easedSpeed q v c) v c
  if d ≤ v * dt ∧ v ≤ slow then none
  else if can full then some full
  else if can mild then some mild
  else if v = 0 then none
  else if can hold then some hold
  else some (toSpeed q 0 v c)

/-- R333: STEP has been low for `gap` ticks at the tick `now`. -/
def stepLow (q : Profile) (gap now : Nat) (a : Axis) : Bool := decide (a.rise = 0 ∨ a.rise - 1 + q.w + gap ≤ now)

/-- R333: DIR is at the level of a direction and has been for DIR_SETUP. -/
def dirReady (q : Profile) (now : Nat) (fwd : Bool) (a : Axis) : Bool :=
  decide (a.dir = fwd) && decide (a.dirTick = 0 ∨ a.dirTick - 1 + q.su ≤ now)

/-- R333: DIR changes while STEP is low, at least 20 ns after its falling edge. -/
def turnDir (q : Profile) (now : Nat) (fwd : Bool) (a : Axis) : Axis :=
  if a.dir ≠ fwd ∧ stepLow q 8 now a then { a with dir := fwd, dirTick := now + 1 } else a

/-- The axis moves at a speed and an acceleration in a direction for one tick. -/
def advance (sg : Rat) (u : Rat × Rat) (a : Axis) : Axis :=
  { a with vel := sg * u.1, acc := sg * u.2, pos := a.pos + sg * u.1 * dt }

/-- One tick of braking towards rest. -/
def brakeTick (q : Profile) (a : Axis) : Axis :=
  let sg := signOf a.vel
  if a.vel = 0 then { a with acc := 0 } else advance sg (toSpeed q 0 (sg * a.vel) (sg * a.acc)) a

/-- One tick towards a speed; the axis reverses at rest, once DIR has been set up. -/
def speedTick (q : Profile) (now : Nat) (want : Rat) (a : Axis) : Axis :=
  let sg := signOf want
  if want = 0 ∨ (a.vel ≠ 0 ∧ signOf a.vel ≠ sg) then brakeTick q a
  else if a.vel = 0 ∧ !dirReady q now (decide (0 < want)) a then turnDir q now (decide (0 < want)) a
  else advance sg (toSpeed q (absOf want) (sg * a.vel) (sg * a.acc)) a

/-- R333, R335: one tick towards a target. -/
def moveTick (q : Profile) (now : Nat) (t : Rat) (a : Axis) : Axis :=
  let d := t - a.pos
  let sg := signOf d
  if d = 0 ∧ a.vel = 0 then { a with acc := 0 }
  else if a.vel ≠ 0 ∧ signOf a.vel ≠ sg then brakeTick q a
  else if a.vel = 0 ∧ !dirReady q now (decide (0 < d)) a then turnDir q now (decide (0 < d)) a
  else match approach q (absOf d) (sg * a.vel) (sg * a.acc) with
    | some u => advance sg u a
    | none => { a with pos := t, vel := 0, acc := 0 }

/-! ## The end of a motion (R333, R341, R342) -/

/-- R333: the axis is at rest at the end of its motion: its speed is 0 and STEP_W has elapsed after the last rising edge. -/
def atRest (s : State) (x : AxisIx) (now : Nat) : Bool :=
  let a := s.axis[x]
  decide (a.vel = 0) && stepLow (s.profile x) 0 now a && match a.motion with
    | .rest | .gear _ _ => false
    | .move t => decide (a.pos = t)
    | .jog v => decide (v = 0)
    | .brake _ => true
    | .homing => a.hset

/-- The axis comes to rest: a move has arrived, a brake has ended, homing takes its next step. -/
def comeToRest (x : AxisIx) (s : State) : State :=
  s.onAxis x fun a =>
    let b := { a with acc := 0, motion := .rest, stopReq := false }
    match a.motion with
    | .move _ => { b with kept := none, remain := 0 }
    | _ =>
      if a.hset then homeSet (s.axEncRatio x) (s.axHomeOfs x) b
      else if 1 ≤ a.hstep then { b with motion := .homing }
      else { b with remain := remainTo b b.kept }

/-- The homing speed of a step (R342): towards HDIR in H1 and H3, against it in H1R and H2. -/
def homeSpeed (s : State) (x : AxisIx) (h : Nat) : Rat :=
  let v := if h = 1 ∨ h = 2 then s.fld (aMot x.1 0x20) 23 0 else s.fld (aMot x.1 0x24) 23 0
  let dir : Rat := if s.homePos x then 1 else -1
  if h = 1 ∨ h = 4 then dir * v else -(dir * v)

/-- One tick of a motion. -/
def profileTick (s : State) (x : AxisIx) (now : Nat) : Axis :=
  let a := s.axis[x]
  let q := s.profile x
  match a.motion with
  | .rest => a
  | .move t => moveTick q now t a
  | .jog v => speedTick q now (signOf (v : Rat) * (min v.natAbs q.vm : Nat)) a
  | .gear p0 g0 => moveTick q now (s.gearDemand x p0 g0) a
  | .brake dec => brakeTick { q with dm := dec } a
  | .homing => if a.hset then brakeTick q a else speedTick q now (s.homeSpeed x a.hstep) a

/-- R343: the longest FILT, in ticks. -/
def longestFilt : Nat := 409200

/-- R333, R343: a change of POS by the motion is a rising edge of STEP, and is remembered for as long as a switch may ask for it. -/
def noteStep (now : Nat) (before : Int) (a : Axis) : Axis :=
  if a.pos.floor = before then a
  else { a with
    rise := now + 1
    track := (now, a.pos.floor) :: (a.track.takeWhile fun q => decide (now ≤ q.1 + longestFilt))
      ++ ((a.track.dropWhile fun q => decide (now ≤ q.1 + longestFilt)).take 1) }

/-- R343: POS in an earlier tick. -/
def posAt (a : Axis) (tick : Nat) : Int :=
  match a.track.find? fun q => decide (q.1 ≤ tick) with
  | some q => q.2
  | none => match a.track.getLast? with
    | some q => q.2
    | none => a.pos.floor

/-- One tick of an axis: the command that has crossed, the queued move that starts, and the motion (R330, R332, R333). -/
def axisTick (x : AxisIx) (s : State) : State :=
  let s := (s.crossCommand x).beginQueued x
  let now := s.tick + 1
  let before := s.axis[x].pos.floor
  let t := s.onAxis x fun _ => noteStep now before (s.profileTick x now)
  let u := t.count (6 * 64 + 16 + x.1) (t.axis[x].pos.floor - before).natAbs
  if u.atRest x now then u.comeToRest x else u

/-! ## Switches (R340, R342, R343) -/

/-- The direction in which an axis moves or is about to move. -/
def motionDir (s : State) (x : AxisIx) : Rat :=
  let a := s.axis[x]
  if a.vel ≠ 0 then signOf a.vel
  else match a.motion with
    | .move t => signOf ((t : Rat) - a.pos)
    | .jog v => signOf (v : Rat)
    | .gear p0 g0 => signOf (s.gearDemand x p0 g0 - a.pos)
    | _ => 0

/-- R340: the deceleration of a limit trip: EDEC, or at once when it is 0. -/
def limitDec (s : State) (x : AxisIx) : Option Nat := if s.axEdec x = 0 then none else some (s.axEdec x)

/-- Brake within a step of homing, or cease when the deceleration is none. -/
def homeBrake (dec : Option Nat) (h : Nat) (a : Axis) : Axis :=
  let b := match dec with
    | some d => brake a d
    | none => cease a
  { b with hstep := h, motion := if b.motion = .rest then .homing else b.motion, kept := none, remain := 0 }

/-- R342: what a switch that has changed does to a homing axis. -/
def homeSwitch (x : AxisIx) (sw : Fin 3) (latch : Int) (s : State) : State :=
  let a := s.axis[x]
  let isRef := decide (sw = s.homeRef x)
  let on := a.sw[sw]
  let dm := s.axDmax x
  let ahead := s.homeAhead x
  let behind : Fin 3 := if s.homePos x then 1 else 0
  match a.hstep with
  | 1 =>
    if isRef && on then s.onAxis x (homeBrake (some dm) 3)
    else if on && decide (sw = ahead) then s.onAxis x (homeBrake (s.limitDec x) 2)
    else s
  | 2 =>
    if isRef && on then s.onAxis x (homeBrake (some dm) 3)
    else if on && decide (sw = behind) then
      (s.axisFault x 5 0x0A0B (s.limitDec x)).onAxis x fun a => { a with homed := false }
    else s
  | 3 => if isRef && !on then s.onAxis x (homeBrake (some dm) 4) else s
  | 4 =>
    if isRef && on && !a.hwaitZ && decide (a.motion = .homing) then
      if s.homeZ x then s.onAxis x fun a => { a with hwaitZ := true }
      else s.onAxis x fun a => { homeBrake (some dm) 4 { a with hlatch := latch } with hset := true }
    else s
  | _ => s

/-- R340: both limits are active together. -/
def bothLimits (x : AxisIx) (s : State) : State :=
  if s.axis[x].sw[0] ∧ s.axis[x].sw[1] then s.axisFault x 6 0x0A05 none else s

/-- R340: the faults that the switches' levels raise on a running axis. -/
def limitFaults (x : AxisIx) (s : State) : State :=
  let a := s.axis[x]
  if a.sw[0] ∧ a.sw[1] then s.bothLimits x
  else if a.hstep = 0 ∧ limitTowards a (s.motionDir x) then s.axisFault x 2 0x0A05 (s.limitDec x)
  else s

/-- R337, R340: a geared axis whose lag exceeds LAG_MAX. -/
def lagFault (x : AxisIx) (s : State) : State :=
  let m := s.fld (aMot x.1 0x2C) 15 0
  match s.gearLag x with
  | some l => if m ≠ 0 ∧ (m : Rat) < absOf l then s.axisFault x 3 0x0A09 (some (s.axDmax x)) else s
  | none => s

/-- One tick of a running axis: its motion, and then the limits and the lag as they now lie (R333, R337, R340). -/
def axisStep (x : AxisIx) (s : State) : State :=
  let t := s.axisTick x
  if t.axisRuns x then (t.limitFaults x).lagFault x else t

/-- R339: the deviation lies beyond the window. -/
def stalled (s : State) (x : AxisIx) : Bool :=
  s.fbit (aMot x.1 0) 27 &&
    decide ((s.fld (aMot x.1 0x28) 31 16 : Rat) < absOf (s.axis[x].encpos - s.axis[x].pos.floor * s.axEncRatio x))

end State

/-! ## The commands -/

/-- R331: MOVE_ABS. -/
def execMoveAbs (x : AxisIx) (s : State) : Result :=
  .next (if s.hostUp then (s.hostIn 4).commandNow x 0x10000000 else s)
/-- R331: MOVE_REL. -/
def execMoveRel (x : AxisIx) (s : State) : Result :=
  .next (if s.hostUp then (s.hostIn 4).commandNow x 0x20000000 else s)
/-- R331: JOG. -/
def execJog (x : AxisIx) (s : State) : Result :=
  .next (if s.hostUp then (s.hostIn 4).commandNow x 0x30000000 else s)
/-- R331, R336: GEAR. -/
def execGear (x : AxisIx) (s : State) : Result :=
  .next (if s.hostUp then (s.hostIn 4).commandNow x 0x40000000 else s)
/-- R331, R341: STOP. -/
def execStop (x : AxisIx) (s : State) : Result :=
  .next (if s.hostUp then (s.hostIn 4).commandNow x 0x50000000 else s)
/-- R331, R341: RESUME. -/
def execResume (x : AxisIx) (s : State) : Result :=
  .next (if s.hostUp then (s.hostIn 4).commandNow x 0x60000000 else s)
/-- R331, R342: HOME. -/
def execHome (x : AxisIx) (s : State) : Result :=
  .next (if s.hostUp then (s.hostIn 4).commandNow x 0x70000000 else s)
/-- R331: SET_POS. -/
def execSetPos (x : AxisIx) (s : State) : Result :=
  .next (if s.hostUp then (s.hostIn 4).commandNow x 0x80000000 else s)
/-- R331, R341: QUICK_STOP. -/
def execQuickStop (x : AxisIx) (s : State) : Result :=
  .next (if s.hostUp then (s.hostIn 4).commandNow x 0x90000000 else s)
/-- R331, R340: CLEAR. -/
def execClear (x : AxisIx) (s : State) : Result :=
  .next (if s.hostUp then (s.hostIn 4).commandNow x 0xA0000000 else s)

/-- R330, R332: a CMD write with QUEUE set holds a move. -/
def execQueueMove (x : AxisIx) (v : Word) (s : State) : Result :=
  .next (if s.hostUp then (s.hostIn 4).commandNow x (v ||| 0x08000000) else s)

/-- R333, R341, R342: the axis comes to rest. -/
def execAxisAtRest (x : AxisIx) (s : State) : Result := .next (if s.atRest x s.tick then s.comeToRest x else s)

/-- R338: an accepted transition of an axis encoder; a quadrature error is class C. -/
def execAxisEncoderTransition (x : AxisIx) (a b : Bool) (s : State) : Result :=
  let o := s.axis[x]
  let t := s.onAxis x fun q => { q with a := a, b := b }
  .next (if !s.up then t
    else if quadError o.a o.b a b then (t.onAxis x fun q => { q with qerr := q.qerr + 1 }).errorUnit 0x0801 .c (unitAxis x) 0 0x0E
    else t.onAxis x fun q => { q with encpos := q.encpos + quadStep o.a o.b a b })

/-- R338, R342: an accepted rising edge of ENCZ. -/
def execAxisEncoderZEdge (x : AxisIx) (s : State) : Result :=
  .next (if !s.up then s else s.onAxis x fun a =>
    let b := { a with encz := a.encpos }
    if b.hwaitZ then
      { State.homeBrake (some (s.axDmax x)) 4 { b with hlatch := b.pos.floor } with hset := true }
    else b)

/-- R339, R340: the deviation has stayed beyond the window for DEV_TIME. -/
def execStallDetect (x : AxisIx) (s : State) : Result :=
  .next (if s.axisRuns x && s.stalled x then s.axisFault x 1 0x0A08 none else s)

/-- R340, R342, R343: a switch input has held a level for `held` ticks: a level that it has held for FILT is accepted, and the
position latched is POS at the first tick of the run. -/
def execSwitchChange (x : AxisIx) (sw : Fin 3) (level : Bool) (held : Nat) (s : State) : Result :=
  let on := decide (level = s.fbit (aMot x.1 0) (26 - sw.1))
  if !s.up || decide (held < 400 * s.fld (aMot x.1 0) 23 14) || decide (on = s.axis[x].sw[sw]) then .next s
  else
    let t := s.onAxis x fun a => { a with sw := a.sw.set sw.1 on sw.2 }
    if !s.axisRuns x then .next t
    else
      let u := t.bothLimits x
      let u := if 1 ≤ u.axis[x].hstep then u.homeSwitch x sw (State.posAt s.axis[x] (s.tick - held)) else u
      .next (u.limitFaults x)

end Sys2Proof.Machine
end

