-- ==== Sys2Proof/Machine/Dma.lean ====
section
/-!
DEFINITION. The DMA engine's prepared channels (R431 to R439): their control, descriptors, beats through
the byte funnel, index tables and faults. Pool channels carry ring entries (Machine/Entries.lean).
-/
namespace Sys2Proof.Machine

/-- Fields of a descriptor (R433). -/
def dLen (d : Descriptor) : Nat := fieldAt d 0 4
def dCtrl (d : Descriptor) : Nat := fieldAt d 4 4
def dSrc (d : Descriptor) : Nat := fieldAt d 8 8
def dDst (d : Descriptor) : Nat := fieldAt d 16 8
def dNext (d : Descriptor) : Nat := fieldAt d 24 8
/-- R433: host bulk data uses No-Snoop. -/
def dNs (d : Descriptor) : Bool := bit (dCtrl d) 5

/-- R433: no reserved bit is set and LENGTH is not 0. -/
def dForm (d : Descriptor) : Bool := decide (dLen d ≠ 0) && decide (bits (dCtrl d) 15 8 = 0) && decide (bits (dCtrl d) 3 2 = 0)

/-- A transfer after `n` bytes of its first run have moved. -/
def Transfer.move (n : Nat) (x : Transfer) : Transfer :=
  let runs := match x.runs with
    | [] => []
    | r :: rest => if r.2.1 ≤ n then rest else (r.1 + n, r.2.1 - n, r.2.2) :: rest
  { x with done := x.done + n, runs := runs }

namespace State

/-- A prepared channel (R431). -/
def prepared (s : State) (ch : DmaIx) : Bool := s.fbit (aDma ch.1 0) 31

/-- R433: a range of usable spool a prepared channel may read. -/
def mayRead (_s : State) (a n : Nat) : Bool := decide (a + n ≤ spoolSize)
/-- R433: a range a prepared channel may write: outside the spool ring and the device area. -/
def mayWrite (s : State) (a n : Nat) : Bool :=
  decide (a + n ≤ deviceArea) &&
    (decide (a + n ≤ s.ringBase) || decide (s.ringBase + 64 * s.ringUnits ≤ a))

/-- R439: the code of a channel fault. -/
def dmaCode (cause : Nat) : Code :=
  match cause with
  | 1 => 0x0F01 | 2 => 0x0105 | 3 => 0x0104 | 4 => 0x0D05 | 5 => 0x0F02 | 6 => 0x0F03 | _ => 0x0F04

/-- R439: a prepared channel halts with a cause and an address. -/
def dmaHalt (ch : DmaIx) (cause addr : Nat) (s : State) : State :=
  (s.onDmaCh ch fun c => { c with state := 5, fault := cause, faultAddr := addr, xfer := none }).errorUnit
    (dmaCode cause) .c unitNone 0 0x13

/-- R431, R432: a prepared channel starts its chain. -/
def dmaStart (ch : DmaIx) (s : State) : State :=
  s.onDmaCh ch fun c => { c with
    state := 2, hops := 0, desc := s.rd64 (aDma ch.1 0x10), descSpool := s.fbit (aDma ch.1 0) 30, xfer := none
    age := s.tick }

/-- R310, R434: Meridian action 0x04. -/
def dmaAction (ch : DmaIx) (s : State) : State :=
  if s.prepared ch && decide (s.dma.ch[ch].state = 1) then s.dmaStart ch
  else s.errorUnit 0x0F05 .c unitNone 0 0x13

/-- R434: the last write of the chain has been issued. -/
def chainEnded (c : DmaChan) : Bool :=
  match c.xfer with
  | some x => x.last && x.runs.isEmpty
  | none => false

/-- R434: the states in which a CTRL write is refused. -/
def dmaCtrlRefused (s : State) (ch : DmaIx) (v : Word) : Bool :=
  let st := s.dma.ch[ch].state
  !s.prepared ch || (v.getLsbD 31 && !decide (st = 0 ∨ st = 1)) || (v.getLsbD 30 && !decide (st = 0))

/-- R434: a write of DMA_CHn_CTRL: each bit is judged by the state at the write. -/
def writeDmaCtrl (ch : DmaIx) (v : Word) (s : State) : State :=
  if s.dmaCtrlRefused ch v then s.refuseWrite (aDma ch.1 4) v
  else
    let st := s.dma.ch[ch].state
    let t := if v.getLsbD 31 then s.dmaStart ch
      else if v.getLsbD 30 then s.onDmaCh ch fun c => { c with state := 1 } else s
    let t := if v.getLsbD 29 && decide (t.dma.ch[ch].state = 1 ∨ t.dma.ch[ch].state = 2) && !chainEnded t.dma.ch[ch] then
        t.onDmaCh ch fun c => { c with state := 4, xfer := none } else t
    if v.getLsbD 28 && decide (3 ≤ st) then t.onDmaCh ch fun c => { c with state := 0, fault := 0 } else t

/-! ## Descriptors (R433, R437) -/

/-- Read 32 bytes of the spool as a descriptor; the code of FAULT when it cannot be read. -/
def spoolDescriptor (a : Nat) (s : State) : State × Except Nat Descriptor :=
  if !s.mayRead a 32 then (s, .error 5)
  else
    let r := s.spoolGet 2 a 32
    (r.1, match r.2 with
      | some bs => .ok (BitVec.ofNat 256 (leNat bs))
      | none => .error 4)

/-- R437: the index table of a GATHER descriptor. -/
def descTable (d : Descriptor) (table : List IndexEntry) (s : State) : State × Except Nat (List IndexEntry) :=
  let n := bits (dCtrl d) 31 16 + 1
  if bit (dCtrl d) 0 then
    if !s.mayRead (dSrc d) (16 * n) then (s, .error 5)
    else
      let r := s.spoolGet 2 (dSrc d) (16 * n)
      (r.1, match r.2 with
        | some bs => .ok ((List.range n).map fun i => BitVec.ofNat 128 (leAt bs (16 * i) 16))
        | none => .error 4)
  else ((s.hostLoad (dNs d) (dSrc d) (16 * n)).hostIn (16 * n), .ok ((List.range n).map fun i => table.getD i 0))

/-- The source runs of a descriptor, or the FAULT that halts it before a byte moves (R433, R437). -/
def descRuns (d : Descriptor) (table : List IndexEntry) (s : State) : State × Except Nat (List (Nat × Nat × Bool)) :=
  if !dForm d then (s, .error 6)
  else if bit (dCtrl d) 1 && !s.mayWrite (dDst d) (dLen d) then (s, .error 5)
  else if bit (dCtrl d) 4 then
    let g := s.descTable d table
    match g.2 with
    | .error c => (g.1, .error c)
    | .ok l =>
      if !l.all (ixForm false) || decide (ixSum l ≠ dLen d) then (g.1, .error 6)
      else if l.any fun x => decide (ixKind x = 2) && !s.mayRead (ixAddr x) (ixLen x) then (g.1, .error 5)
      else (g.1, .ok (l.map fun x => (ixAddr x, ixLen x, decide (ixKind x = 2))))
  else if bit (dCtrl d) 0 && !s.mayRead (dSrc d) (dLen d) then (s, .error 5)
  else (s, .ok [(dSrc d, dLen d, bit (dCtrl d) 0)])

/-- A fetched descriptor is taken into execution, or halts its channel. -/
def takeDescriptor (ch : DmaIx) (d : Descriptor) (table : List IndexEntry) (s : State) : State :=
  let t := s.onDmaCh ch fun c => { c with hops := satTo 16777215 (c.hops + 1) }
  let r := t.descRuns d table
  match r.2 with
  | .error c => r.1.dmaHalt ch c s.dma.ch[ch].desc
  | .ok runs =>
    let x : Transfer :=
      { len := dLen d, dst := dDst d, dstSpool := bit (dCtrl d) 1, last := bit (dCtrl d) 7, next := dNext d
        nextSpool := bit (dCtrl d) 6, runs := runs, done := 0, ns := dNs d }
    (r.1.onDmaCh ch fun c => { c with xfer := some x }).forEach (runs.filter fun q => !q.2.2) fun q =>
      hostLoad (dNs d) q.1 q.2.1

/-- A prepared channel awaits its next descriptor. -/
def awaitsDescriptor (s : State) (ch : DmaIx) : Bool :=
  let c := s.dma.ch[ch]
  s.prepared ch && decide (c.state = 2) && c.xfer.isNone

/-! ## Beats (R432, R435, R436) -/

/-- R155: the spool is in self-refresh under L2. -/
def spoolAsleep (s : State) : Bool := decide (s.sys.lpCur = 2)

/-- A channel has a beat to move: a prepared channel of its descriptor, a pool channel of its entry's bulk data. -/
def hasBeat (s : State) (ch : DmaIx) : Bool :=
  let c := s.dma.ch[ch]
  decide (c.state = 2) &&
    if s.prepared ch then match c.xfer with
      | some x => (match x.runs with
        | [] => false
        | r :: _ => (s.linkOk || (r.2.2 && x.dstSpool)) && !(s.spoolAsleep && (r.2.2 || x.dstSpool)))
      | none => false
    else c.owner.isSome && decide (0 < c.left) && s.linkOk && !s.spoolAsleep

/-- R432: the channel that the next beat is granted to. -/
def beatChannel (s : State) : Option DmaIx :=
  let l := (all 32).filter s.hasBeat
  let top := l.foldl (fun m ch => max m (s.dmaClass ch)) 0
  let ptr := s.dma.ptr.toList.getD top 0
  (arbitrate 32 ptr ((l.filter fun ch => decide (s.dmaClass ch = top)).map fun ch =>
    (ch.1, s.dma.ch[ch].age, 0))).bind (fin? 32)

/-- R435: the bytes of the next beat: up to the next 64-byte boundary of the destination, within the run. -/
def beatLen (x : Transfer) (run : Nat) : Nat := min (64 - (x.dst + x.done) % 64) run

/-- R433, R439: after a beat, a descriptor that is not the last and has moved all its bytes is followed by
the next one, unless the hop limit is reached. -/
def afterBeat (ch : DmaIx) (s : State) : State :=
  match s.dma.ch[ch].xfer with
  | none => s
  | some x =>
    if !x.runs.isEmpty || x.last then s
    else if s.fld aDmaCfg 31 12 ≤ s.dma.ch[ch].hops then s.dmaHalt ch 1 x.next
    else s.onDmaCh ch fun c => { c with desc := x.next, descSpool := x.nextSpool, xfer := none }

/-- Write the bytes of a beat at the destination; the flag is false when a partial spool write meets an
uncorrectable block (R410). -/
def beatWrite (x : Transfer) (bs : List Byte) (s : State) : State × Bool :=
  if x.dstSpool then s.spoolPut 2 (x.dst + x.done) bs
  else (s.hostStore x.ns (x.dst + x.done) bs, true)

/-- One beat of a channel; `host` is what host memory held. -/
def beat (ch : DmaIx) (host : List Byte) (s : State) : State :=
  match s.dma.ch[ch].xfer with
  | none => s
  | some x => match x.runs with
    | [] => s
    | r :: _ =>
      let n := beatLen x r.2.1
      let g := if r.2.2 then s.spoolGet 2 r.1 n else (s.hostIn n, some (slice host 0 n))
      match g.2 with
      | none => g.1.dmaHalt ch 4 s.dma.ch[ch].desc
      | some bs =>
        let w := g.1.beatWrite x bs
        if !w.2 then w.1.dmaHalt ch 4 s.dma.ch[ch].desc
        else ((w.1.onDmaCh ch fun c => { c with xfer := some (x.move n) }).countBeats ch n).afterBeat ch

/-- R432, R472: a beat granted to a channel pre-empts the one of a lower class that had the beat before it and has more. -/
def countPreempted (ch : DmaIx) (s : State) : State :=
  match s.dma.last with
  | some l =>
    if s.hasBeat l && decide (s.dmaClass l < s.dmaClass ch) then s.count (5 * 64 + 12 + s.dmaClass l) 1 else s
  | none => s

/-- R97, R432: one beat of a pool channel. Its bytes are those of its entry, and reach their place with the whole of it. -/
def poolBeat (ch : DmaIx) (s : State) : State :=
  let n := min 64 s.dma.ch[ch].left
  (s.onDmaCh ch fun c => { c with left := c.left - n }).countBeats ch n

end State

/-! ## The commands -/

/-- R434: a write of DMA_CHn_CTRL that sets GO. -/
def execDmaGo (ch : DmaIx) (v : Word) (s : State) : Result :=
  .next (if s.hostUp then (s.hostIn 4).writeDmaCtrl ch v else s)

/-- R434: a write of DMA_CHn_CTRL that sets READY. -/
def execDmaReady (ch : DmaIx) (v : Word) (s : State) : Result :=
  .next (if s.hostUp then (s.hostIn 4).writeDmaCtrl ch v else s)

/-- R434: a write of DMA_CHn_CTRL that sets ABORT. -/
def execDmaAbort (ch : DmaIx) (v : Word) (s : State) : Result :=
  .next (if s.hostUp then (s.hostIn 4).writeDmaCtrl ch v else s)

/-- R434: a write of DMA_CHn_CTRL that sets CLEAR. -/
def execDmaClear (ch : DmaIx) (v : Word) (s : State) : Result :=
  .next (if s.hostUp then (s.hostIn 4).writeDmaCtrl ch v else s)

/-- R433, R437, R439: a running prepared channel reads its next descriptor: from host memory (`d`), or from
the spool; `table` is what host memory held at SRC. -/
def execDescriptorFetch (ch : DmaIx) (d : Descriptor) (table : List IndexEntry) (s : State) : Result :=
  if !s.up || !s.awaitsDescriptor ch then .next s
  else if s.dma.ch[ch].descSpool then
    if s.spoolAsleep then .next s
    else
      let r := s.spoolDescriptor s.dma.ch[ch].desc
      match r.2 with
      | .error c => .next (r.1.dmaHalt ch c s.dma.ch[ch].desc)
      | .ok e => .next (r.1.takeDescriptor ch e table)
  else if !s.linkOk then .next s
  else .next ((((s.hostLoad false s.dma.ch[ch].desc 32).hostIn 32).count (5 * 64 + 4) 1).takeDescriptor ch d table)

/-- R432, R435, R436: one beat is granted and moved; `host` is what host memory held. -/
def execDmaBeat (host : List Byte) (s : State) : Result :=
  if !s.up then .next s
  else match s.beatChannel with
    | none => .next s
    | some ch =>
      let c := s.dmaClass ch
      let t := s.countPreempted ch
      .next ((if s.prepared ch then t.beat ch host else t.poolBeat ch).onDma fun d => { d with
        ptr := d.ptr.setIfInBounds c ((ch.1 + 1) % 32), last := some ch })

/-- R434: the last write of a chain has been issued: the channel is DONE, and posts E_DMA_DONE when EVT is set. -/
def execDmaChainDone (ch : DmaIx) (s : State) : Result :=
  if s.prepared ch && decide (s.dma.ch[ch].state = 2) && State.chainEnded s.dma.ch[ch] then
    let t := s.onDmaCh ch fun c => { c with state := 3, xfer := none }
    .next (if s.fbit (aDma ch.1 0) 27 then t.status 0x0F06 (BitVec.ofNat 64 ch.1) 0 0x13 else t)
  else .next s

end Sys2Proof.Machine
end

