-- ==== Sys2Proof/Machine/Inflate.lean ====
section
/-!
DEFINITION. The DEFLATE streams that a decompressor lane accepts (R161, R162): raw RFC 1951 streams, inflated
under the length guard of R167.
-/
namespace Sys2Proof.Machine

/-- How the inflation of a slice ends: with its output, as a malformed stream (R162), or at the byte that
would exceed the declared length (R167). The output so far is kept. -/
inductive Inflated where
  | done (out : List Byte) | malformed (out : List Byte) | expand (out : List Byte)
  deriving DecidableEq, Repr

/-- The bytes that an inflation has delivered. -/
def Inflated.out : Inflated → List Byte
  | .done o | .malformed o | .expand o => o

/-- The bits of a byte list, least significant first. -/
def streamBits (bs : List Byte) : List Bool := bs.flatMap fun b => (List.range 8).map fun i => b.getLsbD i

/-- An n-bit number from the stream, least significant bit first, and what follows. -/
def takeNum : Nat → List Bool → Option (Nat × List Bool)
  | 0, l => some (0, l)
  | _ + 1, [] => none
  | n + 1, b :: l => (takeNum n l).map fun q => (b2n b + 2 * q.1, q.2)

/-! ## Huffman codes -/

/-- RFC 1951: the first code of a length. -/
def firstCode (lens : List Nat) : Nat → Nat
  | 0 => 0
  | n + 1 => (firstCode lens n + if n = 0 then 0 else lens.count n) * 2

/-- The symbol of a code value of a length. -/
def symbolOf (lens : List Nat) (len code : Nat) : Option Nat :=
  let f := firstCode lens len
  if len = 0 ∨ code < f then none
  else ((List.range lens.length).filter fun i => decide (lens.getD i 0 = len))[code - f]?

/-- Read one symbol: at most 15 bits, most significant code bit first. -/
def readSymbol (lens : List Nat) : Nat → Nat → Nat → List Bool → Option (Nat × List Bool)
  | 0, _, _, _ => none
  | _ + 1, _, _, [] => none
  | fuel + 1, len, code, b :: l =>
    let c := 2 * code + b2n b
    match symbolOf lens (len + 1) c with
    | some s => some (s, l)
    | none => readSymbol lens fuel (len + 1) c l

/-- Read one symbol of a code. -/
def symbol (lens : List Nat) (l : List Bool) : Option (Nat × List Bool) := readSymbol lens 15 0 0 l

/-- The share of the code space that a code's lengths take, in 2^-15. -/
def kraft (lens : List Nat) : Nat := (lens.map fun n => if n = 0 then 0 else 2 ^ (15 - n)).sum
/-- The number of used codes. -/
def usedCodes (lens : List Nat) : Nat := lens.countP fun n => decide (n ≠ 0)

/-- R162: a literal/length code that a dynamic block may have. -/
def litOk (lens : List Nat) : Bool :=
  decide (kraft lens ≤ 32768) && (decide (kraft lens = 32768) || decide (usedCodes lens = 1))
    && decide (lens.getD 256 0 ≠ 0)
/-- R162: a distance code that a dynamic block may have. -/
def distOk (lens : List Nat) : Bool :=
  decide (kraft lens ≤ 32768) && (decide (kraft lens = 32768) || decide (usedCodes lens ≤ 1))

/-- The lengths of the fixed codes. -/
def fixedLit : List Nat :=
  List.replicate 144 8 ++ List.replicate 112 9 ++ List.replicate 24 7 ++ List.replicate 8 8
def fixedDist : List Nat := List.replicate 32 5

/-- The order of the code-length code's lengths. -/
def clOrder : List Nat := [16, 17, 18, 0, 8, 7, 9, 6, 10, 5, 11, 4, 12, 3, 13, 2, 14, 1, 15]

/-- Read `n` three-bit lengths. -/
def read3 : Nat → List Bool → Option (List Nat × List Bool)
  | 0, l => some ([], l)
  | n + 1, l => match takeNum 3 l with
    | none => none
    | some (v, l) => (read3 n l).map fun q => (v :: q.1, q.2)

/-- Read the literal/length and distance lengths, `want` in all. Symbol 16 with no length before it, and a repeat that runs
past the declared number, are in none of R162's cases; the stream is taken as malformed (DESIGN CHOICE, log entry 89). -/
def readLens (cl : List Nat) (want : Nat) : Nat → List Nat → List Bool → Option (List Nat × List Bool)
  | 0, _, _ => none
  | fuel + 1, acc, l =>
    if acc.length = want then some (acc, l)
    else if want < acc.length then none
    else match symbol cl l with
      | none => none
      | some (s, l) =>
        if s < 16 then readLens cl want fuel (acc ++ [s]) l
        else if s = 16 then
          match acc.getLast?, takeNum 2 l with
          | some p, some (v, l) => readLens cl want fuel (acc ++ List.replicate (3 + v) p) l
          | _, _ => none
        else
          match takeNum (if s = 17 then 3 else 7) l with
          | some (v, l) => readLens cl want fuel (acc ++ List.replicate ((if s = 17 then 3 else 11) + v) 0) l
          | none => none

/-- The code lengths of a dynamic block's header, when its codes are as R162 allows. -/
def dynamicCodes (l : List Bool) : Option (List Nat × List Nat × List Bool) :=
  match takeNum 5 l with
  | none => none
  | some (hlit, l) => match takeNum 5 l with
    | none => none
    | some (hdist, l) => match takeNum 4 l with
      | none => none
      | some (hclen, l) => match read3 (hclen + 4) l with
        | none => none
        | some (raw, l) =>
          let cl := (List.range 19).map fun s => raw.getD (clOrder.idxOf s) 0
          if kraft cl ≠ 32768 then none
          else match readLens cl (hlit + hdist + 258) (hlit + hdist + 259) [] l with
            | none => none
            | some (lens, l) =>
              let lit := lens.take (hlit + 257)
              let dist := lens.drop (hlit + 257)
              if litOk lit && distOk dist then some (lit, dist, l) else none

/-! ## Blocks -/

/-- Base and extra bits of length symbols 257 to 285, and of distance symbols 0 to 29. -/
def lengthTable : List (Nat × Nat) :=
  [(3, 0), (4, 0), (5, 0), (6, 0), (7, 0), (8, 0), (9, 0), (10, 0), (11, 1), (13, 1), (15, 1), (17, 1), (19, 2), (23, 2),
   (27, 2), (31, 2), (35, 3), (43, 3), (51, 3), (59, 3), (67, 4), (83, 4), (99, 4), (115, 4), (131, 5), (163, 5), (195, 5),
   (227, 5), (258, 0)]
def distTable : List (Nat × Nat) :=
  [(1, 0), (2, 0), (3, 0), (4, 0), (5, 1), (7, 1), (9, 2), (13, 2), (17, 3), (25, 3), (33, 4), (49, 4), (65, 5), (97, 5),
   (129, 6), (193, 6), (257, 7), (385, 7), (513, 8), (769, 8), (1025, 9), (1537, 9), (2049, 10), (3073, 10), (4097, 11),
   (6145, 11), (8193, 12), (12289, 12), (16385, 13), (24577, 13)]

/-- A number with a base and extra bits, by the row of its table. -/
def baseExtra (row : Option (Nat × Nat)) (l : List Bool) : Option (Nat × List Bool) :=
  match row with
  | none => none
  | some (base, extra) => (takeNum extra l).map fun q => (base + q.1, q.2)

/-- Copy `n` bytes from distance `d`; the output is kept newest first. -/
def copyBack (d : Nat) : Nat → List Byte → List Byte
  | 0, out => out
  | n + 1, out => copyBack d n (out.getD (d - 1) 0 :: out)

/-- How a block ends: at its end-of-block symbol, or as the slice does. -/
inductive BlockEnd where
  | more (out : List Byte) (rest : List Bool) | malformed (out : List Byte) | expand (out : List Byte)
  deriving DecidableEq, Repr

/-- The symbols of a compressed block, under the length guard. -/
def blockSymbols (limit : Nat) (lit dist : List Nat) : Nat → List Byte → List Bool → BlockEnd
  | 0, out, _ => .malformed out
  | fuel + 1, out, l => match symbol lit l with
    | none => .malformed out
    | some (s, l) =>
      if s < 256 then
        if out.length < limit then blockSymbols limit lit dist fuel (BitVec.ofNat 8 s :: out) l else .expand out
      else if s = 256 then .more out l
      else match baseExtra lengthTable[s - 257]? l with
        | none => .malformed out
        | some (n, l) => match symbol dist l with
          | none => .malformed out
          | some (q, l) => match baseExtra distTable[q]? l with
            | none => .malformed out
            | some (d, l) =>
              if limit < out.length + n then .expand out
              else if out.length < d then .malformed out
              else blockSymbols limit lit dist fuel (copyBack d n out) l

/-- The bytes of a stored block. -/
def storedBytes (limit : Nat) : Nat → List Byte → List Bool → BlockEnd
  | 0, out, l => .more out l
  | n + 1, out, l => match takeNum 8 l with
    | none => .malformed out
    | some (v, l) => if out.length < limit then storedBytes limit n (BitVec.ofNat 8 v :: out) l else .expand out

/-- A stored block, from the bit after its type. -/
def storedBlock (limit : Nat) (out : List Byte) (l : List Bool) : BlockEnd :=
  match takeNum 16 (l.drop (l.length % 8)) with
  | none => .malformed out
  | some (n, l) => match takeNum 16 l with
    | none => .malformed out
    | some (c, l) => if n + c = 65535 then storedBytes limit n out l else .malformed out

/-- One block, from the bit after BFINAL. -/
def block (limit : Nat) (out : List Byte) (l : List Bool) : BlockEnd :=
  match takeNum 2 l with
  | none => .malformed out
  | some (t, l) =>
    if t = 0 then storedBlock limit out l
    else if t = 1 then blockSymbols limit fixedLit fixedDist (l.length + 1) out l
    else if t = 2 then match dynamicCodes l with
      | none => .malformed out
      | some (lit, dist, l) => blockSymbols limit lit dist (l.length + 1) out l
    else .malformed out

/-- The blocks of a stream; the final one ends in the stream's last byte. -/
def blocks (limit : Nat) : Nat → List Byte → List Bool → Inflated
  | 0, out, _ => .malformed out.reverse
  | _ + 1, out, [] => .malformed out.reverse
  | fuel + 1, out, final :: l => match block limit out l with
    | .malformed o => .malformed o.reverse
    | .expand o => .expand o.reverse
    | .more o rest =>
      if final then if rest.length < 8 then .done o.reverse else .malformed o.reverse
      else blocks limit fuel o rest

/-- R472: the bits after BFINAL begin a dynamic block whose tables are built. -/
def buildsTables (l : List Bool) : Bool :=
  match takeNum 2 l with
  | some (2, l) => (dynamicCodes l).isSome
  | _ => false

/-- R472: the dynamic tables built while a stream's blocks are expanded. -/
def tableBuilds (limit : Nat) : Nat → List Byte → List Bool → Nat
  | 0, _, _ => 0
  | _ + 1, _, [] => 0
  | fuel + 1, out, final :: l =>
    let n := if buildsTables l then 1 else 0
    match block limit out l with
    | .more o rest => if final then n else n + tableBuilds limit fuel o rest
    | .malformed _ | .expand _ => n

/-- R161, R162, R167: inflate a slice whose declared length is `limit`. -/
def inflate (limit : Nat) (bs : List Byte) : Inflated := blocks limit (8 * bs.length + 1) [] (streamBits bs)

end Sys2Proof.Machine
end

