-- ==== Sys2Proof/Machine/Tables.lean ====
section
/-!
DEFINITION. The tables of TABLE_LOAD (R189 to R193, R212, R225, R226): their elements and defaults, the
staged copies, their checks, and the TABLE_LOAD entry.
-/
namespace Sys2Proof.Machine

/-! ## Defaults (R192, R212, R225, R226) -/

/-- Channel j takes column j, kind normal. -/
def mapDefault (j : Nat) : Nat := j
/-- The identity curve: P[i] = 1,024 × i in 15-bit fields. -/
def curveDefault (_ : Nat) : Nat := (List.range 17).foldl (fun a i => a + 1024 * i * 2 ^ (15 * i)) 0
/-- An empty nozzle-out list. -/
def outDefault (_ : Nat) : Nat := 0
/-- Every threshold is 0x8000. -/
def arrayDefault (_ : Nat) : Nat := 32768
/-- Pass 0's mask is all ones, every other one zero; key: pass × 64 + element. -/
def maskDefault (i : Nat) : Nat := if i < 64 then 18446744073709551615 else 0
/-- Entry k of a level-to-drop-code table is k. -/
def levelDefault (i : Nat) : Nat := i

/-! ## Shapes (R189) -/

/-- Bytes of an element of a table code. -/
def elemBytes (table : Nat) : Nat :=
  match table with
  | 1 => 4 | 2 => 32 | 3 => 4 | 4 => 2 | 5 => 1 | _ => 8
/-- Elements of a table code. -/
def elemCount (table : Nat) : Nat :=
  match table with
  | 1 => 65536 | 2 => 65536 | 3 => 2048 | 4 => 262144 | 5 => 16 | _ => 64
/-- Units and sub-tables of a table code. -/
def unitCount (table : Nat) : Nat := if table = 5 then 32 else 8
def subCount (table : Nat) : Nat := if table = 4 then 16 else if table = 6 then 64 else 1

namespace BarTables

/-- Element `i` of sub-table `sub` of a bar's table. -/
def elem (t : BarTables) (table sub i : Nat) : Nat :=
  match table with
  | 1 => tget mapDefault t.map i
  | 2 => tget curveDefault t.curve i
  | 3 => tget outDefault t.out i
  | 4 => tget arrayDefault t.array (sub * 262144 + i)
  | _ => tget maskDefault t.mask (sub * 64 + i)

/-- The listed elements of sub-table `sub` of a bar's table: those that differ from the default. -/
def listed (t : BarTables) (table sub : Nat) : Table Nat :=
  match table with
  | 1 => t.map
  | 2 => t.curve
  | 3 => t.out
  | 4 => t.array.filter fun q => decide (q.1 / 262144 = sub)
  | _ => t.mask.filter fun q => decide (q.1 / 64 = sub)

/-- All elements of sub-table `sub` of a bar's table. -/
def elems (t : BarTables) (table sub : Nat) : List Nat :=
  match table with
  | 1 => texpand mapDefault t.map 0 65536
  | 2 => texpand curveDefault t.curve 0 65536
  | 3 => texpand outDefault t.out 0 2048
  | 4 => texpand arrayDefault t.array (sub * 262144) 262144
  | _ => texpand maskDefault t.mask (sub * 64) 64

/-- Write elements of a bar's table from element `first` on. -/
def put (t : BarTables) (table sub first : Nat) (l : List Nat) : BarTables :=
  match table with
  | 1 => { t with map := tputs mapDefault t.map first l }
  | 2 => { t with curve := tputs curveDefault t.curve first l }
  | 3 => { t with out := tputs outDefault t.out first l }
  | 4 => { t with array := tputs arrayDefault t.array (sub * 262144 + first) l }
  | _ => { t with mask := tputs maskDefault t.mask (sub * 64 + first) l }

end BarTables

namespace State

/-- An element of a staged table. -/
def stagedElem (s : State) (table unit sub i : Nat) : Nat :=
  if table = 5 then match fin? 32 unit with
    | some p => tget levelDefault s.se.stagedLevels[p] i
    | none => 0
  else match fin? 8 unit with
    | some k => s.bar[k].staged.elem table sub i
    | none => 0

/-- Write elements of a staged table. -/
def stagePut (table unit sub first : Nat) (l : List Nat) (s : State) : State :=
  let s := s.stageWritten
  if table = 5 then match fin? 32 unit with
    | some p => s.onSe fun e => { e with stagedLevels := upd e.stagedLevels p fun t => tputs levelDefault t first l }
    | none => s
  else match fin? 8 unit with
    | some k => s.onBar k fun b => { b with staged := b.staged.put table sub first l }
    | none => s

/-! ## Table checks (R191) -/

/-- The context word of a staged table's check. -/
def tableContext (table unit sub : Nat) : Nat := sub * 2 ^ 32 + unit * 2 ^ 24 + table * 2 ^ 16 + 0x24

/-- R191: the check of a whole table with these elements. -/
def checkOf (table unit sub : Nat) (l : List Nat) : Word :=
  foldedCrc (tableContext table unit sub) (l.flatMap fun v => leBytes (elemBytes table) v)

/-- The key under which a table's check is kept. -/
def checkKey (table unit sub : Nat) : Nat := table * 65536 + unit * 256 + sub

/-- The elements of a default table. -/
def defaultElems (table sub : Nat) : List Nat :=
  if table = 5 then (List.range 16).map levelDefault else BarTables.reset.elems table sub

/-- The elements of a staged table, and those listed. -/
def stagedElems (s : State) (table unit sub : Nat) : List Nat :=
  if table = 5 then match fin? 32 unit with
    | some p => texpand levelDefault s.se.stagedLevels[p] 0 16
    | none => []
  else match fin? 8 unit with
    | some k => s.bar[k].staged.elems table sub
    | none => []
def stagedListed (s : State) (table unit sub : Nat) : Table Nat :=
  if table = 5 then match fin? 32 unit with
    | some p => s.se.stagedLevels[p]
    | none => []
  else match fin? 8 unit with
    | some k => s.bar[k].staged.listed table sub
    | none => []

/-- The staged table agrees with its check: the one loaded with it, or else that of the default table. -/
def checkOk (s : State) (table unit sub : Nat) : Bool :=
  match tget (fun _ => none) s.se.checks (checkKey table unit sub) with
  | some w => decide (checkOf table unit sub (s.stagedElems table unit sub) = w)
  | none => (s.stagedListed table unit sub).isEmpty
    || decide (checkOf table unit sub (s.stagedElems table unit sub) = checkOf table unit sub (defaultElems table sub))

/-- R192, R396: the staging area is filled with the default tables and their checks. -/
def stageDefaults (s : State) : State :=
  (s.stageWritten.onBars fun v => v.map fun b => { b with staged := BarTables.reset }).onSe fun e =>
    { e with stagedLevels := Vector.replicate 32 [], checks := [] }

end State

/-! ## TABLE_LOAD (R189, R190) -/

/-- The fields of a TABLE_LOAD entry. -/
def tlTable (e : Entry) : Nat := fieldAt e 24 1
def tlUnit (e : Entry) : Nat := fieldAt e 25 1
def tlSub (e : Entry) : Nat := fieldAt e 26 1
def tlFirst (e : Entry) : Nat := fieldAt e 28 4

def formTableLoad (e : Entry) : Bool :=
  let t := tlTable e
  let n := fieldAt e 4 4
  fieldsOnly e [(4, 12), (24, 3), (28, 8), (56, 4)] && decide (1 ≤ t ∧ t ≤ 6) && decide (tlUnit e < unitCount t)
    && decide (tlSub e < subCount t) && decide (tlFirst e < 2 ^ 24) && decide (n % elemBytes t = 0)
    && decide (tlFirst e + n / elemBytes t ≤ elemCount t)

/-- R189: the context word of a TABLE_LOAD payload. -/
def tlContext (e : Entry) : Nat :=
  tlFirst e * 2 ^ 40 + tlSub e * 2 ^ 32 + tlUnit e * 2 ^ 24 + tlTable e * 2 ^ 16 + 0x21

/-- R453: the two copies of a CRC unit disagree. -/
def State.crcUnitFault (s : State) : State := s.classD 0x1006 unitNone 0 0x15

/-- R190, R191: a checked payload is staged, and TCHECK becomes the table's check. -/
def State.tableLoad (r : RingIx) (e : Entry) (payload : Payload) (s : State) : State :=
  let n := fieldAt e 4 4
  let bs := slice payload.bytes 0 n
  let w := elemBytes (tlTable e)
  if !s.linkOk then s.failBulk r e 0x0104 2
  else
    let t := (((s.hostLoad (entryNs e) (fieldAt e 8 8) n).hostIn n).count (5 * 64 + 4) 1).when payload.unitFault State.crcUnitFault
    if foldedCrc (tlContext e) bs ≠ BitVec.ofNat 32 (fieldAt e 56 4) then t.failBulk r e 0x0103 8
    else
      let l := leWords w (n / w) bs
      let t := (t.stagePut (tlTable e) (tlUnit e) (tlSub e) (tlFirst e) l).onSe fun u => { u with
        checks := tput (fun _ => none) u.checks (State.checkKey (tlTable e) (tlUnit e) (tlSub e))
          (some (BitVec.ofNat 32 (fieldAt e 32 4))) }
      t.doneBulk r e 0 0 8

/-- R189 to R191, R453: TABLE_LOAD. -/
def execTableLoad (r : RingIx) (payload : Payload) (s : State) : Result :=
  .next (s.runEntry r (fun e => decide (opcode e = 7)) formTableLoad fun e t =>
    t.withPool r e (State.tableLoad r e payload))

end Sys2Proof.Machine
end

