-- ==== Sys2Proof/Machine/Trims.lean ====
section
/-!
DEFINITION. The live gain trims of a bar (R21, R199 to R203): the gain of a channel in a row, the commit of a
batch, the start of an epoch, and what a bar restart leaves.
-/
namespace Sys2Proof.Machine

/-- R199: unity, which an unlisted channel holds. The manual gives the trim slots no reset value: every channel of every
slot is unity after a cold and a warm reset (DESIGN CHOICE, log entry 89). -/
def trimUnity (_ : Nat) : Nat := 32768

/-- R200: the gain that moves linearly from `f` to `t` over the epoch of 2^l rows that holds row n. -/
def trimLine (f t l n : Nat) : Int := (f : Int) + Int.fdiv (((t : Int) - f) * (n % 2 ^ l : Nat)) (2 ^ l : Nat)

/-- R200: the trim of channel j in row n: by the slot pair of the row's epoch. -/
def Trims.gain (t : Trims) (l n j : Nat) : Int :=
  if n / 2 ^ l + 1 < t.epoch then trimLine (tget trimUnity t.prevStart j) (tget trimUnity t.prevTarget j) l n
  else trimLine (tget trimUnity t.start j) (tget trimUnity t.target j) l n

/-- R202: the start of the next epoch: a batch committed for it becomes the targets; else every trim holds. -/
def Trims.boundary (t : Trims) : Trims :=
  let u := { t with prevStart := t.start, prevTarget := t.target, start := t.target, epoch := t.epoch + 1 }
  if t.committed = some t.epoch then { u with target := t.pend, committed := none, batch := false } else u

/-- R202: a batch committed for epoch e; where the start of e has been taken and no row of it computed, it becomes the
target slot of e at once. -/
def Trims.commit (e : Nat) (t : Trims) : Trims :=
  if e + 1 = t.epoch then { t with target := t.pend, committed := none, batch := false } else { t with committed := some e }

/-- R203: at a bar restart all three slots take the current target; the bar's next row is `n`. -/
def Trims.settle (l n : Nat) (t : Trims) : Trims :=
  { t with start := t.target, pend := t.target, prevStart := t.target, prevTarget := t.target
           epoch := (n + 2 ^ l - 1) / 2 ^ l, committed := none, batch := false }

namespace State

/-- EPOCH_LOG2 and MAX_STEP of a bar (R201). -/
def epochLog2 (s : State) (k : BarIx) : Nat := s.fld (aSeTrim k.1) 4 0
def maxStep (s : State) (k : BarIx) : Nat := s.fld (aSeTrim k.1) 31 16

/-- R202: PEND_OK: no row of the epoch before the one in use is still to fire. -/
def pendOk (s : State) (k : BarIx) : Bool :=
  let b := s.bar[k]
  decide (b.grow ≤ b.pass ∨ (b.trims.epoch - 1) * 2 ^ s.epochLog2 k ≤ b.pass)

/-- R201: EPOCH: the epoch of the bar's oldest unfired row. -/
def epochNow (s : State) (k : BarIx) : Nat := s.bar[k].pass / 2 ^ s.epochLog2 k

/-- The bar's next row to be computed begins an epoch whose start has not been taken. -/
def epochDue (s : State) (k : BarIx) : Bool := decide (s.bar[k].trims.epoch * 2 ^ s.epochLog2 k ≤ s.bar[k].grow)

/-- R202: take the start of an epoch that is due. -/
def trimBoundary (k : BarIx) (s : State) : State :=
  if s.epochDue k then s.onBar k fun b => { b with trims := b.trims.boundary } else s

/-- R202: take the starts of all epochs that are due, up to that of the row computed next. -/
def trimBoundaries (k : BarIx) (s : State) : State :=
  s.forEach (List.range (s.bar[k].grow / 2 ^ s.epochLog2 k + 1 - s.bar[k].trims.epoch)) fun _ => trimBoundary k

/-- R202: a commit of the pending batch for epoch e: accepted while the bar has computed no row of it. -/
def trimCommit (k : BarIx) (e : Nat) (s : State) : State :=
  if !s.bar[k].trims.batch then s
  else if s.bar[k].grow ≤ e * 2 ^ s.epochLog2 k then
    (s.onBar k fun b => { b with trims := b.trims.commit e }).count (2 * 64 + 8 * k.1 + 5) 1
  else s.onBar k fun b => { b with trims := { b.trims with refusals := b.trims.refusals + 1 } }

/-- The earliest epoch of which no row is computed. -/
def freshEpoch (s : State) (k : BarIx) : Nat := (s.bar[k].grow + 2 ^ s.epochLog2 k - 1) / 2 ^ s.epochLog2 k

/-- R310: action 0x06. -/
def commitAction (k : BarIx) (s : State) : State := s.trimCommit k (s.freshEpoch k)

end State

/-- R200, R202: the bar computes the first row of an epoch. -/
def execTrimEpochBoundary (k : BarIx) (s : State) : Result :=
  .next (if s.barRuns k then s.trimBoundary k else s)

/-- R202: firmware commits the pending batch for an epoch. -/
def execTrimTargetCommit (k : BarIx) (epoch : Nat) (s : State) : Result :=
  .next (if s.up then s.trimCommit k epoch else s)

end Sys2Proof.Machine
end

