-- ==== Sys2Proof/Machine/Screen.lean ====
section
/-!
DEFINITION. The arithmetic of one row of one slot (R182 to R229): samples of a band, the overlay merge, the
channel map, curves, trims, redistribution, and the screening into drop codes. Drop codes depend on the job data, the
configuration and the row alone (R19): nothing here reads a time, a position or an order of fetches.
-/
namespace Sys2Proof.Machine

/-! ## Samples (R157, R183) -/

/-- R183: an 8-bit sample widened to 14 bits. -/
def widen8 (b : Nat) : Nat := b * 64 + b / 4
/-- R183: the sample in a 16-bit container. -/
def take16 (w : Nat) : Nat := w / 4

/-- R157, R183: the sample of logical column `c` in band row `r`, from the slices' output. -/
def bandSample (f : Byte) (outs : List (Array Byte)) (r c : Nat) : Nat :=
  let sr := r / (1 + fmtYrep f)
  let sc := c / (1 + fmtXrep f)
  let per := fmtCols f / fmtSlices f
  let o := outs.getD (sc / per) #[]
  let at_ := fun i => (o.getD i 0).toNat
  let off := sr * per + sc % per
  if fmtWide f = 1 then take16 (at_ (2 * off) + 256 * at_ (2 * off + 1)) else widen8 (at_ off)

/-- A plane's source for a row: the outputs of its band's slices, its format, and the row within the band. -/
structure PlaneRow where
  outs   : List (Array Byte)
  format : Byte
  row    : Nat

/-! ## Merge (R184, R185) -/

/-- R184: a patch has samples in a sheet row of a bar. -/
def Patch.inRow (q : Patch) (sheet : BitVec 32) (k : BarIx) (row : Nat) : Bool :=
  decide (q.sheet = sheet) && decide (q.bar = k) && decide (q.firstRow ≤ row ∧ row < q.firstRow + q.rows)

/-- R184: a column lies in a patch. -/
def Patch.inCol (q : Patch) (c : Nat) : Bool := decide (q.firstCol ≤ c ∧ c < q.firstCol + q.cols)

/-- The patch's sample for a column in a sheet row. -/
def Patch.sample (q : Patch) (row c : Nat) : Nat := q.samples.getD ((row - q.firstRow) * q.cols + (c - q.firstCol)) 0

/-- R184: the merged contone of a column: the colour plane, the overlay planes by overprint, then the patches of the row,
each within its own columns. -/
def mergedContone (colour : Option PlaneRow) (overlays : List PlaneRow) (patches : List Patch) (row c : Nat) : Nat :=
  let base := match colour with
    | some p => bandSample p.format p.outs p.row c
    | none => 0
  let v := overlays.foldl (fun v p => max v (bandSample p.format p.outs p.row c)) base
  patches.foldl (fun v q =>
    if !q.inCol c then v else if q.overprint then max v (q.sample row c) else q.sample row c) v

/-! ## Map, curve, trim (R194 to R199) -/

def mapKind (e : Nat) : Nat := bits e 31 30
def mapBlend (e : Nat) : Nat := bits e 29 24
def mapGroup (e : Nat) : Nat := bits e 23 16
def mapColumn (e : Nat) : Nat := bits e 15 0

/-- R195: what a channel carries of its column's sample. -/
def blend (e s : Nat) : Nat :=
  match mapKind e with
  | 0 => s
  | 1 => (s * mapBlend e + 32) / 64
  | _ => 0

/-- R197: point P[i] of a curve element. -/
def curvePoint (e i : Nat) : Nat := bits e (15 * i + 14) (15 * i)

/-- R198: the curve by linear interpolation. -/
def curveAt (e s : Nat) : Nat :=
  let i := s / 1024
  let f := s % 1024
  let d : Int := (curvePoint e (i + 1) : Int) - curvePoint e i
  min 16383 ((curvePoint e i : Int) + Int.fdiv (d * f + 512) 1024).toNat

/-- R199: the trimmed value. -/
def trimmed (y : Nat) (g : Int) : Nat := min 16383 (Int.fdiv (y * g + 16384) 32768).toNat

/-- R182, R204: the channel is listed out; the channel is out, reserve or off. -/
def chOut (t : BarTables) (j : Nat) : Bool := bit (tget outDefault t.out (j / 32)) (j % 32)
def chForced (t : BarTables) (j : Nat) : Bool := chOut t j || decide (2 ≤ mapKind (tget mapDefault t.map j))

/-- R182: v[j] of a bar's channel in global row n, given the merged contone by column. -/
def channelValue (b : Bar) (l n : Nat) (contone : Nat → Nat) (j : Nat) : Nat :=
  let e := tget mapDefault b.active.map j
  trimmed (curveAt (tget curveDefault b.active.curve j) (blend e (contone (mapColumn e)))) (b.trims.gain l n j)

/-! ## Redistribution (R204, R205) -/

/-- The neighbours of a channel with their weights: one and two positions either side. -/
def neighbours (w1 w2 : Nat) (j : Nat) : List (Int × Nat) :=
  [((j : Int) - 1, w1), ((j : Int) + 1, w1), ((j : Int) - 2, w2), ((j : Int) + 2, w2)]

/-- A bar channel on the same head port as `j`. -/
def samePort (j : Nat) (k : Int) : Bool := decide (0 ≤ k) && decide (k.toNat / 16384 = j / 16384)

/-- R205: the sum at a channel, before saturation. -/
def redistributed (t : BarTables) (w1 w2 : Nat) (v : Nat → Nat) (j : Nat) : Nat :=
  (neighbours w1 w2 j).foldl (fun r q =>
    if samePort j q.1 && chOut t q.1.toNat then r + (v q.1.toNat * q.2 + 128) / 256 else r) (v j)

/-- R205: the shares of an out channel that are lost. One whose weight is 0 counts too; the manual does not say whether it
does (DESIGN CHOICE, log entry 89). -/
def lostShares (t : BarTables) (j : Nat) : Nat :=
  if chOut t j then (neighbours 0 0 j).countP fun q => !samePort j q.1 || chForced t q.1.toNat else 0

/-! ## Screening settings (R210 to R216) -/

/-- A row of a bar as Reticle sees it. -/
structure RowView where
  n      : Nat      -- global row
  y      : Nat      -- row within the sheet, or within the pass in scanning mode
  left   : Nat      -- rows that follow it in the sheet, or in the pass
  phase  : Nat      -- R213: the sheet ID that sets the phase
  pass   : Option Nat  -- R226: the pass, in scanning mode

namespace State

def retMethod (s : State) (k : BarIx) : Nat := s.fld (aRetCfg k.1) 31 30
/-- L of a bar. -/
def retLevels (s : State) (k : BarIx) : Nat := s.fld (aRetCfg k.1) 27 24 + 1
/-- The threshold array of a channel's port. -/
def portArray (s : State) (k : BarIx) (j : Nat) : Nat :=
  s.fld (aRetCfg k.1) (4 * (j / 16384) + 3) (4 * (j / 16384))
/-- LVAL of a level (R216). -/
def lval (s : State) (k : BarIx) (n : Nat) : Nat :=
  if n % 2 = 0 then s.fld (aRetLval k.1 (n / 2)) 13 0 else s.fld (aRetLval k.1 (n / 2)) 29 16
/-- The decision point M_k (R216). -/
def decision (s : State) (k : BarIx) (n : Nat) : Nat := (s.lval k (n - 1) + s.lval k n + 1) / 2

/-- The twelve weights of R215: same row +1 and +2; row + 1 and row + 2 at -2 to +2. -/
def edW0 (s : State) (k : BarIx) : List Nat := [s.fld (aRetEdk k.1 0) 7 0, s.fld (aRetEdk k.1 0) 15 8]
def edW1 (s : State) (k : BarIx) : List Nat :=
  [s.fld (aRetEdk k.1 0) 23 16, s.fld (aRetEdk k.1 0) 31 24, s.fld (aRetEdk k.1 1) 7 0, s.fld (aRetEdk k.1 1) 15 8,
   s.fld (aRetEdk k.1 1) 23 16]
def edW2 (s : State) (k : BarIx) : List Nat :=
  [s.fld (aRetEdk k.1 1) 31 24, s.fld (aRetEdk k.1 2) 7 0, s.fld (aRetEdk k.1 2) 15 8, s.fld (aRetEdk k.1 2) 23 16,
   s.fld (aRetEdk k.1 2) 31 24]

/-! ## Ordered dither and direct (R213, R214, R224) -/

/-- R214: the level of a channel under ordered dither. -/
def ditherLevel (s : State) (k : BarIx) (v : RowView) (j out : Nat) : Nat :=
  let w := 2 ^ s.fld (aRetCfg k.1) 23 20
  let h := 2 ^ s.fld (aRetCfg k.1) 19 16
  let px := s.fld (aRetPhase k.1) 8 0 + s.fld (aRetPhase k.1) 24 16 * v.phase
  let py := s.fld (aRetPhase k.1 + 4) 8 0 + s.fld (aRetPhase k.1 + 4) 24 16 * v.phase
  let b := s.bar[k].active
  let u := (out * 16385 + 8192) / 16384
  let x := u * (s.retLevels k - 1)
  let col := mapColumn (tget mapDefault b.map j)
  let t := tget arrayDefault b.array (s.portArray k j * 262144 + (v.y + py) % h * 512 + (col + px) % w)
  x / 16384 + b2n (decide (t < x % 16384 * 4))

/-- R224: the 8-bit direct code. -/
def directCode (v : Nat) : Nat := (v * 255 + 8191) / 16384

/-! ## Error diffusion (R217 to R221) -/

/-- R217: a share of an error. -/
def edShare (e : Int) (w : Nat) : Int := Int.fdiv (e * w + 128) 256

/-- An error-diffusion pass in progress over a slot. -/
structure Diffuse where
  c1   : Int
  c2   : Int
  acc  : Table Int
  adds : List (Nat × Nat × Int)   -- shares past the slot's end, newest first
  sat  : Nat
  levs : List Nat                 -- newest first

/-- What an unlisted accumulator reads as. -/
def accDefault (_ : Nat) : Int := 0

/-- R217: a saturating addition to an accumulator. -/
def accAdd (key : Nat) (x : Int) (d : Diffuse) : Diffuse :=
  let v := tget accDefault d.acc key + x
  { d with acc := tput accDefault d.acc key (clampI (-32768) 32767 v)
           sat := d.sat + b2n (decide (v < -32768 ∨ 32767 < v)) }

/-- R217, R221: a share into row n + dr of channel i, from slot m: within the slot and to its left at once,
to its right by the seam; past the bar's ends and past the last row it is discarded. -/
def shareTo (v : RowView) (m dr : Nat) (i x : Int) (d : Diffuse) : Diffuse :=
  if v.left < dr ∨ i < 0 ∨ 65535 < i then d
  else if i.toNat < 8192 * (m + 1) then accAdd ((v.n + dr) * 65536 + i.toNat) x d
  else { d with adds := (dr, i.toNat, x) :: d.adds }

/-- R217: one channel. -/
def edChannel (s : State) (k : BarIx) (v : RowView) (m : Nat) (out : Nat → Nat) (j : Nat) (d : Diffuse) : Diffuse :=
  let a : Int := out j + tget accDefault d.acc (v.n * 65536 + j) + d.c1
  let forced := chForced s.bar[k].active j
  let lev := if forced then 0 else
    ((List.range (s.retLevels k)).drop 1).countP fun q => decide ((s.decision k q : Int) ≤ a)
  let e := if forced then a else a - s.lval k lev
  let w0 := s.edW0 k
  let d := { d with c1 := d.c2 + edShare e (w0.getD 0 0), c2 := edShare e (w0.getD 1 0), levs := lev :: d.levs }
  (List.range 5).foldl (fun d (i : Nat) =>
    shareTo v m 2 ((j : Int) + (i : Int) - 2) (edShare e ((s.edW2 k).getD i 0))
      (shareTo v m 1 ((j : Int) + (i : Int) - 2) (edShare e ((s.edW1 k).getD i 0)) d)) d

/-- R217, R221: slot m of row n: it takes its seam, then its channels in order; its own row's accumulators
are used up. -/
def edSlot (s : State) (k : BarIx) (v : RowView) (m : SlotIx) (out : Nat → Nat) : Diffuse :=
  let b := s.bar[k]
  let seam := b.seams.find? fun x => decide (x.row = v.n ∧ x.slot = m.1)
  let start : Diffuse := match seam with
    | some x => x.adds.foldl (fun d q => accAdd ((v.n + q.1) * 65536 + q.2.1) q.2.2 d) ⟨x.c1, x.c2, b.acc, [], 0, []⟩
    | none => ⟨0, 0, b.acc, [], 0, []⟩
  let d := (List.range 8192).foldl (fun d i => s.edChannel k v m.1 out (8192 * m.1 + i) d) start
  { d with acc := d.acc.filter fun q => decide (q.1 / 65536 ≠ v.n ∨ q.1 % 65536 / 8192 ≠ m.1) }

/-! ## Drop codes (R225, R226, R154) -/

/-- R226: the mask lets a channel fire in a row of its pass. -/
def maskOpen (s : State) (k : BarIx) (v : RowView) (j : Nat) : Bool :=
  match v.pass with
  | none => true
  | some p => bit (tget maskDefault s.bar[k].active.mask (p * 64 + v.y % 64)) (j % 64)

/-- R224 to R226: what screening makes of a channel: its level, or its direct code; none where no drop is to fire. -/
def screened (s : State) (k : BarIx) (v : RowView) (j value level : Nat) : Option Nat :=
  if chForced s.bar[k].active j || !s.maskOpen k v j then none
  else if s.retMethod k = 2 then some (directCode value) else some level

/-- R154, R224, R225: the code that a port sends for it, under the port's own table and width. -/
def portCode (s : State) (p : PortIx) (x : Option Nat) : Nat :=
  match x with
  | none => 0
  | some v => if s.retMethod (barOf p) = 2 then v / 2 ^ (8 - s.width p) else tget levelDefault s.se.levels[p] v

/-! ## One slot of a row -/

/-- What a slot's computation of a row yields: what screening makes of its channels, the accumulators and the seam to the
next slot, and what it counts. -/
structure SlotResult where
  vals  : List (Option Nat)
  acc   : Table Int
  seam  : Option Seam
  sat   : Nat       -- SE_REDIST_SAT
  lost  : Nat       -- SE_REDIST_LOST
  edSat : Nat

/-- R182: slot m of bar k computes a row from the merged contone. -/
def computeSlot (s : State) (k : BarIx) (v : RowView) (m : SlotIx) (contone : Nat → Nat) : SlotResult :=
  let b := s.bar[k]
  let w1 := s.fld (aSeRedist k.1) 15 8
  let w2 := s.fld (aSeRedist k.1) 7 0
  let base := 8192 * m.1
  let vals := ((List.range 8196).map fun i => channelValue b (s.epochLog2 k) v.n contone (base + i - 2)).toArray
  let val := fun j => vals.getD (j + 2 - base) 0
  let sums := ((List.range 8192).map fun i => redistributed b.active w1 w2 val (base + i)).toArray
  let out := fun j => if chForced b.active j then 0 else min 16383 (sums.getD (j - base) 0)
  let chans := (List.range 8192).map (base + ·)
  let sat := chans.countP fun j => !chForced b.active j && decide (16383 < sums.getD (j - base) 0)
  let lost := (chans.map (lostShares b.active)).sum
  if s.retMethod k = 1 then
    let d := s.edSlot k v m out
    let levs := d.levs.reverse.toArray
    { vals := chans.map fun j => s.screened k v j (out j) (levs.getD (j - base) 0)
      acc := d.acc
      seam := if m.1 = 7 then none else some ⟨v.n, m.1 + 1, d.c1, d.c2, d.adds.reverse⟩
      sat := sat, lost := lost, edSat := d.sat }
  else
    { vals := chans.map fun j => s.screened k v j (out j) (if s.retMethod k = 0 then s.ditherLevel k v j (out j) else 0)
      acc := b.acc, seam := none, sat := sat, lost := lost, edSat := 0 }

end State
end Sys2Proof.Machine
end

