-- ==== Sys2Proof/Machine/Fetch.lean ====
section
/-!
DEFINITION. Bar fetch and expansion at fetch: which band a bar fetches next and with which deadline (R244,
R245), what ends a fetch at once (R129, R169, R171), the grant of lanes (R164, R27), the outcome of a slice and
of a refetch (R167 to R170, R172, R223), and the release of rows (R168, R234).
-/
namespace Sys2Proof.Machine

/-- A sheet's use of a band, before it is fetched: the sheet, the band, the first sheet row and how many. -/
structure BandUse where
  sheet : Sheet
  band  : Band
  first : Nat
  count : Nat
  deriving DecidableEq, Repr

namespace State

/-! ## Uses and works -/

/-- The sheet rows that a band, starting at sheet row `start`, serves. -/
def useRows (sh : Sheet) (q : Band × Int) : BandUse :=
  let first := (max 0 q.2).toNat
  ⟨sh, q.1, first, (min (sh.rows : Int) (q.2 + q.1.rows)).toNat - first⟩

/-- R139: the uses of a plane's bands by a sheet, in order, and whether all its bands are published. -/
def usesOf (s : State) (sh : Sheet) (plane : Nat) : List BandUse × Bool :=
  let w := s.bandsOf sh plane
  (w.1.map (useRows sh), w.2)

/-- The bar's fetch of a band for a sheet. -/
def work? (s : State) (k : BarIx) (id : BitVec 32) (key : BandKey) : Option Work :=
  s.bar[k].works.find? fun w => decide (w.sheet = id) && decide (w.band.key = key)

/-- Change the bar's fetch of a band for a sheet. -/
def onWork (k : BarIx) (id : BitVec 32) (key : BandKey) (g : Work → Work) (s : State) : State :=
  s.onBar k fun b => { b with
    works := mapFirst (fun w => decide (w.sheet = id) && decide (w.band.key = key)) g b.works }

/-- The next use of a plane in a list that the bar has neither fetched nor passed. -/
def nextUse (s : State) (k : BarIx) (l : List BandUse) : Option BandUse :=
  l.find? fun u => decide (u.sheet.computed[k] < u.first + u.count) && (s.work? k u.sheet.id u.band.key).isNone

/-- R244: the plane's next band, in the order of the rows, across sheets; an unpublished band holds those
behind it back. -/
def planeNext (s : State) (k : BarIx) (plane : Fin 16) : List Sheet → Option BandUse
  | [] => none
  | sh :: rest =>
    if !(sh.planes s.ovlOn k).any (fun q => decide (q.1 = plane)) then planeNext s k plane rest
    else
      let w := s.usesOf sh plane.1
      match s.nextUse k w.1 with
      | some u => some u
      | none => if w.2 || decide (sh.rows ≤ sh.computed[k]) then planeNext s k plane rest else none

/-- R513: the global row that a sheet row of the bar has, or will take: rows pass the bar in the order of their numbers. -/
def globalOf (s : State) (k : BarIx) (id : BitVec 32) (row : Nat) : Nat :=
  match s.bar[k].rows.find? fun r => decide (r.sheet = id ∧ r.srow = row) with
  | some r => r.n
  | none =>
    let before := s.job.sheets.takeWhile fun x => decide (x.id ≠ id)
    let own := match s.sheet? id with
      | some sh => sh.fired[k]
      | none => 0
    s.bar[k].pass + (before.map fun x => x.rows - x.fired[k]).sum + (row - own)

/-- The sheet row that comes `i` rows behind the first that has not passed the bar. -/
def rowAhead (k : BarIx) : List Sheet → Nat → Option (BitVec 32 × Nat)
  | [], _ => none
  | sh :: rest, i =>
    if i < sh.rows - sh.fired[k] then some (sh.id, sh.fired[k] + i) else rowAhead k rest (i - (sh.rows - sh.fired[k]))

/-- The sheet and the sheet row of a global row of a bar, computed or still to be. -/
def rowAt (s : State) (k : BarIx) (n : Nat) : Option (BitVec 32 × Nat) :=
  match s.bar[k].rows.find? fun r => decide (r.n = n) with
  | some r => some (r.sheet, r.srow)
  | none => if n < s.bar[k].pass then none else rowAhead k s.job.sheets (n - s.bar[k].pass)

/-- The first row of a use that the bar has still to compute. -/
def firstNeeded (u : BandUse) (k : BarIx) : Nat := max u.first u.sheet.computed[k]

/-- R244: bands of a plane that are requested and not yet verified. -/
def inFlight (s : State) (k : BarIx) (plane : Nat) : Nat :=
  s.bar[k].works.countP fun w => decide (w.band.key.plane = plane) && !w.verified && w.ended.isNone

/-- R244: the lead and the in-flight limit allow the request. -/
def useReady (s : State) (k : BarIx) (u : BandUse) : Bool :=
  decide (s.globalOf k u.sheet.id (firstNeeded u k) ≤ s.barWr k + s.barQ k)
    && decide (s.inFlight k u.band.key.plane < if s.retMethod k = 1 then 4 else 2)

/-- R244: the request that the fetch unit presents next: of the planes whose next band is ready, the one that
serves the earliest row, the lowest plane first. -/
def fetchNext (s : State) (k : BarIx) : Option BandUse :=
  (((all 16).filterMap fun p => s.planeNext k p s.job.sheets).filter (s.useReady k)).foldl (fun best u =>
    match best with
    | none => some u
    | some b =>
      if s.globalOf k u.sheet.id (firstNeeded u k) < s.globalOf k b.sheet.id (firstNeeded b k) then some u else best) none

/-- R237: the delivery deadline of a sheet row at a port, in 1/16 ns. -/
def deliverBy (s : State) (id : BitVec 32) (p : PortIx) (row : Nat) : Option Nat :=
  (s.tFire id (barOf p) row).map fun t => t - 160 * s.fld (aPrmPort p.1 4) 31 16

/-- R237: the acknowledge deadline of a sheet row at a port, in 1/16 ns. -/
def ackBy (s : State) (id : BitVec 32) (p : PortIx) (row : Nat) : Option Nat :=
  (s.tFire id (barOf p) row).map fun t => t - 1600 * s.fld (aPrmPort p.1 4) 7 0

/-- R245: the QoS deadline of a band's reads, in 2^-24 ns. -/
def bandDeadline (s : State) (k : BarIx) (u : BandUse) : Option Nat :=
  let lead := (u.band.rows + (if s.retMethod k = 1 then 7 else 0) + 1) * 7040
  ((s.livePorts k).filterMap fun p => s.deliverBy u.sheet.id p u.first).foldl (fun m d =>
    match m with
    | none => some (d * 1048576 - lead * 16777216)
    | some x => some (min x (d * 1048576 - lead * 16777216))) none

/-- R171: the greatest ROW_COUNT of a bar, by the widest drop code among its ports in service. -/
def rowLimit (s : State) (k : BarIx) : Nat :=
  128 / ((portsOf k).filter s.inService).foldl (fun m p => max m (s.width p)) 1

/-- R129, R149: a colour plane of the sheet's job has band b with another row span; a sheet keeps its job's planes when the
job is closed. -/
def spanWrong (s : State) (sh : Sheet) (b : Band) : Bool :=
  s.job.bands.any fun x =>
    decide (x.key.job = b.key.job ∧ x.key.band = b.key.band ∧ x.rows ≠ b.rows)
      && (match fin? 16 x.key.plane with
        | some p => decide (sh.planeMap[p].toNat / 64 = 1)
        | none => false)

/-- R129, R169, R171: the code with which a fetch of a band ends at once. -/
def fetchRefused (s : State) (k : BarIx) (u : BandUse) : Option Code :=
  if u.band.bad then some 0x0305
  else if s.rowLimit k < u.band.rows then some 0x0306
  else if s.spanWrong u.sheet u.band then some 0x030B
  else none

/-! ## The end of a band (R172, R223) -/

/-- R457: the detail of a slice failure: the computed CRC, or the lane of a malformed stream. -/
def failDetail (f : Nat × Code × Word × LaneIx) : Nat :=
  if f.2.1 = 0x0304 then f.2.2.1.toNat else if f.2.1 = 0x0303 then f.2.2.2.1 else 0

/-- R457: the detail of a band's code: that of its first failure, when the code is that failure's. -/
def bandDetail (w : Work) (code : Code) : Nat :=
  match w.failed with
  | f :: _ => if f.2.1 = code then failDetail f else 0
  | [] => 0

/-- R39, R172: the sheets that have rows in a band at the bar, with those rows. -/
def bandUses (s : State) (k : BarIx) (b : Band) : List BandUse :=
  s.job.sheets.filterMap fun sh =>
    if decide (sh.job = b.key.job) && (sh.planes s.ovlOn k).any fun q => decide (q.1.1 = b.key.plane) then
      (s.usesOf sh b.key.plane).1.find? fun u => decide (u.band.key = b.key)
    else none

/-- R39, R172: a class S failure of a band touches every queued sheet that has a row in it. -/
def bandError (k : BarIx) (w : Work) (code : Code) (s : State) : State :=
  s.forEach (s.bandUses k w.band) fun u t =>
    t.sheetError code .s u.sheet.id u.first (unitBar k) (bandDetail w code) (if code = 0x0D05 then 0x11 else 6)

/-- The ports' slots of global rows that satisfy `c` become void. -/
def voidRows (k : BarIx) (c : Nat → Bool) (s : State) : State :=
  s.forEach (portsOf k) fun p t => t.onPort p fun q => { q with
    rows := q.rows.map fun r => if c r.n then { r with void := true } else r }

/-- R368: the first row that a camera taps, and how many. -/
def tapRow (s : State) (c : CamIx) : Nat := s.fld (aCalCam c.1 0) 23 0
def tapCount (s : State) (c : CamIx) : Nat := s.fld (aCalCam c.1 4) 12 0

/-- R370: the taps that satisfy `c` are void: freed unpaired, and counted. -/
def dropTaps (c : Tap → Bool) (s : State) : State :=
  s.onCal fun u => { u with taps := u.taps.filter fun t => !c t, void := satTo 255 (u.void + u.taps.countP c) }

/-- R370: the tap's sheet was rejected or cancelled. -/
def tapLost (s : State) (t : Tap) : Bool :=
  match s.sheet? t.sheet, s.record? t.sheet with
  | some sh, _ => decide (3 ≤ sh.cls.rank)
  | none, some m => decide (3 ≤ m.sheet.cls.rank)
  | none, none => true

/-- R370: taps of sheets that were rejected or cancelled are void. -/
def sweepTaps (s : State) : State := s.dropTaps s.tapLost

/-- R370: a tap of rows of a sheet is void once a band behind them failed or was refetched. -/
def voidTaps (id : BitVec 32) (first count : Nat) (s : State) : State :=
  s.dropTaps fun t => decide (t.sheet = id) && decide (first < s.tapRow t.cam + s.tapCount t.cam)
    && decide (s.tapRow t.cam < first + count)

/-- R222, R223: from global row `n` on, rows are computed again: their parts are discarded, and the diffusion state is that
of the checkpoint of row `n` where `restore` holds, else cleared. Rows below n keep what they have sent into later rows of
a slot that has not begun row n. -/
def recompute (k : BarIx) (n : Nat) (restore : Bool) (s : State) : State :=
  if s.retMethod k = 1 then
    s.onBar k fun b =>
      let parts := if restore then b.checks.filter fun c => decide (c.row = n) else []
      let kept := b.acc.filter fun q => decide (q.1 / 65536 < n) || (restore
        && !(parts.any fun c => decide (c.slot = q.1 % 65536 / 8192))
        && !(b.rows.any fun r => decide (r.n = n) && (match fin? 8 (q.1 % 65536 / 8192) with
          | some m => r.parts[m].isSome
          | none => true)))
      { b with
        rows := b.rows.map fun r => if n ≤ r.n then { r with parts := Vector.replicate 8 none } else r
        acc := parts.foldl (fun a c => c.acc.foldl (fun a q => tput accDefault a q.1 q.2) a) kept
        seams := b.seams.filter fun x => decide (x.row < n)
        checks := b.checks.filter fun c => decide (c.row < n) }
  else s

/-- The bar's rows of a sheet from `first`, `count` of them. -/
def rowsOf (s : State) (k : BarIx) (id : BitVec 32) (first count : Nat) : List Row :=
  s.bar[k].rows.filter fun r => decide (r.sheet = id ∧ first ≤ r.srow ∧ r.srow < first + count)

/-- A new fetch of a band for a sheet. -/
def newWork (u : BandUse) (age : Nat) (deadline : Option Nat) (ended : Option Code) : Work :=
  { sheet := u.sheet.id, band := u.band, first := u.first, count := u.count
    slices := List.replicate (fmtSlices u.band.format) .requested
    age := age, deadline := deadline, refetch := false, failed := [], avoid := [], shun := []
    verified := false, ended := ended, reported := ended.isSome, lost := [] }

/-- R172: the fetch of a band for a sheet ends with a code, one that has not begun too; a fetch that has passed stands. -/
def endWork (k : BarIx) (code : Code) (u : BandUse) (s : State) : State :=
  match s.work? k u.sheet.id u.band.key with
  | some w => if w.verified then s else s.onWork k u.sheet.id u.band.key fun x => { x with ended := some code, reported := true }
  | none =>
    if u.sheet.computed[k] < u.first + u.count then
      s.onBar k fun b => { b with works := b.works ++ [newWork u s.tick none (some code)] }
    else s

/-- R172, R223: the rows of a sheet in a band that ends as class S carry no data, and under error diffusion the rows from the
first of them on are screened again, from cleared state. -/
def endUse (k : BarIx) (code : Code) (u : BandUse) (s : State) : State :=
  let t := s.endWork k code u
  if (t.work? k u.sheet.id u.band.key).any (·.verified) then t
  else
    let rows := t.rowsOf k u.sheet.id u.first u.count
    let hit := fun n => rows.any fun r => decide (r.n = n)
    let t := t.onBar k fun b => { b with
      rows := b.rows.map fun r => if hit r.n then { r with noData := some code } else r }
    let t := (t.voidRows k hit).voidTaps u.sheet.id u.first u.count
    match rows with
    | r :: _ => t.recompute k r.n false
    | [] => t

/-- R172: a band ends as class S, for every sheet that has a row in it. -/
def endBand (k : BarIx) (w : Work) (code : Code) (s : State) : State :=
  let t := s.onWork k w.sheet w.band.key fun x => { x with ended := some code, reported := true }
  ((t.forEach (t.bandUses k w.band) (endUse k code)).bandError k w code)

/-! ## The delivery deadline (R170, R237, R238) -/

/-- A spool read for a band, for some of its blocks, is outstanding. -/
def readsOutstanding (s : State) (k : BarIx) (id : BitVec 32) (key : BandKey) (blocks : Nat → Bool) : Bool :=
  (all 64).any fun c => s.spl.chans[c].reqs.any fun q =>
    decide (q.bar = k) && decide (q.sheet = id) && decide (q.key = key) && blocks q.block

/-- The bar's fetches behind a sheet row. -/
def rowWorks (s : State) (k : BarIx) (id : BitVec 32) (row : Nat) : List Work :=
  match s.sheet? id with
  | none => []
  | some sh => (sh.planes s.ovlOn k).filterMap fun q => (s.locate sh q.1 row).bind fun b => s.work? k id b.1.key

/-- R170, R238: the code of a row that is not released at its delivery deadline; for a refetch in progress, or passed and not
released in time, that of the first failure, with its band. -/
def lateCause (s : State) (k : BarIx) (id : BitVec 32) (row : Nat) : Code × Option Work :=
  let works := s.rowWorks k id row
  match works.find? fun w => w.refetch && w.ended.isNone with
  | some w => ((w.failed.head?.map (·.2.1)).getD 0x0603, some w)
  | none =>
    if works.any fun w => s.readsOutstanding k w.sheet w.band.key fun _ => true then (0x0602, none) else (0x0603, none)

/-- The events of a late row (R170, R172, R238). -/
def lateEvents (k : BarIx) (id : BitVec 32) (row : Nat) (s : State) : State :=
  let c := s.lateCause k id row
  match c.2 with
  | none => s.sheetError c.1 .s id row (unitBar k) 0 0x0A
  | some w =>
    ((s.onWork k w.sheet w.band.key fun x => { x with reported := true }).sheetError c.1 .s id row (unitBar k)
      (bandDetail w c.1) 6).bandError k w c.1

/-- R237: the delivery deadline of a sheet row at a port has come. -/
def deliveryCome (s : State) (p : PortIx) (id : BitVec 32) (row : Nat) : Bool :=
  (s.deliverBy id p row).any fun d => decide (d ≤ s.now16)

/-! ## Release (R168, R170, R234) -/

/-- The band that contributed to a row is verified, or ended. -/
def workDone (s : State) (k : BarIx) (id : BitVec 32) (key : BandKey) : Bool :=
  match s.work? k id key with
  | some w => w.verified || w.ended.isSome
  | none => true

/-- Every slot has computed its part of a row. -/
def rowComplete (r : Row) : Bool := (all 8).all fun m => r.parts[m].isSome

/-- R168: a row may be released: it is written, and it carries no data, or every band behind it is verified. -/
def releasable (s : State) (k : BarIx) (n : Nat) : Bool :=
  match s.bar[k].rows.find? fun r => decide (r.n = n) with
  | some r => r.written && (r.noData.isSome || (rowComplete r && r.works.all fun key => s.workDone k r.sheet key))
  | none => decide (n < s.bar[k].pass)

/-- R234, R237, R238: the row at REL of a port: it has ended void, it ends void as its delivery deadline has come, or it is
released; none when it stays. -/
def releaseNext (p : PortIx) (s : State) : Option State :=
  match s.port[p].rows.find? fun r => decide (r.n = s.port[p].rel) with
  | none => none
  | some r =>
    let go := fun (t : State) => t.onPort p fun q => { q with rel := q.rel + 1 }
    if r.void then some (go s)
    else if s.deliveryCome p r.sheet r.srow then
      some (go ((s.lateEvents (barOf p) r.sheet r.srow).onPort p fun q => { q with
        rows := q.rows.map fun x => if x.n = r.n then { x with void := true } else x }))
    else if s.releasable (barOf p) r.n then some (go s)
    else none

/-- R234: REL of a port advances in ascending order. -/
def releasePort (p : PortIx) : Nat → State → State
  | 0, s => s
  | fuel + 1, s => match s.releaseNext p with
    | none => s
    | some t => releasePort p fuel t

/-- The least REL of a bar's live ports. -/
def leastRel (s : State) (k : BarIx) : Nat :=
  match (s.livePorts k).map fun p => s.port[p].rel with
  | [] => 0
  | x :: l => l.foldl min x

/-- R170: a refetch that passed is class P once its first row is released in time; later late rows are not its own. -/
def judgeRefetch (k : BarIx) (w : Work) (s : State) : State :=
  match w.failed with
  | [] => s
  | f :: _ =>
    if w.verified && !w.reported && (match s.rowsOf k w.sheet w.first w.count with
        | r :: _ => s.releasable k r.n && (s.livePorts k).all fun p => decide (r.n < s.port[p].rel)
        | [] => false) then
      (s.onWork k w.sheet w.band.key fun x => { x with reported := true, refetch := false }).sheetError f.2.1 .p w.sheet
        w.first (unitBar k) (failDetail f) 6
    else s

/-- A band's fetch is kept while lanes serve it, or rows that it serves are still to be computed or can still change. -/
def workNeeded (s : State) (k : BarIx) (w : Work) : Bool :=
  (w.slices.any fun x => match x with | .onLane _ => true | _ => false)
    || (match s.sheet? w.sheet with
      | some sh => decide (sh.computed[k] < w.first + w.count)
      | none => false)
    || !(s.rowsOf k w.sheet w.first w.count).isEmpty

/-- The oldest rows go once they have passed the bar, are complete, and no refetch can change them. -/
def pruneRows (k : BarIx) (s : State) : State :=
  let t := s.onBar k fun b => { b with
    rows := b.rows.dropWhile fun r =>
      decide (r.n < b.pass) && rowComplete r && (r.noData.isSome || r.works.all fun key => s.workDone k r.sheet key) }
  t.onBar k fun b => { b with works := b.works.filter (t.workNeeded k) }

/-- R168, R170, R234: release what may be released at every live port of the bar. -/
def releaseRows (k : BarIx) (s : State) : State :=
  let t := s.forEach (s.livePorts k) fun p t => t.releasePort p t.port[p].rows.length
  let t := t.count (2 * 64 + 8 * k.1 + 7) (t.leastRel k - s.leastRel k)
  (t.forEach t.bar[k].works (judgeRefetch k)).pruneRows k

/-! ## Requests and lanes (R27, R164, R165, R244) -/

/-- R133: JOB_RD_POSk: the position of the band that the bar fetches next. While no band is published for it, the manual does
not say what it reads: the model holds the end of the band fetched last, 0 before any (DESIGN CHOICE, log entry 89). -/
def readPos (s : State) (k : BarIx) : Nat :=
  match ((all 16).filterMap fun p => s.planeNext k p s.job.sheets).foldl (fun (best : Option BandUse) u =>
    match best with
    | none => some u
    | some c =>
      if s.globalOf k u.sheet.id (firstNeeded u k) < s.globalOf k c.sheet.id (firstNeeded c k) then some u else best) none with
  | some u => u.band.pos
  | none => s.job.rd[k]

/-- The end of the band that the bar has fetched last. -/
def noteRead (k : BarIx) (b : Band) (s : State) : State :=
  s.onJob fun j => { j with rd := j.rd.set k.1 (b.pos + (b.len + 63) / 64) k.2 }

/-- R244, R245: the bar presents the lane requests of its next band, or the fetch fails at once. -/
def requestBand (k : BarIx) (u : BandUse) (s : State) : State :=
  let bad := s.fetchRefused k u
  let w := newWork u s.tick (s.bandDeadline k u) bad
  let t := ((s.onBar k fun b => { b with works := b.works ++ [w] }).noteRead k u.band).count (2 * 64 + 8 * k.1 + 1) 1
  match bad with
  | some c => t.endBand k w c
  | none => t

/-- A lane that serves a slice. -/
def laneBusy (s : State) (l : LaneIx) : Bool :=
  (all 8).any fun k => s.bar[k].works.any fun w => w.slices.contains (.onLane l)

/-- R165: the lane is in service. -/
def laneOn (s : State) (l : LaneIx) : Bool :=
  (if l.1 < 32 then s.fbit (aDcmp 0) l.1 else s.fbit (aDcmp 4) (l.1 - 32)) && !s.exp.laneOut.contains l.1

/-- R164, R169: the lane that a request of this band would get: the lowest free one in service that did not fail
it, one that had no part in the failed attempt first. -/
def laneFor (s : State) (w : Work) : Option LaneIx :=
  let free := (all 34).filter fun l => s.laneOn l && !s.laneBusy l && !w.avoid.contains l.1
  (free.find? fun l => !w.shun.contains l.1).or free.head?

/-- The failed slices of a band's present attempt: slice, code, computed CRC and lane. -/
def failures (w : Work) : List (Nat × Code × Word × LaneIx) :=
  (w.slices.mapIdx fun i x => match x with
    | .failed c v l => [(i, c, v, l)]
    | _ => []).flatten

/-- The oldest of the bar's requests that a lane could serve; of two as old, a refetch first. -/
def barRequest (s : State) (k : BarIx) : Option Work :=
  (s.bar[k].works.filter fun w => w.ended.isNone && w.slices.contains .requested
      && (w.refetch || (failures w).isEmpty) && (s.laneFor w).isSome).foldl
    (fun best w => match best with
      | none => some w
      | some b => if w.age < b.age ∨ (w.age = b.age ∧ w.refetch ∧ !b.refetch) then some w else best) none

/-- The bar that R27 grants. -/
def grantBar (s : State) : Option BarIx :=
  (arbitrate 8 s.exp.lanePtr ((all 8).filterMap fun k =>
    (s.barRequest k).map fun w => (k.1, w.age, if w.refetch then 2 else 1))).bind (fin? 8)

/-- The byte range of a slice within its container. -/
def sliceAt (b : Band) (i : Nat) : Nat × Nat := (64 + (b.sliceLen.take i).sum, b.sliceLen.getD i 0)

/-- The blocks of the container that a slice's bytes lie in. -/
def sliceBlocks (b : Band) (i : Nat) : List Nat :=
  let r := sliceAt b i
  (List.range ((r.1 + r.2 + 63) / 64 - r.1 / 64)).map (r.1 / 64 + ·)

/-- R245, R414: a spool read of the bar's fetch is presented to its channel. -/
def presentRead (k : BarIx) (w : Work) (block : Nat) (s : State) : State :=
  let a := s.posAddr (w.band.pos + block)
  let idle := (all 64).all fun c => s.spl.chans[c].reqs.all fun r => decide (r.port ≠ 1)
  (s.rise (4 * 64 + 4 + 3) idle).onChan (s.place a).1 fun c => { c with
    reqs := c.reqs ++ [⟨1, a, s.tick, s.mer.time, w.deadline, k, w.sheet, w.band.key, block⟩] }

/-- R164: a lane is granted to the next slice of a band, and its reads are presented. -/
def grantLane (k : BarIx) (w : Work) (l : LaneIx) (s : State) : State :=
  let i := w.slices.findIdx fun x => decide (x = .requested)
  let t := s.onWork k w.sheet w.band.key fun x => { x with slices := x.slices.set i (.onLane l) }
  ((t.forEach (sliceBlocks w.band i) fun b => presentRead k w b).rise (3 * 64 + l.1) true).onExp fun e =>
    { e with lanePtr := (k.1 + 1) % 8 }

/-! ## The end of a slice (R158, R167 to R170) -/

/-- The stored bytes of a run of a container. -/
def containerPeek (s : State) (b : Band) (off n : Nat) : List Byte :=
  let start := (64 * b.pos + off) % (64 * s.ringUnits)
  let room := min n (64 * s.ringUnits - start)
  s.peek (s.ringBase + start) room ++ s.peek s.ringBase (n - room)

/-- The declared length of each slice of a band (R157). -/
def sliceOut (b : Band) : Nat := fmtLen b.format b.rows / fmtSlices b.format

/-- What the lane makes of a slice of a band. -/
def sliceInflated (s : State) (b : Band) (i : Nat) : Inflated :=
  inflate (sliceOut b) (s.containerPeek b (sliceAt b i).1 (sliceAt b i).2)

/-- R472: the dynamic tables that a lane builds for a slice: none where a read of it was lost. -/
def sliceBuilds (s : State) (w : Work) (i : Nat) : Nat :=
  if (sliceBlocks w.band i).any fun b => w.lost.contains b then 0
  else
    let bs := s.containerPeek w.band (sliceAt w.band i).1 (sliceAt w.band i).2
    tableBuilds (sliceOut w.band) (8 * bs.length + 1) [] (streamBits bs)

/-- R158: the folded CRC of a slice's output. -/
def sliceCrc (b : Band) (i : Nat) (out : List Byte) : Word :=
  foldedCrc (bandContext b.key.job b.key.plane b.key.band i 0x12) out

/-- R169: the first failure that applies to a slice, with its computed CRC where that is what failed. -/
def sliceFailure (s : State) (w : Work) (i : Nat) (upset : Option SliceUpset) : Option (Code × Word) :=
  if (sliceBlocks w.band i).any fun b => w.lost.contains b then some (0x0D05, 0)
  else match s.sliceInflated w.band i, upset with
    | .expand _, _ => some (0x0302, 0)
    | _, some .stream => some (0x0303, 0)
    | .malformed _, _ => some (0x0303, 0)
    | .done out, u =>
      if out.length ≠ sliceOut w.band then some (0x0303, 0)
      else
        let x := match u with
          | some (.crc m) => m
          | _ => 0
        let c := sliceCrc w.band i out ^^^ x
        if c = w.band.sliceCrc.getD i 0 then none else some (0x0304, c)

/-- R166: a slice failure is attributed to its lane. -/
def laneFail (l : LaneIx) (s : State) : State :=
  s.onExp fun e => { e with laneFault := upd e.laneFault l fun f => { f with fail := satTo 255 (f.fail + 1) } }

/-- R166, R169: a CRC that differed between two lanes. -/
def laneDisagree (l : LaneIx) (s : State) : State :=
  s.onExp fun e => { e with laneFault := upd e.laneFault l fun f => { f with disagree := satTo 255 (f.disagree + 1) } }

/-- The lanes that passed slices of a band. -/
def passedLanes (w : Work) : List Nat :=
  w.slices.filterMap fun x => match x with
    | .passed l => some l.1
    | _ => none

/-- R169, R223, R245: the refetch of a whole band begins: every slice is requested again at class 2, with the deadline as now
predicted, and the band's rows are computed again. -/
def refetch (k : BarIx) (w : Work) (s : State) : State :=
  let due := (s.sheet? w.sheet).bind fun sh => s.bandDeadline k ⟨sh, w.band, w.first, w.count⟩
  let t := s.onWork k w.sheet w.band.key fun x => { x with
    slices := List.replicate x.slices.length .requested, age := s.tick, deadline := due, refetch := true
    failed := x.failed ++ (failures x).filter fun f => !x.failed.any fun g => decide (g.1 = f.1)
    avoid := (failures x).map fun f => f.2.2.2.1
    shun := passedLanes x }
  let rows := t.rowsOf k w.sheet w.first w.count
  let t := (t.voidTaps w.sheet w.first w.count).count (3 * 64 + 38) 1
  match rows with
  | [] => t
  | r :: _ =>
    if t.retMethod k = 1 then t.recompute k r.n true
    else t.onBar k fun b => { b with
      rows := b.rows.map fun x => if rows.any fun y => decide (y.n = x.n) then { x with parts := Vector.replicate 8 none } else x }

/-- R222: the bands that are not yet verified, and have not ended, of which row n is the first that the bar computes. -/
def bandBegins (s : State) (k : BarIx) (n : Nat) : Bool :=
  s.bar[k].works.any fun w => !w.verified && w.ended.isNone && match s.rowsOf k w.sheet w.first w.count with
    | r :: _ => decide (r.n = n)
    | [] => false

/-- R222: checkpoint parts are freed once no unverified band begins at their row. -/
def freeChecks (k : BarIx) (s : State) : State :=
  s.onBar k fun b => { b with checks := b.checks.filter fun c => s.bandBegins k c.row }

/-- R168: every slice of the band has passed. -/
def verify (k : BarIx) (w : Work) (s : State) : State :=
  if w.slices.all fun x => match x with | .passed _ => true | _ => false then
    ((s.onWork k w.sheet w.band.key fun x => { x with verified := true }).freeChecks k).count (2 * 64 + 8 * k.1 + 2) 1
  else s

/-- A band is marked bad in the band directory (R169). -/
def markBad (key : BandKey) (s : State) : State :=
  s.onJob fun j => { j with bands := j.bands.map fun b => if b.key = key then { b with bad := true } else b }

/-- R169: a refetched slice that failed before, as `g`, and fails again, as `f`: a CRC that differs counts on both
lanes. -/
def disagree (g f : Nat × Code × Word × LaneIx) (s : State) : State :=
  if g.1 = f.1 ∧ g.2.1 = 0x0304 ∧ f.2.1 = 0x0304 ∧ g.2.2.1 ≠ f.2.2.1 then (s.laneDisagree f.2.2.2).laneDisagree g.2.2.2
  else s

/-- R169: the same slice failed with the same code and, for a CRC, with the same value. -/
def sameFailure (g f : Nat × Code × Word × LaneIx) : Bool :=
  decide (g.1 = f.1 ∧ g.2.1 = f.2.1) && (decide (f.2.1 ≠ 0x0304) || decide (g.2.2.1 = f.2.2.1))

/-- R167, R169: the code of a refetch that failed: that of a lost read or of an overlong slice, else the first
failure's. -/
def refetchCode (first again : List (Nat × Code × Word × LaneIx)) : Code :=
  if again.any fun f => decide (f.2.1 = 0x0D05) then 0x0D05
  else if again.any fun f => decide (f.2.1 = 0x0302) then 0x0302
  else (first.head?.map (·.2.1)).getD 0x0303

/-- R169: a refetch ends with failed slices. -/
def refetchFails (k : BarIx) (w : Work) (s : State) : State :=
  let again := failures w
  let t := s.forEach again fun f t => t.forEach w.failed fun g t => t.disagree g f
  let t := if again.any fun f => w.failed.any fun g => sameFailure g f then t.markBad w.band.key else t
  t.endBand k w (refetchCode w.failed again)

/-- R169: what a band does once a slice of it has ended: it waits for its other slices, is verified, is fetched
again, or ends. -/
def judgeBand (k : BarIx) (x : Work) (s : State) : State :=
  if (failures x).isEmpty then (s.verify k x).releaseRows k
  else if x.slices.any fun y => match y with | .onLane _ => true | _ => false then s
  else if x.refetch then
    if x.slices.contains .requested then s else (s.refetchFails k x).releaseRows k
  else s.refetch k x

/-- The lane's slice ends: slice i of band w at bar k. -/
def endSlice (k : BarIx) (w : Work) (i : Nat) (l : LaneIx) (upset : Option SliceUpset) (s : State) : State :=
  let set := fun (x : SliceState) (t : State) => t.onWork k w.sheet w.band.key fun y => { y with slices := y.slices.set i x }
  match s.sliceFailure w i upset with
  | none =>
    let t := set (.passed l) s
    (match t.work? k w.sheet w.band.key with
    | none => t
    | some x => if x.ended.isSome then t else t.judgeBand k x)
  | some (code, crc) =>
    let t := set (.failed code crc l) s
    let t := if code = 0x0D05 then t else t.laneFail l
    (match t.work? k w.sheet w.band.key with
    | none => t
    | some x =>
      if x.ended.isSome then t
      else if !x.refetch && (decide (code = 0x0D05) || decide (code = 0x0302)) then (t.endBand k x code).releaseRows k
      else t.judgeBand k x)

/-- The bar, the band and the slice that a lane serves. -/
def laneSlice (s : State) (l : LaneIx) : Option (BarIx × Work × Nat) :=
  (all 8).findSome? fun k =>
    (s.bar[k].works.find? fun w => w.slices.contains (.onLane l)).map fun w =>
      (k, w, w.slices.findIdx fun x => decide (x = .onLane l))

end State

/-! ## The commands -/

/-- R244: the bar presents the lane requests of its next band. -/
def execBandFetchRequest (k : BarIx) (s : State) : Result :=
  if !(s.up && s.barRuns k) then .next s
  else match s.fetchNext k with
    | none => .next s
    | some u => .next ((s.requestBand k u).releaseRows k)

/-- R164: a lane is granted. -/
def execLaneGrant (s : State) : Result :=
  if !s.up then .next s
  else match s.grantBar with
    | none => .next s
    | some k => match s.barRequest k with
      | none => .next s
      | some w => match s.laneFor w with
        | none => .next s
        | some l => .next (s.grantLane k w l)

/-- R167 to R169, R453: a lane finishes or stops its slice, once the slice's reads have completed. -/
def execSliceEnd (lane : LaneIx) (upset : Option SliceUpset) (s : State) : Result :=
  match s.laneSlice lane with
  | none => .next s
  | some (k, w, i) =>
    if !s.up || s.readsOutstanding k w.sheet w.band.key (fun b => (State.sliceBlocks w.band i).contains b) then .next s
    else
      let t := (s.count (3 * 64 + 39) (s.sliceBuilds w i)).endSlice k w i lane upset
      .next (if upset = some .unit then t.crcUnitFault else t)

end Sys2Proof.Machine
end

