-- ==== Sys2Proof/Machine/Rows.lean ====
section
/-!
DEFINITION. The computation of rows by the bar's slots (R18, R182 to R229, R244), the contone taps summed on the
way (R368 to R370), and the writing of a row to the port queues (R231, R233).
-/
namespace Sys2Proof.Machine
namespace State

/-! ## Taps (R368 to R370) -/

/-- R368: a camera whose taps are on. -/
def tapOn (s : State) (c : CamIx) : Bool := s.camRuns c && decide (s.fld (aCalCam c.1 0) 31 24 ≠ 0)

/-- R369: the left edge of cell x of a camera, as a logical column. -/
def cellEdge (s : State) (c : CamIx) (x : Nat) : Int :=
  Int.fdiv (signed 32 (s.rdN (aCalCam c.1 8)) * 256 + (x * s.rdN (aCalCam c.1 0xC) : Nat)) 65536

/-- R369: cell x of a camera is taken. -/
def cellOk (s : State) (c : CamIx) (x : Nat) : Bool :=
  decide (0 ≤ s.cellEdge c x ∧ s.cellEdge c (x + 1) ≤ 65536) && decide (x < s.fld (aCam c.1 4) 15 0 / 2)

/-- The cell of a camera that holds a logical column, when it is taken. -/
def cellAt (s : State) (c : CamIx) (col : Nat) : Option Nat :=
  let a := signed 32 (s.rdN (aCalCam c.1 8)) * 256
  let x := Int.fdiv ((65536 * (col + 1) : Nat) - 1 - a) (s.rdN (aCalCam c.1 0xC) : Nat)
  if 0 ≤ x ∧ s.cellOk c x.toNat then some x.toNat else none

/-- R369: the camera uses a logical column: it lies in no cell of a lower-numbered camera. -/
def ownColumn (s : State) (c : CamIx) (col : Nat) : Bool :=
  !(all 4).any fun d => decide (d.1 < c.1) && (s.cellAt d col).isSome

/-- R369: the columns of a cell that the camera uses. -/
def cellCols (s : State) (c : CamIx) (x : Nat) : List Nat :=
  if s.cellOk c x then
    ((List.range (s.cellEdge c (x + 1) - s.cellEdge c x).toNat).map fun i => (s.cellEdge c x).toNat + i).filter (s.ownColumn c)
  else []

/-- What an unlisted sum is. -/
def sumDefault (_ : Nat) : Nat := 0

/-- R370: a row of a bar is added to a tap's sums. -/
def tapSum (k : BarIx) (contone : Nat → Nat) (s : State) (t : Tap) : Tap :=
  let sums := (List.range 8192).foldl (fun m x =>
    let v := ((s.cellCols t.cam x).map contone).sum
    tput sumDefault m (k.1 * 8192 + x) ((tget sumDefault m (k.1 * 8192 + x) + v) % 2 ^ 48)) t.sums
  let next := t.next[k] + 1
  { t with sums := sums, next := t.next.set k.1 next k.2
           complete := t.complete.set k.1 (t.complete[k] || decide (s.tapRow t.cam + s.tapCount t.cam ≤ next)) k.2 }

/-- R370: every bar in use has summed the tap's last row. -/
def tapDone (s : State) (t : Tap) : Bool := (all 8).all fun k => !s.bar[k].used || t.complete[k]

/-- R370: a band behind the rows that the camera would tap has been refetched, or has failed, at some bar. -/
def tapSpoiled (s : State) (c : CamIx) (id : BitVec 32) : Bool :=
  (all 8).any fun k => s.bar[k].works.any fun w => decide (w.sheet = id) && (!w.failed.isEmpty || w.ended.isSome)
    && decide (w.first < s.tapRow c + s.tapCount c ∧ s.tapRow c < w.first + w.count)

/-- R370: the first bar reaches the tapped row of a sheet: a tap is begun, or it is skipped or void. -/
def beginTap (c : CamIx) (k : BarIx) (sh : Sheet) (row : Nat) (s : State) : State :=
  if !(s.tapOn c && decide (sh.id.toNat % s.fld (aCalCam c.1 0) 31 24 = 0) && decide (row = s.tapRow c)
      && (all 8).all fun b => decide (b = k) || decide (sh.reached[b] ≤ row)) then s
  else if 4 ≤ s.cal.taps.countP fun t => decide (t.cam = c) && s.tapDone t then
    s.onCal fun u => { u with skip := satTo 255 (u.skip + 1) }
  else if sh.rows < row + s.tapCount c || s.tapSpoiled c sh.id then s.onCal fun u => { u with void := satTo 255 (u.void + 1) }
  else s.onCal fun u => { u with
    taps := u.taps ++ [⟨c, sh.id, Vector.replicate 8 row, [], Vector.replicate 8 false⟩] }

/-- R370: a row computed for the first time is summed by the taps of its sheet. -/
def tapRows (k : BarIx) (sh : Sheet) (row : Nat) (contone : Nat → Nat) (s : State) : State :=
  let t := s.sweepTaps.forEach (all 4) fun c u => u.beginTap c k sh row
  t.onCal fun u => { u with taps := u.taps.map fun x =>
    if x.sheet = sh.id ∧ x.next[k] = row ∧ row < s.tapRow x.cam + s.tapCount x.cam then s.tapSum k contone x else x }

/-! ## Which row a slot computes (R220, R222, R233) -/

/-- The fire position that bounds a bar's rows: a slot of the queue is free below it (R233). -/
def slotsFree (s : State) (k : BarIx) (n : Nat) : Bool :=
  if (s.livePorts k).isEmpty then decide (n < s.bar[k].pass + s.barQ k)
  else (s.livePorts k).all fun p => decide (n < s.port[p].fire + s.slots p)

/-- The first queued sheet of which the bar has rows to compute. -/
def sheetToCompute (s : State) (k : BarIx) : Option Sheet :=
  s.job.sheets.find? fun sh => decide (sh.computed[k] < sh.rows)

/-- A row that has been given no number yet. -/
def freshRow (n : Nat) (sh : Sheet) (row : Nat) (works : List BandKey) (noData : Option Code) : Row :=
  ⟨n, sh.id, row, Vector.replicate 8 none, works, noData, false⟩

/-- Whether a plane's band is there for a row: fetched onto its lanes, ended, still to come, or not published. -/
inductive PlaneSource where
  | ready (w : Work) (row : Nat)
  | ended (code : Code) (key : BandKey)
  | absent
  | unpublished

/-- The source of a plane for a sheet row of the bar. -/
def planeSource (s : State) (k : BarIx) (sh : Sheet) (row : Nat) (plane : Fin 16) : PlaneSource :=
  match s.locate sh plane.1 row with
  | none => .unpublished
  | some (b, i) => match s.work? k sh.id b.key with
    | none => .absent
    | some w => match w.ended with
      | some c => .ended c b.key
      | none =>
        if w.slices.all fun x => match x with | .onLane _ => true | .passed _ => true | _ => false then .ready w i
        else .absent

/-- What the planes of a sheet on a bar bring to a row. -/
structure RowSource where
  colour   : Option PlaneRow
  overlays : List PlaneRow
  keys     : List BandKey
  noData   : Option Code

/-- The output of a band's slices, as the lanes deliver it. -/
def bandOut (s : State) (b : Band) : List (Array Byte) :=
  (List.range (fmtSlices b.format)).map fun i => (s.sliceInflated b i).out.toArray

/-- The sources of global row `n`, a sheet's row `row`; none while one of them is still to come. A row that has passed the
bar while its band is not published waits no longer: it carries no data (DESIGN CHOICE, log entry 91). -/
def rowSource (s : State) (k : BarIx) (sh : Sheet) (n row : Nat) : Option RowSource :=
  (sh.planes s.ovlOn k).foldl (fun acc q => acc.bind fun a =>
    match s.planeSource k sh row q.1 with
    | .absent => none
    | .unpublished => if n < s.bar[k].pass then some { a with noData := a.noData.or (some 0x0603) } else none
    | .ended c key => some { a with keys := a.keys ++ [key], noData := a.noData.or (some c) }
    | .ready w i =>
      let p : PlaneRow := ⟨s.bandOut w.band, w.band.format, i⟩
      some (if q.2 = 1 then { a with colour := some p, keys := a.keys ++ [w.band.key] }
        else { a with overlays := a.overlays ++ [p], keys := a.keys ++ [w.band.key] }))
    (some ⟨none, [], [], none⟩)

/-- R184: the merged contone of a row. -/
def contoneOf (s : State) (k : BarIx) (sh : Sheet) (row : Nat) (src : RowSource) : Nat → Nat :=
  mergedContone src.colour src.overlays
    (if s.ovlOn then s.se.patches.filter fun q => q.inRow sh.id k row else [])
    row

/-- R210, R213, R226: the row as Reticle sees it. -/
def rowView (s : State) (sh : Sheet) (n row : Nat) : RowView :=
  if s.scan then
    let y := row % s.passRows
    ⟨n, y, min (s.passRows - 1 - y) (sh.rows - 1 - row), sh.phase.toNat, some (s.passOf row % s.passCount)⟩
  else ⟨n, row, sh.rows - 1 - row, sh.phase.toNat, none⟩

/-- R220: the stagger lets slot m take row n: slot m - 1 has done it, and slot m + 1 has done the row before. -/
def staggerOk (s : State) (k : BarIx) (m : SlotIx) (n : Nat) : Bool :=
  let part := fun (i r : Nat) => match fin? 8 i, s.bar[k].rows.find? fun x => decide (x.n = r) with
    | some q, some x => x.parts[q].isSome
    | some _, none => decide (r < s.bar[k].grow)
    | none, _ => true
  decide (s.retMethod k ≠ 1) || ((decide (m.1 = 0) || part (m.1 - 1) n) && (decide (n = 0) || part (m.1 + 1) (n - 1)
    || decide (n ≤ s.bar[k].firstRow)))

/-- R222: row n is the first that the bar computes of a band that is not yet verified: of one that has rows, or of one of
`keys` that has none yet. -/
def beginsBand (s : State) (k : BarIx) (id : BitVec 32) (n : Nat) (keys : List BandKey) : Bool :=
  s.bandBegins k n || keys.any fun key => match s.work? k id key with
    | none => false
    | some w => !w.verified && w.ended.isNone && (s.rowsOf k id w.first w.count).isEmpty

/-- R222: slot m needs a checkpoint part when it begins row n; the bands that begin at one row share it. -/
def needsPart (s : State) (k : BarIx) (id : BitVec 32) (n : Nat) (keys : List BandKey) : Bool :=
  decide (s.retMethod k = 1) && s.beginsBand k id n keys

/-- R222: slot m writes its part of the checkpoint of row n: acc[n] and acc[n + 1] of its channels. -/
def writeCheck (k : BarIx) (m : SlotIx) (n : Nat) (s : State) : State :=
  s.onBar k fun b => { b with checks := b.checks ++ [⟨m.1, n, b.acc.filter fun q =>
    decide (n ≤ q.1 / 65536 ∧ q.1 / 65536 ≤ n + 1 ∧ q.1 % 65536 / 8192 = m.1)⟩] }

/-! ## Computing (R182, R217, R218, R221) -/

/-- R218: at the first row of a sheet, or of a pass, the slot's accumulators of rows 0 and 1 are zero. -/
def clearState (k : BarIx) (m : SlotIx) (v : RowView) (s : State) : State :=
  if v.y = 0 then
    s.onBar k fun b => { b with
      acc := b.acc.filter fun q => decide (q.1 % 65536 / 8192 ≠ m.1) || decide (q.1 / 65536 < v.n)
      seams := b.seams.filter fun x => decide (x.slot ≠ m.1) || decide (v.n ≤ x.row) }
  else s

/-- The part of slot m of row n is done. -/
def setPart (k : BarIx) (m : SlotIx) (n : Nat) (vals : List (Option Nat)) (s : State) : State :=
  let t := s.onBar k fun b => { b with
    rows := b.rows.map fun r => if r.n = n then { r with parts := r.parts.set m.1 (some vals) m.2 } else r }
  let full := t.bar[k].rows.any fun r => decide (r.n = n) && rowComplete r
  if full then t.count (2 * 64 + 8 * k.1) 1 else t

/-- R172, R223: slot m of a row without data: no drop, and cleared diffusion state after it. -/
def voidPart (k : BarIx) (m : SlotIx) (n : Nat) (s : State) : State :=
  (s.onBar k fun b => { b with
    acc := b.acc.filter fun q => decide (q.1 % 65536 / 8192 ≠ m.1)
    seams := b.seams.filter fun x => decide (x.slot ≠ m.1) }).setPart k m n (List.replicate 8192 none)

/-- R182, R205, R217: slot m of a row with data. The manual does not say whether saturations met again when a row is
recomputed count again: they do (DESIGN CHOICE, log entry 89). -/
def dataPart (k : BarIx) (m : SlotIx) (v : RowView) (contone : Nat → Nat) (s : State) : State :=
  let r := s.computeSlot k v m contone
  let t := s.onBar k fun b => { b with
    acc := r.acc
    seams := (b.seams.filter fun x => decide (x.slot ≠ m.1) || decide (x.row ≠ v.n)) ++ r.seam.toList
    lost := sat32 (b.lost + r.lost), sat := sat32 (b.sat + r.sat), edSat := satTo 65535 (b.edSat + r.edSat) }
  ((t.count (2 * 64 + 8 * k.1 + 4) r.edSat).count (2 * 64 + 8 * k.1 + 6) r.sat).setPart k m v.n r.vals

/-- R179: the engine that serves a slot of a bar. -/
def slotEngine (s : State) (k : BarIx) (m : SlotIx) : Nat :=
  s.fld (aSeAssign k.1 + 4 * (m.1 / 4)) (8 * (m.1 % 4) + 6) (8 * (m.1 % 4))

/-- R207, R229: a check that fails while a row is computed. -/
def rowFault (k : BarIx) (m : SlotIx) (id : BitVec 32) (row : Nat) (f : RowFault) (s : State) : State :=
  match f with
  | .seResidue =>
    let e := s.slotEngine k m
    let t := match fin? 68 e with
      | some i => s.onEngineU i fun u => { u with residue := satTo 255 (u.residue + 1) }
      | none => s
    t.sheetError 0x0403 .s id row (unitBar k) 0 8
  | .retSeam => (s.onBar k fun b => { b with seam := satTo 255 (b.seam + 1) }).sheetError 0x0503 .s id row (unitBar k) 0 9
  | .retResidue =>
    (s.onBar k fun b => { b with residue := satTo 255 (b.residue + 1) }).sheetError 0x0504 .s id row (unitBar k) 0 9

/-- R448: while LOST is set, a sheet at or after s_last that a bar begins is marked. -/
def overlayMissing (id : BitVec 32) (row : Nat) (s : State) : State :=
  if s.ovl.lost && decide (row = 0) && s.sinceLast id then s.sheetError 0x0F0A .s id 0 unitNone 0 0x14 else s

/-- R513: a row takes the next number, and a trim epoch that it begins starts. -/
def numberRow (k : BarIx) (sh : Sheet) (keys : List BandKey) (noData : Option Code) (s : State) : State :=
  let row := sh.computed[k]
  let t := s.trimBoundaries k
  let t := t.onBar k fun b => { b with grow := b.grow + 1, rows := b.rows ++ [freshRow b.grow sh row keys noData] }
  (t.onSheet sh.id fun x => { x with
    computed := x.computed.set k.1 (row + 1) k.2, reached := upd x.reached k (max (row + 1)) }).overlayMissing sh.id row

/-- The row that slot m takes next: an unfinished one, or a new one of the first sheet that has rows left. -/
def nextRow (s : State) (k : BarIx) (m : SlotIx) : Option (Sheet × Nat × Nat × Bool) :=
  match s.bar[k].rows.find? fun r => r.parts[m].isNone with
  | some r => (s.sheet? r.sheet).map fun sh => (sh, r.n, r.srow, false)
  | none => (s.sheetToCompute k).map fun sh => (sh, s.bar[k].grow, sh.computed[k], true)

/-- R182: slot m computes row n, the sheet's row `row`, from its sources. -/
def computeRow (k : BarIx) (m : SlotIx) (sh : Sheet) (n row : Nat) (new : Bool) (src : RowSource) (s : State) : State :=
  let contone := s.contoneOf k sh row src
  let v := s.rowView sh n row
  let t := if new then
    let t := s.numberRow k sh src.keys src.noData
    if src.noData.isNone && decide (sh.reached[k] ≤ row) then t.tapRows k sh row contone else t
  else s.onBar k fun b => { b with rows := b.rows.map fun r => if r.n = n then { r with works := src.keys } else r }
  let void := (t.bar[k].rows.find? fun r => decide (r.n = n)).bind (·.noData)
  if void.isSome then t.voidPart k m n
  else
    let t := t.clearState k m v
    (t.when (t.needsPart k sh.id n src.keys) (writeCheck k m n)).dataPart k m v contone

/-- R182, R220, R222, R233: slot m of a bar computes its next row, when all it needs is there. -/
def rowCompute (k : BarIx) (m : SlotIx) (fault : Option RowFault) (s : State) : State :=
  match s.nextRow k m with
  | none => s
  | some (sh, n, row, new) =>
    if !s.slotsFree k n || !s.staggerOk k m n then s
    else
      let ended := (s.bar[k].rows.find? fun r => decide (r.n = n)).bind (·.noData)
      let src := if ended.isSome then some ⟨none, [], [], ended⟩ else s.rowSource k sh n row
      match src with
      | none => s
      | some a =>
        if a.noData.isNone && s.needsPart k sh.id n a.keys && decide (24 ≤ s.bar[k].checks.length) then s
        else
          let t := s.computeRow k m sh n row new a
          match fault with
          | some f => if a.noData.isSome then t else t.rowFault k m sh.id row f
          | none => t

/-! ## Writing (R231, R233) -/

/-- R19, R225: the codes of a port in a row, of slots 2i and 2i + 1 of the bar, by the port's table and width. -/
def portCodes (s : State) (r : Row) (p : PortIx) : List Nat :=
  let part := fun (i : Nat) => match fin? 8 i with
    | some m => (r.parts[m]).getD []
    | none => []
  (part (2 * (p.1 % 4)) ++ part (2 * (p.1 % 4) + 1)).map (s.portCode p)

/-- A row as a port's queue holds it. -/
def queueRow (s : State) (r : Row) (p : PortIx) : QRow :=
  ⟨r.n, r.sheet, r.srow, s.portCodes r p, r.noData.isSome, false, false, false, 0, false, none⟩

/-- A row that ends void before it is written, as a port's queue holds it (R238, R239). -/
def voidRow (x : Nat × BitVec 32 × Nat) : QRow := ⟨x.1, x.2.1, x.2.2, [], true, false, false, false, 0, false, none⟩

/-- R238: the rows next to be written to a queue of Q slots that have ended void take their slots; at most `fuel` of them. -/
def settleLate (Q : Nat) : Nat → Port → Port
  | 0, q => q
  | fuel + 1, q =>
    match q.late.find? fun x => decide (x.1 = q.wr) with
    | some x =>
      if q.wr < q.fire + Q then
        settleLate Q fuel { q with
          rows := q.rows ++ [voidRow x], wr := q.wr + 1, late := q.late.filter fun y => decide (y.1 ≠ x.1) }
      else q
    | none => q

/-- R238: a port's void rows take their slots. -/
def settlePort (p : PortIx) (s : State) : State := s.onPort p fun q => settleLate (s.slots p) q.late.length q

/-- R233, R240: the row goes to every live port that has joined; a port that has ended it void keeps it void. -/
def writePorts (k : BarIx) (r : Row) (s : State) : State :=
  s.forEach (s.livePorts k) fun p t => (t.onPort p fun q =>
    if q.joinAt ≤ r.n ∧ q.wr ≤ r.n then { q with rows := q.rows ++ [s.queueRow r p], wr := r.n + 1 } else q).settlePort p

/-- The row counts as written. -/
def markWritten (k : BarIx) (n : Nat) (s : State) : State :=
  s.onBar k fun b => { b with rows := b.rows.map fun r => if r.n = n then { r with written := true } else r }

/-- A row computed again replaces the codes that the ports hold of it. -/
def rewriteCodes (k : BarIx) (r : Row) (s : State) : State :=
  s.forEach (portsOf k) fun p t => t.onPort p fun q => { q with
    rows := q.rows.map fun x => if x.n = r.n ∧ !x.sent ∧ !x.void then { x with codes := s.portCodes r p } else x }

/-- R233: the bar's first unwritten row is written once its last part is done. -/
def rowWrite (k : BarIx) (s : State) : State :=
  match s.bar[k].rows.find? fun r => !r.written with
  | none => s
  | some r =>
    if rowComplete r && s.slotsFree k r.n then
      (((s.writePorts k r).markWritten k r.n).releaseRows k)
    else s

/-- The bar's rows that are written and complete keep the ports' codes. -/
def refresh (k : BarIx) (n : Nat) (s : State) : State :=
  match s.bar[k].rows.find? fun r => decide (r.n = n) with
  | some r => if r.written && rowComplete r then (s.rewriteCodes k r).releaseRows k else s
  | none => s

end State

/-! ## The commands -/

/-- R182: slot `m` of bar `k` computes its next row. -/
def execRowCompute (k : BarIx) (m : SlotIx) (fault : Option RowFault) (s : State) : Result :=
  .next (if s.up && s.barRuns k then
    let n := (s.nextRow k m).map fun q => q.2.1
    let t := s.rowCompute k m fault
    match n with
    | some n => t.refresh k n
    | none => t
  else s)

/-- R233: the bar writes its next row to its ports. -/
def execRowWrite (k : BarIx) (s : State) : Result :=
  .next (if s.up && s.barRuns k then s.rowWrite k else s)

end Sys2Proof.Machine
end

