-- ==== Sys2Proof/Machine/Prism.lean ====
section
/-!
DEFINITION. Prism's port queues at work: transmission and replay (R235, R236, R264), the module's responses (R266,
R267), and the delivery and acknowledge deadlines (R237, R238).
-/
namespace Sys2Proof.Machine

/-- R231: `n` bytes of a row, from codes of w bits each, the first in the lowest bits. -/
def packCodes (w : Nat) : Nat → List Nat → List Byte
  | 0, _ => []
  | n + 1, l =>
    BitVec.ofNat 8 ((l.take (8 / w)).foldr (fun c a => c % 2 ^ w + a * 2 ^ w) 0) :: packCodes w n (l.drop (8 / w))

/-- The row of a port's queue with a global number. -/
def Port.row? (q : Port) (n : Nat) : Option QRow := q.rows.find? fun r => decide (r.n = n)
/-- Change a row of a port's queue. -/
def Port.onRow (n : Nat) (g : QRow → QRow) (q : Port) : Port :=
  { q with rows := q.rows.map fun r => if r.n = n then g r else r }

/-- R238: a port ends row n, a sheet's row, void: in its queue, or ahead of its writing. -/
def Port.endVoid (n : Nat) (id : BitVec 32) (row : Nat) (q : Port) : Port :=
  if q.rows.any fun r => decide (r.n = n) then q.onRow n fun r => { r with void := true }
  else if q.late.any fun x => decide (x.1 = n) then q
  else { q with late := q.late ++ [(n, id, row)] }

/-- R232, R238: TX passes over rows that are never transmitted, and MK is the oldest transmitted row whose
acknowledgement is still awaited. -/
def Port.settle (q : Port) : Port :=
  let skipped := (q.rows.filter fun r => decide (q.tx ≤ r.n ∧ r.n < q.rel)).takeWhile fun r => r.void || r.given
  let tx := q.tx + skipped.length
  { q with
    tx := tx
    mark := ((q.rows.find? fun r => decide (r.n < tx) && r.sent && !r.acked && !r.given && !r.void).map (·.n)).getD tx }

namespace State

/-- R382: the port belongs to an Occulter run. -/
def testing (s : State) (p : PortIx) : Bool := decide (s.occ.state = 1) && decide (s.fld (aCal 0x1000) 31 27 = p.1)

/-- The port's link carries traffic, and the port runs in service or under test. -/
def portLive (s : State) (p : PortIx) : Bool :=
  s.portRuns p && (s.inService p || s.testing p) && decide (s.port[p].link.lstate = 6)

/-- An error of a row at a port; a test row is of no sheet (R382). -/
def portError (code : Code) (cls : Cls) (p : PortIx) (r : QRow) (s : State) : State :=
  if s.testing p then s else s.sheetError code cls r.sheet r.srow (unitPort p) 0 0x0A

/-- The bytes of a row on a port (R231). -/
def rowBytes (s : State) (p : PortIx) (r : QRow) : List Byte := packCodes (s.width p) (2048 * s.width p) r.codes

/-! ## The acknowledge deadline (R237, R238) -/

/-- R238: row n, released, is not acknowledged at its acknowledge deadline. -/
def unacked (p : PortIx) (n : Nat) (s : State) : State :=
  match s.port[p].row? n with
  | none => s
  | some r =>
    if r.acked || r.given || r.void || decide (s.port[p].rel ≤ n) then s
    else
      (s.onPort p fun q => ({ q with replayQ := q.replayQ.filter fun x => decide (x ≠ n) }.onRow n fun x =>
        { x with given := true, waitAck := false }).settle).portError 0x0604 .s p r

/-- R382: the leading edge of a test row, in 2.5 ns. -/
def testEdge (s : State) (i : Nat) : Nat := s.occ.first + i * s.fld (aCal 0x1008) 31 16 * 40

/-- R237, R382: the acknowledge deadline of a row held by a port, in 1/16 ns. -/
def rowAckBy (s : State) (p : PortIx) (r : QRow) : Option Nat :=
  if s.testing p then some (40 * s.testEdge (r.n - s.occ.row0) - 1600 * s.fld (aPrmPort p.1 4) 7 0)
  else s.ackBy r.sheet p r.srow

/-- R237: the acknowledge deadline of a row held by a port has come: what is seen in that tick is late. -/
def ackCome (s : State) (p : PortIx) (r : QRow) : Bool := (s.rowAckBy p r).any fun d => decide (d ≤ s.now16)

/-! ## Transmission and replay (R235, R236, R238, R264) -/

/-- R238: the slot of a row reads uncorrectable: the row ends void, and is not transmitted again. -/
def queueData (p : PortIx) (r : QRow) (s : State) : State :=
  (s.onPort p fun q => (({ q with replayQ := q.replayQ.filter fun n => decide (n ≠ r.n) }.onRow r.n fun x =>
    { x with void := true, given := true, waitAck := false }).settle)).portError 0x0606 .s p r

/-- A row frame begins on the lanes. -/
def sendFrame (p : PortIx) (r : QRow) (again : Bool) (s : State) : State :=
  (s.onPort p fun q => ({ q with
      sending := some (r.n, again), tx := max q.tx (r.n + 1), replayQ := q.replayQ.filter fun n => decide (n ≠ r.n)
      replays := if again then satTo 65535 (q.replays + 1) else q.replays }.onRow r.n fun x =>
    { x with sent := true, waitAck := false, replays := if again then x.replays + 1 else x.replays }).settle).beginBlocks p
    (rowFrame p r.sheet r.srow r.n (s.rowBytes p r))

/-- R235: the next released row below FIRE + LEAD is transmitted for the first time. -/
def transmit (p : PortIx) (badWord : Bool) (s : State) : State :=
  let q := s.port[p].settle
  if !s.portLive p || !s.laneFree p || !q.replayQ.isEmpty || decide (q.rel ≤ q.tx) || decide (q.fire + s.lead p ≤ q.tx) then s
  else match q.row? q.tx with
    | none => s
    | some r => if badWord then s.queueData p r else s.sendFrame p r false

/-- R236, R238: the oldest row that waits for a replay is sent again, while its acknowledge deadline has not come. -/
def replay (p : PortIx) (badWord : Bool) (s : State) : State :=
  if !s.portLive p || !s.laneFree p then s
  else match s.port[p].replayQ with
    | [] => s
    | n :: _ => match s.port[p].row? n with
      | none => s
      | some r =>
        if s.ackCome p r then s.unacked p r.n
        else if badWord then s.queueData p r else (s.sendFrame p r true).count (2 * p.1 + 1) 1

/-- R236, R264: the row frame has left the lanes, and the wait for its answer begins. -/
def frameEnd (p : PortIx) (s : State) : State :=
  match s.port[p].sending with
  | none => s
  | some (n, _) =>
    (((s.endBlocks p).onPort p fun q => ({ q with sending := none }.onRow n fun r => { r with waitAck := !r.acked && !r.given })).count
      (2 * p.1) 1).pass 0 p.1 (2048 * s.width p)

/-! ## Responses (R266, R267) -/

/-- The low 40 bits of a row number match those of a response. -/
def row40 (n : Nat) (row : BitVec 40) : Bool := decide (n % 2 ^ 40 = row.toNat)

/-- R236, R238: row n is acknowledged before its deadline: class P when it was replayed. -/
def acknowledge (p : PortIx) (r : QRow) (s : State) : State :=
  let t := s.onPort p fun q => ({ q with replayQ := q.replayQ.filter fun n => decide (n ≠ r.n) }.onRow r.n fun x =>
    { x with acked := true, waitAck := false }).settle
  if 0 < r.replays then t.portError 0x0605 .p p r else t

/-- R236: row n is to be replayed. The manual gives no order among rows that wait for a replay: they are replayed in the
order in which that was asked for (DESIGN CHOICE, log entry 89). -/
def wantReplay (p : PortIx) (n : Nat) (s : State) : State :=
  s.onPort p fun q => { q with
    replayQ := if q.replayQ.contains n then q.replayQ else q.replayQ ++ [n]
    }.onRow n fun x => { x with waitAck := false }

/-- R257: an invalid block is discarded and counted. -/
def invalidBlock (p : PortIx) (s : State) : State := s.onLink p fun l => { l with invalid := l.invalid + 1 }

/-- R267: a valid RESP. -/
def response (p : PortIx) (row : BitVec 40) (code : Byte) (s : State) : State :=
  let q := s.port[p]
  let t := if code = 0 then s
    else (s.onLink p fun l => { l with nak := satTo 65535 (l.nak + 1) }).count (64 + 2 * p.1) 1
  match q.rows.find? fun r => row40 r.n row && r.sent && !r.acked && !r.given with
  | some r => if t.ackCome p r then t.unacked p r.n else if code = 0 then t.acknowledge p r else t.wantReplay p r.n
  | none =>
    if q.rows.any (fun r => row40 r.n row && r.sent) || q.old.any fun n => row40 n row then
      t.onLink p fun l => { l with dup := satTo 255 (l.dup + 1) }
    else t.portFault p 4 .s

/-! ## Deadlines (R237, R238) -/

/-- R238: row n is not released at its delivery deadline at these ports: it ends void there. The bar computes it all the
same, for the rows behind it. -/
def lateRow (k : BarIx) (n : Nat) (ports : List PortIx) (s : State) : State :=
  match s.rowAt k n with
  | none => s
  | some (id, row) =>
    let t := (s.lateEvents k id row).forEach ports fun p u => (u.onPort p (Port.endVoid n id row)).settlePort p
    (t.releaseRows k).forEach (portsOf k) fun p u => u.onPort p Port.settle

/-- The ports at which row n is still to be released, and has not ended void. -/
def unreleased (s : State) (k : BarIx) (n : Nat) : List PortIx :=
  (s.livePorts k).filter fun p => decide (s.port[p].rel ≤ n ∧ s.port[p].joinAt ≤ n)
    && !(s.port[p].late.any fun x => decide (x.1 = n)) && !((s.port[p].row? n).any (·.void))

/-- R237: the ports of a bar at which the delivery deadline of row n has come and the row is not released. -/
def latePorts (s : State) (k : BarIx) (n : Nat) : List PortIx :=
  match s.rowAt k n with
  | none => []
  | some (id, row) => (s.unreleased k n).filter fun p => s.deliveryCome p id row

/-- R237, R297: both deadlines of row n arrive at a port. -/
def expire (p : PortIx) (n : Nat) (s : State) : State :=
  let t := if (s.unreleased (barOf p) n).contains p then s.lateRow (barOf p) n [p] else s
  t.unacked p n

end State

/-! ## The commands -/

/-- R235: a released row below FIRE + LEAD begins transmission. -/
def execRowTransmit (p : PortIx) (badWord : Bool) (s : State) : Result := .next (s.transmit p badWord)

/-- R236: a replay begins. -/
def execRowReplay (p : PortIx) (badWord : Bool) (s : State) : Result := .next (s.replay p badWord)

/-- R264: the last block of a row frame has been sent. -/
def execRowFrameEnd (p : PortIx) (s : State) : Result := .next (s.frameEnd p)

/-- R266, R267: a RESP arrives; codes above 5 break its layout (R257). -/
def execRespRx (p : PortIx) (row : BitVec 40) (code : Byte) (s : State) : Result :=
  if s.port[p].link.lstate ≠ 6 then .next s
  else if 5 < code.toNat then .next (s.invalidBlock p)
  else .next (s.response p row code)

/-- R236: ACK_TO has passed since the last frame of a row was sent. -/
def execAckTimeout (p : PortIx) (row : Nat) (s : State) : Result :=
  match s.port[p].row? row with
  | some r => .next (if s.portLive p && r.waitAck && !r.acked && !r.given then
      (if s.ackCome p r then s.unacked p row else s.wantReplay p row) else s)
  | none => .next s

/-- R237, R238: the delivery deadline of a bar's row. -/
def execDeliveryDeadline (k : BarIx) (row : Nat) (s : State) : Result :=
  let l := s.latePorts k row
  .next (if s.up && s.barRuns k && !l.isEmpty then s.lateRow k row l else s)

/-- R237, R238: the acknowledge deadline of a row at a port. -/
def execAckDeadline (p : PortIx) (row : Nat) (s : State) : Result :=
  match s.port[p].row? row with
  | some r => .next (if s.up && s.portRuns p && s.ackCome p r then s.unacked p row else s)
  | none => .next s

end Sys2Proof.Machine
end

