-- ==== Sys2Proof/Machine/Nozzles.lean ====
section
/-!
DEFINITION. The areas of the usable spool (R131, R189, R346, R347), and the nozzle state that firmware manages:
findings (R385), replacement (R386), and the bar stops that firmware queues on ring 0 (R379, R386).
-/
namespace Sys2Proof.Machine

/-- Two byte ranges share a byte. -/
def overlap (a b : Nat × Nat) : Bool := decide (a.1 < b.2 ∧ b.1 < a.2)

/-- Rounded up to a whole MB. -/
def toMB (n : Nat) : Nat := (n + 1048575) / 1048576 * 1048576

/-- R107, R149: a FUNCTION entry as firmware queues it on ring 0: KIND, INDEX, ACTION, WHEN, AT_SHEET and FLAGS. -/
def functionEntry (kind index action when_ at_ flags : Nat) : Entry :=
  BitVec.ofNat 512 (6 + flags * 256 + kind * 256 ^ 24 + index * 256 ^ 25 + action * 256 ^ 26 + when_ * 256 ^ 27
    + at_ * 256 ^ 28)

namespace State

/-! ## Areas (R346, R347) -/

/-- R131: the spool ring. -/
def ringArea (s : State) : Nat × Nat := (s.ringBase, s.ringBase + 64 * s.ringUnits)

/-- R347: WIDTH, LINES, OUT_FMT, and the sizes of the parts of a camera's area. -/
def camWidth (s : State) (c : CamIx) : Nat := s.fld (aCam c.1 4) 15 0
def camLines (s : State) (c : CamIx) : Nat := s.fld (aCam c.1 4) 31 16
def camFmt (s : State) (c : CamIx) : Nat := s.fld (aCam c.1 0) 21 20
def rawSlots (s : State) (c : CamIx) : Nat := s.fld (aCam c.1 0) 19 16
def imgSlots (s : State) (c : CamIx) : Nat := s.fld (aCam c.1 0) 15 8
def statSlots (s : State) (c : CamIx) : Nat := s.fld (aCam c.1 0) 7 0
def ffBankSize (s : State) (c : CamIx) : Nat := s.camWidth c * 2 ^ s.fld (aCam c.1 8) 23 20 * 2
def rawSize (s : State) (c : CamIx) : Nat := s.camWidth c * s.camLines c * 2
def imgSize (s : State) (c : CamIx) : Nat :=
  s.camWidth c / 2 * (s.camLines c / 2) * (if s.camFmt c = 2 then 3 else 6)
def camBase (s : State) (c : CamIx) : Nat := s.fld (aCam c.1 8) 16 0 * 1048576
def rawBase (s : State) (c : CamIx) : Nat := s.camBase c + toMB (2 * s.ffBankSize c)
def imgBase (s : State) (c : CamIx) : Nat :=
  s.rawBase c + if c.1 = 0 then 0 else toMB (s.rawSlots c * s.rawSize c)
def recBase (s : State) (c : CamIx) : Nat := s.imgBase c + toMB (s.imgSlots c * s.imgSize c)
/-- R347: a camera's whole area. -/
def camArea (s : State) (c : CamIx) : Nat × Nat := (s.camBase c, s.recBase c + s.statSlots c * 524288)

/-- R346: the ring, the device area or the area of a camera other than `but` shares a byte with a range, or the range
leaves the usable spool. -/
def areaTaken (s : State) (but : Option CamIx) (a : Nat × Nat) : Bool :=
  overlap a s.ringArea || overlap a (deviceArea, spoolSize) || decide (spoolSize < a.2)
    || (all 4).any fun c => decide (some c ≠ but) && overlap a (s.camArea c)

/-! ## Nozzle state (R385, R386) -/

/-- AUTO_OUT and FREEZE of a bar. -/
def autoOut (s : State) (k : BarIx) : Bool := s.fbit (aCalBar k.1 0) 30
def calFrozen (s : State) (k : BarIx) : Bool := s.fbit (aCalBar k.1 0) 31

/-- The bar channel of a port nozzle. -/
def barChannel (p : PortIx) (nozzle : Nat) : Nat := p.1 % 4 * 16384 + nozzle % 16384

/-- Records of a bar's nozzle changes, in force or still to be appended. -/
def nozzleRecords (s : State) (k : BarIx) (kind : Nat) : List Record :=
  (s.recorded kind ++ s.cal.pending.filter fun x => decide (x.kind = kind)).filter fun x => decide (x.unit.toNat = k.1)

/-- The channel is off or listed out, or a change of it waits. -/
def channelOut (s : State) (k : BarIx) (j : Nat) : Bool :=
  let t := s.bar[k].active
  chOut t j || decide (mapKind (tget mapDefault t.map j) = 3)
    || (s.nozzleRecords k 8).any (fun x => decide (x.new.toNat = j))
    || (s.nozzleRecords k 0xA).any fun x => decide (x.old.toNat = j)

/-- R386: the lowest-numbered reserve channel of a channel's group. -/
def reserveOf (s : State) (k : BarIx) (j : Nat) : Option Nat :=
  let m := s.bar[k].active.map
  let g := mapGroup (tget mapDefault m j)
  if g = 0 then none
  else (m.map (·.1)).find? fun i =>
    let e := tget mapDefault m i
    decide (mapKind e = 2) && decide (mapGroup e = g) && !(s.nozzleRecords k 0xA).any fun x => decide (x.new.toNat = i)

/-- R386: a channel is replaced by a reserve, or listed out: firmware has a record to append. -/
def replaceChannel (k : BarIx) (j : Nat) (s : State) : State :=
  if s.channelOut k j || decide (mapKind (tget mapDefault s.bar[k].active.map j) = 2) then s
  else match s.reserveOf k j with
    | some r => s.queueRecord 0xA k.1 j r
    | none =>
      let t := s.queueRecord 8 k.1 0 j
      if (0 < j && s.channelOut k (j - 1)) || (decide (j < 65535) && s.channelOut k (j + 1)) then
        t.errorUnit 0x0C05 .c (unitBar k) 0 0x10
      else t

/-- R385: the event of a finding: 0 good, 1 weak, 2 failed, 3 untested. -/
def findingEvent (j kind : Nat) (s : State) : State :=
  s.status 0x0C04 (BitVec.ofNat 64 (j % 65536 + kind * 65536)) 0 0x10

/-- R385: a channel is found failed. -/
def foundFailed (k : BarIx) (j : Nat) (s : State) : State :=
  let t := s.findingEvent j 2
  if s.autoOut k then t.replaceChannel k j else t

/-- R385: Occulter finds a channel good: the second good run in a row returns a channel that is listed out. -/
def foundGood (k : BarIx) (j : Nat) (s : State) : State :=
  if !chOut s.bar[k].active j then s
  else if s.cal.goodRun.contains (k.1, j) then
    let t := (s.onCal fun c => { c with goodRun := c.goodRun.filter fun q => decide (q ≠ (k.1, j)) }).findingEvent j 0
    if s.autoOut k then t.queueRecord 9 k.1 j 0 else t
  else s.onCal fun c => { c with goodRun := (k.1, j) :: c.goodRun }

/-- R385: what Occulter's verdict on a channel leads to. -/
def occulterFinding (k : BarIx) (j verdict : Nat) (s : State) : State :=
  if verdict = 0 then s.foundGood k j
  else
    let t := s.onCal fun c => { c with goodRun := c.goodRun.filter fun q => decide (q ≠ (k.1, j)) }
    if verdict = 2 then t.foundFailed k j else t.findingEvent j verdict

/-! ## Firmware's bar stops (R379, R386) -/

/-- R379, R386: firmware queues a stop of the bar on ring 0, after the next sheet that no bar has begun, and its
restart. -/
def queueBarStop (k : BarIx) (s : State) : State :=
  let at_ := match s.job.sheets.find? fun sh => !sh.begun with
    | some sh => sh.id.toNat
    | none => (s.job.lastId.map (·.toNat)).getD 0
  (s.onRing 0 fun c => { c with fetched := c.fetched ++
      [(functionEntry 1 k.1 0 1 at_ 0, 0), (functionEntry 1 k.1 1 0 0 1, 0)] }).onCal fun c => { c with
    stopQ := c.stopQ.set k.1 true k.2 }

/-- R386: changes that wait for a bar stop lead to one, at most one per bar per second. -/
def stopForChanges (k : BarIx) (s : State) : State :=
  if s.barRuns k && !s.cal.holdoff[k] && !s.cal.stopQ[k] && !s.cal.pendBar[k].isEmpty then
    (s.queueBarStop k).onCal fun c => { c with holdoff := c.holdoff.set k.1 true k.2 }
  else s

/-- R386: a nozzle change whose record is appended waits for the bar's stop. -/
def noteChange (k : BarIx) (j r : Nat) (s : State) : State :=
  (s.onCal fun c => { c with pendBar := upd c.pendBar k fun l => l ++ [(j, r)] }).stopForChanges k

end State

/-- R386: one second has passed since firmware's last nozzle-change stop of the bar. -/
def execNozzleStopHoldoffExpiry (k : BarIx) (s : State) : Result :=
  .next (if s.cal.holdoff[k] then
    (s.onCal fun c => { c with holdoff := c.holdoff.set k.1 false k.2 }).stopForChanges k
  else s)

end Sys2Proof.Machine
end

