-- ==== Sys2Proof/Machine/Link.lean ====
section
/-!
DEFINITION. The Abbor link of a head port (R253 to R281): training, heartbeats, faults, status from the module, idle
fill, and the live eye scan.
-/
namespace Sys2Proof.Machine

/-- R240, R280: a port as its restart leaves it: five positions at row `n`, an empty queue and cleared counters. -/
def Port.restart (n : Nat) (q : Port) : Port :=
  { q with fire := n, mark := n, tx := n, rel := n, wr := n, joinAt := n, rows := [], late := [], sending := none, replayQ := []
           replays := 0, commit := none
           link := { q.link with nak := 0, bip := 0, dup := 0, fault := 0, modCause := 0 } }

namespace State

/-! ## Training (R261 to R263, R272) -/

/-- R259: the physical lanes of stream lanes 0 and 1 by ABR_PORTn_CFG. -/
def laneSrc (s : State) (p : PortIx) : Nat × Nat := (s.fld (aAbr p.1 0) 25 24, s.fld (aAbr p.1 0) 27 26)
/-- PREINV_EN. -/
def preinvEn (s : State) (p : PortIx) : Bool := s.fbit (aAbr p.1 0) 30

/-- R272: a restart of the port trains. -/
def mustTrain (s : State) (p : PortIx) : Bool :=
  decide (s.port[p].link.lstate ≠ 6) || s.fbit (aAbr p.1 0) 31 || decide (s.port[p].link.trained ≠ some (s.laneSrc p))

/-- A physical lane by its code in LANEx_SRC; code 3 names none, and no restart accepts it (R280). -/
def lane3 (n : Nat) : Fin 3 := ⟨n % 3, Nat.mod_lt _ (by decide)⟩

/-- R261: training begins with T0: the TX lanes go to electrical idle, and the stream lanes are those that the register names. -/
def beginTraining (p : PortIx) (s : State) : State :=
  (((s.cutStream p).leaveT6 p).onLink p fun l => { l with
    lanes := (lane3 (s.laneSrc p).1, lane3 (s.laneSrc p).2)
    lstate := 0, training := true, fault := 0, modCause := 0, preinv := 0, swapped := false, rxInv := false
    caps := ModCaps.none, trainCnt := 0, report := none, alike := 0, sub1 := false, pings := 0, pingMax := 0
    echoWait := false, bursting := false, idle := true }).emit (.lanesIdle p)

/-- R261: training fails: the port stays stopped. -/
def failTraining (p : PortIx) (s : State) : State :=
  let t := (s.catchUp p).onLink p fun l => { l with lstate := 7, fault := 6, training := false, echoWait := false }
  if s.testing p then t.errorUnit 0x0701 .c (unitPort p) 0 0x0B else t

/-- R261: the next TRAIN in its place on both stream lanes. -/
def sendTrain (p : PortIx) (s : State) : State := s.putMany p ((8 - s.port[p].link.sent % 8) % 8 + 2)

/-- R259, R261: T1: the lanes leave electrical idle with an ALIGN on both. -/
def enterT1 (p : PortIx) (s : State) : State :=
  ((s.onLink p fun l => { l with lstate := 1, idle := false, trainCnt := 0, sent := 0, queue := [] }).putAlign p).sendTrain p

/-- R258: CONFIG with the port's number and width code; its echo is awaited. -/
def sendConfig (p : PortIx) (s : State) : State :=
  (s.onLink p fun l => { l with echoWait := true }).sendBlock p
    (ctrlBlock 0x5A [BitVec.ofNat 8 p.1, BitVec.ofNat 8 (s.fld (aPrmPort p.1 0) 31 30)])

/-- R258: PING with a sequence number. -/
def sendPing (p : PortIx) (seq : Nat) (s : State) : State := s.sendBlock p (ctrlBlock 0x66 (leBytes 2 seq))

/-- T4: CONFIG is sent. -/
def enterT4 (p : PortIx) (s : State) : State := ((s.catchUp p).onLink p fun l => { l with lstate := 4 }).sendConfig p

/-- R260: input i of a sub-0 report: the lane seen (3 none) and whether it arrives inverted. -/
def reportInput (r : Word) (i : Nat) : Nat × Bool :=
  let b := r.toNat
  match i with
  | 0 => (bits b 1 0, bit b 2)
  | 1 => (bits b 4 3, bit b 5)
  | _ => (bits b 7 6, bit b 8)

/-- The module's deskew, polarity correction and lane-order correction in a report. -/
def reportDeskew (r : Word) : Bool := r.getLsbD 9
def reportPol (r : Word) : Bool := r.getLsbD 10
def reportOrder (r : Word) : Bool := r.getLsbD 11

/-- R262: the physical lanes of the stream lanes, after any exchange. -/
def physLanes (s : State) (p : PortIx) : Nat × Nat := (s.port[p].link.lanes.1.1, s.port[p].link.lanes.2.1)

/-- R262: the stream lanes that must be pre-inverted, by physical lane. -/
def invNeeded (s : State) (p : PortIx) (r : Word) : List Nat :=
  if reportPol r then []
  else [(s.physLanes p).1, (s.physLanes p).2].filter fun l =>
    (List.range 3).any fun i => decide ((reportInput r i).1 = l) && (reportInput r i).2

/-- R262: the stream lanes must be exchanged. -/
def swapNeeded (s : State) (p : PortIx) (r : Word) : Bool :=
  let l := s.physLanes p
  !reportOrder r && !(decide ((reportInput r 0).1 = l.1) && decide ((reportInput r 1).1 = l.2))

/-- R262: neither stream lane reaches M0 or M1 of a module without lane-order correction. -/
def lanesLost (s : State) (p : PortIx) (r : Word) : Bool :=
  let l := s.physLanes p
  !reportOrder r && !((List.range 2).any fun i => decide ((reportInput r i).1 = l.1 ∨ (reportInput r i).1 = l.2))

/-- R261, R262: four reports alike, with deskew done, in T2 or T3. -/
def judgeReport (p : PortIx) (r : Word) (s : State) : State :=
  let inv := s.invNeeded p r
  let swap := s.swapNeeded p r
  let t := s.onLink p fun l => { l with caps := { l.caps with
    corr := BitVec.ofNat 2 (b2n (reportPol r) + 2 * b2n (reportOrder r)) } }
  if inv.isEmpty && !swap then t.enterT4 p
  else if !s.preinvEn p || s.lanesLost p r then t.failTraining p
  else if s.port[p].link.lstate = 2 then
    ((t.catchUp p).onLink p fun l => { l with
      lstate := 3, swapped := swap, report := none, alike := 0
      lanes := if swap then (l.lanes.2, l.lanes.1) else l.lanes
      preinv := inv.foldl (fun (v : BitVec 3) i => v ||| BitVec.ofNat 3 (2 ^ i)) 0 }).sendTrain p
  else t

/-- T2, T3: a sub-0 report. -/
def takeReport (p : PortIx) (r : Word) (s : State) : State :=
  let l := s.port[p].link
  let n := if l.report = some r then l.alike + 1 else 1
  let t := s.onLink p fun l => { l with report := some r, alike := n }
  if 4 ≤ n ∧ reportDeskew r ∧ (l.sub1 ∨ l.lstate = 3) then t.judgeReport p r else t

/-- T2: a sub-1 block: the module's figures. -/
def takeCaps (p : PortIx) (d : Word) (s : State) : State :=
  let rowbuf := bits d.toNat 15 0
  if 1 ≤ rowbuf ∧ rowbuf ≤ 512 then
    let t := s.onLink p fun l => { l with sub1 := true, caps := { l.caps with
      rowbuf := rowbuf, stage := bits d.toNat 23 16, widths := BitVec.ofNat 4 (bits d.toNat 27 24), nsens := bits d.toNat 31 28 } }
    (match s.port[p].link.report with
    | some r => if 4 ≤ s.port[p].link.alike ∧ reportDeskew r then t.judgeReport p r else t
    | none => t)
  else s.invalidBlock p

/-- A valid TRAIN block. -/
def train (p : PortIx) (inverted : Bool) (step sub : Nat) (d : Word) (s : State) : State :=
  let l := s.port[p].link
  if !l.training then s
  else if l.lstate = 1 then
    if step = 1 then
      let t := s.onLink p fun l => { l with rxInv := inverted, trainCnt := l.trainCnt + 1 }
      if l.lock ∧ 16 ≤ l.trainCnt + 1 then
        ((t.catchUp p).onLink p fun l => { l with lstate := 2, report := none, alike := 0, sub1 := false }).sendTrain p
      else t
    else s
  else if l.lstate = 2 ∧ step = 2 ∧ sub = 1 then s.takeCaps p d
  else if (l.lstate = 2 ∨ l.lstate = 3) ∧ step = 2 ∧ sub = 0 then s.takeReport p d
  else s

/-- R258, R261: the step data that a module may send: none in step 1, a report whose last two bytes are 0, or its figures. -/
def trainForm (step sub : Nat) (d : Word) : Bool :=
  if step = 1 then decide (sub = 0 ∧ d = 0)
  else decide (step = 2) && (decide (sub = 1) || decide (sub = 0 ∧ d.toNat < 65536))

/-- R268: STROBE_SYNC with the row of the port's next leading edge. -/
def sendSync (p : PortIx) (s : State) : State := s.sendBlock p (ctrlBlock 0x33 (leBytes 6 s.port[p].fire))

/-- T5: a PONG; the eighth ends training, or fails it (R263). -/
def pong (p : PortIx) (seq trip : Nat) (s : State) : State :=
  let l := s.port[p].link
  if !(l.training && decide (l.lstate = 5) && decide (seq = l.pings)) then s
  else
    let top := max l.pingMax trip
    if l.pings + 1 < 8 then
      (s.onLink p fun l => { l with pings := l.pings + 1, pingMax := top }).sendPing p (l.pings + 1)
    else if 255 < top then s.failTraining p
    else s.onLink p fun q => { q with
      lstate := 6, training := false, pings := 8, pingMax := top, trained := some (s.laneSrc p), caps := { q.caps with rtt := top } }

/-! ## Eye scan (R278) -/

/-- A write of ABR_EYEn_CTRL. -/
def writeEyeCtrl (p : PortIx) (v : Word) (s : State) : State :=
  if v.getLsbD 31 then
    if s.port[p].link.lstate = 6 ∧ !s.port[p].link.scanning then
      (s.wr (aAbr p.1 0x20) (v &&& 0x00FFFF3F)).onLink p fun l => { l with
        scanning := true
        scanCfg := (signed 8 (bits v.toNat 23 16), clampI (-32) 32 (signed 8 (bits v.toNat 15 8)),
          min 40 (max 20 (bits v.toNat 5 0))) }
    else s.badAccess
  else s.wr (aAbr p.1 0x20) (v &&& 0x00FFFF3F)

/-- The link is in T6. -/
def active (s : State) (p : PortIx) : Bool := decide (s.port[p].link.lstate = 6)

/-- R270: no edge is committed, and 300 ns have passed since the last one. -/
def beatAllowed (s : State) (p : PortIx) : Bool :=
  s.port[p].commit.isNone && match s.port[p].edge with
    | some g => decide (g + 3840 ≤ 32 * s.tick)
    | none => true

end State

/-! ## Received blocks (R257, R258) -/

/-- Byte `i` of a received block. -/
def rxByte (b : BitVec 66) (i : Nat) : Nat := (b >>> (2 + 8 * i)).toNat % 256
/-- Bytes `i` to `j` of a received block are 0. -/
def rxZero (b : BitVec 66) (i j : Nat) : Bool := (List.range (j + 1 - i)).all fun k => decide (rxByte b (i + k) = 0)

/-- R276: a nozzle report is valid: empty, or of a state below 3. -/
def reportOk (r : Nat) : Bool := decide (r = 65535 ∨ r / 16384 ≠ 3)

/-- R258: the layout of a control block of a type that a module sends. -/
def rxLayout (b : BitVec 66) : Bool :=
  let y := rxByte b
  match y 0 with
  | 0x1E => rxZero b 1 7
  | 0x2D => decide (y 1 ≤ 3)
  | 0x3C => decide (y 1 = 3 ∧ y 2 = 0xFC ∧ y 4 = 0x5B ∧ y 5 = 0xA4 ∧ y 6 = 0xC2 ∧ y 7 = 0x3D)
  | 0x4B => decide (y 1 = 3) && State.trainForm (y 2 / 16) (y 2 % 16) (BitVec.ofNat 32 (y 3 + 256 * (y 4 + 256 * (y 5 + 256 * y 6))))
  | 0x5A => decide (y 1 < 32 ∧ y 2 < 4) && rxZero b 3 6
  | 0x69 => rxZero b 3 6
  | 0xD2 => decide (y 1 + 256 * y 2 = 320) && rxZero b 3 6
  | 0xE1 => decide (y 6 ≤ 5)
  | 0xF0 => decide (y 1 ≤ 14) && rxZero b 4 6
  | 0xF1 => (List.range 3).all fun i => reportOk (y (1 + 2 * i) + 256 * y (2 + 2 * i))
  | 0xF5 => decide (1 ≤ y 1 ∧ y 1 ≤ 5) && rxZero b 2 6
  | _ => false

/-- R258: the types whose byte 7 is a CRC-8. -/
def rxChecked (b : BitVec 66) : Bool := decide (rxByte b 0 ≠ 0x1E ∧ rxByte b 0 ≠ 0x3C)

/-- R257: a block of the receive lane, descrambled, with its polarity corrected, is valid. -/
def rxValid (b : BitVec 66) : Bool :=
  match b.getLsbD 0, b.getLsbD 1 with
  | false, true => true
  | true, false => rxLayout b && (!rxChecked b
      || decide (crc8 0 ((List.range 7).map fun i => BitVec.ofNat 8 (rxByte b i)) = BitVec.ofNat 8 (rxByte b 7)))
  | _, _ => false

/-- R258: BIP8 of the blocks that a lane has carried, as scrambled. -/
def bipOf (l : List (BitVec 64)) : Byte := l.foldl (fun a x => a ^^^ foldBytes x) 0

/-! ## The commands -/

/-- R261: 10 µs of T0 have elapsed: T1. -/
def execTrainT0Elapsed (p : PortIx) (s : State) : Result :=
  .next (if s.port[p].link.training && decide (s.port[p].link.lstate = 0) then s.enterT1 p else s)

/-- R257, R261, R262: a TRAIN block from the module; `inverted` when its type arrived complemented. -/
def execTrainRx (p : PortIx) (inverted : Bool) (step sub : Fin 16) (data : Word) (s : State) : Result :=
  if State.trainForm step.1 sub.1 data then .next (s.train p inverted step.1 sub.1 data)
  else .next ((s.invalidBlock p).onLink p fun l => { l with trainCnt := 0 })

/-- R261: a training state reaches its timeout. -/
def execTrainTimeout (p : PortIx) (s : State) : Result :=
  .next (if s.port[p].link.training && decide (1 ≤ s.port[p].link.lstate ∧ s.port[p].link.lstate ≤ 5) then
    s.failTraining p else s)

/-- R261, R263: a PONG; `trip` is the round trip measured, in 10 ns. -/
def execPongRx (p : PortIx) (seq : BitVec 16) (trip : Nat) (s : State) : Result := .next (s.pong p seq.toNat trip)

/-- R257, R258, R261, R272: a CONFIG from the module; one that echoes the device's unchanged ends the wait for it. -/
def execConfigEchoRx (p : PortIx) (fields : ConfigFields) (reserved : Word) (s : State) : Result :=
  if 32 ≤ fields.port.toNat ∨ 4 ≤ fields.width.toNat ∨ reserved ≠ 0 then .next (s.invalidBlock p)
  else
    let l := s.port[p].link
    if l.echoWait && decide (fields.port.toNat = p.1) && decide (fields.width.toNat = s.fld (aPrmPort p.1 0) 31 30) then
      let t := s.onLink p fun l => { l with echoWait := false }
      if l.training then .next ((t.onLink p fun l => { l with lstate := 5, pings := 0, pingMax := 0 }).sendPing p 0)
      else .next t
    else .next s

/-- R272: the echo of CONFIG is missing 10 µs after a restart without training sent it. -/
def execConfigEchoTimeout (p : PortIx) (s : State) : Result :=
  .next (if s.port[p].link.echoWait && !s.port[p].link.training then s.portFault p 4 .s else s)

/-- R270, R271: a HEARTBEAT is sent. -/
def execHeartbeatTx (p : PortIx) (s : State) : Result :=
  .next (if s.active p && s.beatAllowed p then
    (s.sendBlock p (ctrlBlock 0x2D (leBytes 1 (b2n (s.portRuns p)) ++ leBytes 2 s.port[p].fire
      ++ leBytes 2 s.port[p].link.hbSeq))).onLink p fun l => { l with hbSeq := (l.hbSeq + 1) % 65536 }
  else s)

/-- R258, R271, R273: a HEARTBEAT from the module; state 3 while the port runs is a protocol violation. -/
def execModuleHeartbeatRx (p : PortIx) (modState : Byte) (_strobes _seq : BitVec 16) (_free : Byte) (s : State) : Result :=
  if 3 < modState.toNat then .next (s.invalidBlock p)
  else .next (if s.active p && s.portRuns p && decide (modState = 3) then s.portFault p 4 .s else s)

/-- R271, R273: 8.0 µs have passed without a valid heartbeat. -/
def execModuleHeartbeatLoss (p : PortIx) (s : State) : Result :=
  .next (if s.active p then s.portFault p 2 .s else s)

/-- R271, R273: block lock on the receive lane is lost. -/
def execRxBlockLockLoss (p : PortIx) (s : State) : Result :=
  let t := s.onLink p fun l => { l with lock := false, trainCnt := 0 }
  .next (if s.active p then t.portFault p 1 .s else t)

/-- R271: block lock on the receive lane is acquired. -/
def execRxBlockLockAcquire (p : PortIx) (s : State) : Result :=
  .next (if s.sys.held.isEmpty then s.onLink p fun l => { l with lock := true } else s)

/-- R273, R274: a LINK_FAULT from the module. -/
def execLinkFaultRx (p : PortIx) (cause : Byte) (s : State) : Result :=
  if cause = 0 ∨ 5 < cause.toNat then .next (s.invalidBlock p)
  else .next (if s.active p then (s.onLink p fun l => { l with modCause := cause.toNat }).portFault p 3 .s else s)

/-- R257: a received block that is invalid is discarded and counted. -/
def execInvalidBlockRx (block : RxBlock) (s : State) : Result :=
  .next (if rxValid block.line then s else (s.invalidBlock block.port).onLink block.port fun l => { l with trainCnt := 0 })

/-- R258: an ALIGN block from the module, behind the blocks that the lane carried since the last; a BIP8 mismatch is counted. -/
def execAlignRx (p : PortIx) (bip : Byte) (carried : List (BitVec 64)) (s : State) : Result :=
  .next (if bip = bipOf carried then s else s.onLink p fun l => { l with bip := satTo 255 (l.bip + 1) })

/-- R258, R259: an ALIGN block on both stream lanes, after 16,383 other blocks of each. -/
def execAlignTx (p : PortIx) (s : State) : Result :=
  .next (if s.port[p].link.idle then s else (s.putMany p (alignPeriod - s.port[p].link.sent)).putAlign p)

/-- R275: a sensor has sent no TEMP for 10 ms. -/
def execTempStale (p : PortIx) (sensor : Fin 15) (s : State) : Result :=
  let old := s.port[p].link.temp[sensor]
  .next (if old.1 then
    (s.onLink p fun l => { l with temp := l.temp.set sensor.1 (false, old.2) sensor.2 }).status 0x0703
      (infoUnit (unitPort p)) (detail sensor.1) 0x0B
  else s)

/-- The three reports of a NOZZLE block (R276). -/
def nozzleReports (r : BitVec 48) : List Nat := [bits r.toNat 15 0, bits r.toNat 31 16, bits r.toNat 47 32]

/-- R276, R385: a NOZZLE block; each report is passed to firmware. -/
def execNozzleRx (p : PortIx) (reports : BitVec 48) (s : State) : Result :=
  let l := (nozzleReports reports).filter fun x => decide (x ≠ 65535)
  if !s.active p then .next s
  else if !l.all reportOk then .next (s.invalidBlock p)
  else .next (s.forEach l fun x t =>
    let u := t.emit (.firmware (.nozzle p (x % 16384) (x / 16384)))
    let j := State.barChannel p x
    if x / 16384 = 2 then u.foundFailed (barOf p) j
    else if x / 16384 = 1 then u.findingEvent j 1 else u)

/-- R277: a REFRESH block is sent on an idle port, and its 320 data blocks follow. -/
def execRefreshTx (p : PortIx) (s : State) : Result :=
  .next (if s.active p && s.laneFree p then
    (s.beginBlocks p ((true, .of false (ctrlBlock 0xD2 (leBytes 2 320))) :: refreshFill)).pass 0 p.1 (8 * 320) else s)

/-- R277: a REFRESH burst from the module: its fill is discarded, and its data blocks resume adaptation. -/
def execRefreshRx (p : PortIx) (s : State) : Result := .next (s.onLink p fun l => { l with frozen := false })

/-- R277: 65,536 blocks have passed without a data block: adaptation freezes. -/
def execAdaptationFreeze (p : PortIx) (s : State) : Result := .next (s.onLink p fun l => { l with frozen := true })

/-- R277: 256 data blocks have come: adaptation resumes. -/
def execAdaptationResume (p : PortIx) (s : State) : Result := .next (s.onLink p fun l => { l with frozen := false })

/-- R273: 100 µs of PORT_FAULT blocks have been sent: the TX lanes go to electrical idle. -/
def execPortFaultBurstEnd (p : PortIx) (s : State) : Result :=
  .next (if s.port[p].link.bursting then
    ((s.catchUp p).onLink p fun l => { l with bursting := false, idle := true }).emit (.lanesIdle p)
  else s)

/-- R278: a write of ABR_EYEn_CTRL that sets START. -/
def execEyeScanStart (p : PortIx) (v : Word) (s : State) : Result :=
  .next (if s.hostUp then (s.hostIn 4).writeEyeCtrl p v else s)

/-- R278: a scan has compared its bits. -/
def execEyeScanDone (p : PortIx) (errors : Nat) (s : State) : Result :=
  .next (if s.port[p].link.scanning then s.onLink p fun l => { l with scanning := false, errors := sat32 errors } else s)

end Sys2Proof.Machine
end

