-- ==== Sys2Proof/Machine/Occulter.lean ====
section
/-!
DEFINITION. Occulter, the drop-gate interface (R380 to R384): the start of a run, its test rows and their strobes,
the gate edges, the judgement of drops and nozzles, and the end of a run.
-/
namespace Sys2Proof.Machine
namespace State

/-! ## Settings (R381) -/

def occPort (s : State) : PortIx := ⟨s.fld (aCal 0x1000) 31 27 % 32, Nat.mod_lt _ (by decide)⟩
def occBurst (s : State) : Nat := s.fld (aCal 0x1000) 15 8
def occHitMin (s : State) : Nat := s.fld (aCal 0x1000) 7 0
def occGate1 (s : State) : Bool := s.fbit (aCal 0x1000) 22
def occFirst (s : State) : Nat := s.fld (aCal 0x1004) 31 16
def occCount (s : State) : Nat := s.fld (aCal 0x1004) 15 0
def occInterval (s : State) : Nat := s.fld (aCal 0x1008) 31 16
def occCode (s : State) : Nat := s.fld (aCal 0x1008) 7 0
def occHi (s : State) (g : Fin 2) : Nat := s.fld (aCal (0x100C + 4 * g.1)) 31 16
def occLo (s : State) (g : Fin 2) : Nat := s.fld (aCal (0x100C + 4 * g.1)) 15 0
/-- The gates of a run. -/
def occGates (s : State) : List (Fin 2) := if s.occGate1 then [0, 1] else [0]
/-- The result area. -/
def occArea (s : State) : Nat := s.fld (aCal 0x1018) 15 0 * 1048576
/-- Meridian time in 2.5 ns. -/
def now25 (s : State) : Nat := s.mer.time / 41943040

/-- R381: the settings are refused with E_OCC_CONFIG. -/
def occRefused (s : State) : Bool :=
  let p := s.occPort
  let x : AxisIx := ⟨s.fld (aCal 0x1000) 26 24 % 8, Nat.mod_lt _ (by decide)⟩
  s.barRuns (barOf p) || s.port[p].link.absent
    || (s.fbit (aCal 0x1000) 23 && decide (s.axis[x].motion ≠ .rest))
    || decide (s.occBurst = 0 ∨ s.occBurst < s.occHitMin)
    || decide (16384 < s.occFirst + s.occCount ∨ s.occCount = 0)
    || (all 2).any (fun g => decide (s.occHi g ≤ s.occLo g))
    || s.occGates.any (fun g => decide (s.occInterval * 10 ≤ s.occHi g - s.occLo g))
    || decide (s.occInterval * 40 < s.fld (aPrmPort p.1 8) 31 16)
    || s.areaTaken none (s.occArea, s.occArea + 16 * s.occCount)
    || decide (s.occCode = 0 ∨ 2 ^ s.width p ≤ s.occCode)

/-! ## Test rows (R382) -/

/-- The drops of a run. -/
def occTotal (s : State) : Nat := s.occCount * s.occBurst

/-- The nozzle that a drop tests. -/
def occNozzle (s : State) (i : Nat) : Nat := s.occFirst + i / s.occBurst

/-- R382: the row of drop i, as the port's queue holds it: CODE at one nozzle and 0 at every other. -/
def testRow (s : State) (i : Nat) : QRow :=
  { n := s.occ.row0 + i, sheet := 0xFFFFFFFF, srow := i % 2 ^ 24
    codes := (List.range 16384).map fun j => if j = s.occNozzle i then s.occCode else 0
    void := false, acked := false, sent := false, given := false, replays := 0, waitAck := false, event := none }

/-- Queue test rows while the port has free slots. -/
def queueTests : Nat → State → State
  | 0, s => s
  | fuel + 1, s =>
    let p := s.occPort
    if s.occ.queued < s.occTotal ∧ s.port[p].wr < s.port[p].fire + s.slots p then
      let r := s.testRow s.occ.queued
      queueTests fuel ((s.onPort p fun q => { q with rows := q.rows ++ [r], wr := r.n + 1, rel := r.n + 1 }).onOcc fun o =>
        { o with queued := o.queued + 1 })
    else s

/-- R381, R382: a run starts: the port restarts in test mode, and its first test rows are queued. -/
def occStart (s : State) : State :=
  let p := s.occPort
  let n := s.barWr (barOf p)
  let t := s.onOcc fun o => { Occulter.reset with
    state := 1, first := s.now25 + 400000, row0 := n, outside := o.outside }
  let t := t.onFn (.port p) fun f => { f with running := true, gen := f.gen + 1 }
  let t := t.onPort p (Port.restart n)
  let t := if t.mustTrain p then t.beginTraining p else (t.sendConfig p).sendSync p
  t.queueTests 256

/-- R382, R384: the run ends: the port stops, and E_OCC_DONE is posted. -/
def occEnd (state : Nat) (s : State) : State :=
  let p := s.occPort
  let t := (s.clearQueue p).onFn (.port p) fun f => { f with running := false, own := false }
  let t := if t.active p then (t.cutStream p).sendBlock p (ctrlBlock 0xB1 []) else t
  (t.onOcc fun o => { o with state := state, abort := false }).status 0x0C03
    (BitVec.ofNat 64 (s.occ.failed % 16384 + s.occ.weak % 16384 * 65536)) (BitVec.ofNat 48 p.1) 0x10

/-- A write of OCC_CTRL. -/
def writeOccCtrl (v : Word) (s : State) : State :=
  if v.getLsbD 31 then
    if s.occ.state = 1 ∨ !s.tbRuns then s.refuseWrite (aCal 0x101C) v
    else if s.occRefused then s.errorUnit 0x0C02 .c (unitPort s.occPort) 0 0x10
    else s.occStart
  else if v.getLsbD 30 ∧ s.occ.state = 1 then
    if s.occ.drops.isEmpty then s.occEnd 3 else s.onOcc fun o => { o with abort := true }
  else s

/-- R382: the leading edge of the next drop. -/
def occStrobe (s : State) : State :=
  let p := s.occPort
  let q := s.port[p]
  if q.pair || q.dead || q.trip || s.occ.abort || decide (s.occTotal ≤ s.occ.fired)
      || decide (s.now25 < s.testEdge s.occ.fired) then s
  else
    let good := match q.row? q.fire with
      | some r => r.acked
      | none => false
    let t := s.onPort p fun q => ({ q with
      pair := true, edge := some (32 * (s.tick - (s.now25 - s.testEdge s.occ.fired))), fire := q.fire + 1
      rows := q.rows.filter fun r => decide (q.fire < r.n)
      rel := max q.rel (q.fire + 1), tx := max q.tx (q.fire + 1)
      replayQ := q.replayQ.filter fun n => decide (n ≠ q.fire)
      old := if (q.row? q.fire).any (fun (r : QRow) => r.sent) then q.fire :: q.old else q.old }).settle
    (t.onOcc fun o => { o with fired := o.fired + 1, drops := o.drops ++ [⟨good, Vector.replicate 2 none, false⟩] }).queueTests 256

/-! ## Gates (R380, R382) -/

/-- The drop, fired and not yet judged, in whose window of a gate a time lies. -/
def dropAt (s : State) (g : Fin 2) (t : Nat) : Option Nat :=
  (List.range s.occ.drops.length).find? fun i =>
    let e := s.testEdge (s.occ.judged + i)
    decide (e + 4 * s.occLo g ≤ t ∧ t ≤ e + 4 * s.occHi g)

/-- Change a fired drop. -/
def onDrop (i : Nat) (g : TestDrop → TestDrop) (s : State) : State :=
  s.onOcc fun o => { o with drops := o.drops.modify i g }

/-- A pulse rises at a gate: the first in a drop's window counts. -/
def pulseRise (g : Fin 2) (s : State) : State :=
  let t := s.now25
  match s.dropAt g t with
  | none => s.onOcc fun o => { o with stray := satTo 65535 (o.stray + 1), pulse := o.pulse.set g.1 (some (t, none)) g.2 }
  | some i =>
    let e := s.testEdge (s.occ.judged + i)
    let first := ((s.occ.drops[i]?).bind fun d => d.pulse[g]).isNone
    if first then
      (s.onDrop i fun d => { d with pulse := d.pulse.set g.1 (some (t - e, 0)) g.2 }).onOcc fun o => { o with
        pulse := o.pulse.set g.1 (some (t, some (s.occ.judged + i))) g.2 }
    else (s.onDrop i fun d => { d with stray := true }).onOcc fun o => { o with pulse := o.pulse.set g.1 (some (t, none)) g.2 }

/-- A pulse falls: the width of one that counts. -/
def pulseFall (g : Fin 2) (s : State) : State :=
  match s.occ.pulse[g] with
  | none => s
  | some (t, d) =>
    let u := s.onOcc fun o => { o with pulse := o.pulse.set g.1 none g.2 }
    match d with
    | none => u
    | some i => u.onDrop (i - s.occ.judged) fun x => { x with
        pulse := x.pulse.set g.1 (x.pulse[g].map fun y => (y.1, s.now25 - t)) g.2 }

/-! ## Judgement (R383, R384) -/

/-- A mean rounded to nearest, in a field of 16 bits; one that does not fit is free. -/
def occMean (sum n free : Nat) : Nat :=
  let m := if n = 0 then 0 else (sum + n / 2) / n
  if m < 65536 then m else Config.freeNat free % 65536

/-- R384: the verdict: 0 good, 1 weak, 2 failed, 3 untested. -/
def verdict (s : State) (dly wid : Nat) : Nat :=
  let o := s.occ
  let nom := s.fld (aCal 0x1014) 31 16
  let tol := s.fld (aCal 0x1014) 15 0
  if o.deliv < s.occHitMin then 3
  else if o.hits[0] < s.occHitMin ∨ (s.occGate1 ∧ o.hits[1] < s.occHitMin) then 2
  else if nom + tol < dly ∨ dly + tol < nom ∨ wid < s.fld (aCal 0x1018) 31 16 then 1
  else 0

/-- R383 to R385: the nozzle under test is complete: its result is written, and its finding acted on. -/
def nozzleDone (i : Nat) (s : State) : State :=
  let o := s.occ
  let p := s.occPort
  let m := fun (sum : Vector Nat 2) (g : Fin 2) (n : Nat) => occMean sum[g] o.hits[g] (s.free + n)
  let d0 := m o.dly 0 0
  let w0 := m o.wid 0 1
  let v := s.verdict d0 w0
  let bytes := leBytes 1 o.hits[0] ++ leBytes 1 o.hits[1] ++ leBytes 1 v
    ++ leBytes 1 (b2n o.flag + 2 * b2n (decide (o.deliv < s.occBurst))) ++ leBytes 2 d0 ++ leBytes 2 w0
    ++ leBytes 2 (m o.dly 1 2) ++ leBytes 2 (m o.wid 1 3) ++ leBytes 4 0
  let t := s.onFree (· + 4)
  let t := (t.spoolPut 4 (s.occArea + 16 * i) bytes).1
  let t := t.onOcc fun u => { u with
    hits := Vector.replicate 2 0, dly := Vector.replicate 2 0, wid := Vector.replicate 2 0, flag := false, deliv := 0
    failed := u.failed + b2n (decide (v = 2)), weak := u.weak + b2n (decide (v = 1)) }
  t.occulterFinding (barOf p) (barChannel p (s.occFirst + i)) v

/-- R382: the oldest drop is judged: its windows have passed. -/
def judgeDrop (d : TestDrop) (s : State) : State :=
  let add := fun (v : Vector Nat 2) (f : Nat × Nat → Nat) => v.mapFinIdx fun g x h =>
    if d.good then x + ((d.pulse[g]'h).map f).getD 0 else x
  let t := s.onOcc fun o => { o with
    judged := o.judged + 1, drops := o.drops.drop 1
    hits := add o.hits fun _ => 1, dly := add o.dly (·.1), wid := add o.wid (·.2)
    flag := o.flag || d.stray, deliv := o.deliv + b2n d.good }
  if t.occ.judged % s.occBurst = 0 then t.nozzleDone (t.occ.judged / s.occBurst - 1) else t

/-- The oldest fired drop's windows have passed, and no pulse that counts for it is still high. -/
def dropOver (s : State) : Bool :=
  let e := s.testEdge s.occ.judged
  (s.occGates.all fun g => decide (e + 4 * s.occHi g < s.now25)) &&
    (all 2).all fun g => match s.occ.pulse[g] with
      | some (_, some i) => decide (i ≠ s.occ.judged)
      | _ => true

end State

/-! ## The commands -/

/-- R381: a write of OCC_CTRL that sets START. -/
def execOccStart (v : Word) (s : State) : Result := .next (if s.hostUp then (s.hostIn 4).writeOccCtrl v else s)

/-- R381: a write of OCC_CTRL that sets ABORT. -/
def execOccAbort (v : Word) (s : State) : Result := .next (if s.hostUp then (s.hostIn 4).writeOccCtrl v else s)

/-- R380, R382: an edge at a gate; POL tells which level is a pulse. -/
def execOccGateEdge (g : Fin 2) (rising : Bool) (s : State) : Result :=
  if !s.up then .next s
  else if s.occ.state ≠ 1 then .next (s.onOcc fun o => { o with outside := o.outside + 1 })
  else if !s.occGates.contains g then .next s
  else if rising != s.fbit (aCal 0x1000) 21 then .next (s.pulseRise g)
  else .next (s.pulseFall g)

/-- R382 to R384: the windows of the oldest fired drop have passed; after the last one, or the last one in flight
of an aborted run, the run ends. -/
def execOccWindowEnd (s : State) : Result :=
  match s.occ.drops with
  | [] => .next s
  | d :: _ =>
    if s.occ.state = 1 ∧ s.dropOver then
      let t := s.judgeDrop d
      if t.occTotal ≤ t.occ.judged then .next (t.occEnd 2)
      else if t.occ.abort ∧ t.occ.drops.isEmpty then .next (t.occEnd 3)
      else .next t
    else .next s

end Sys2Proof.Machine
end

