-- ==== Sys2Proof/Machine/Strobe.lean ====
section
/-!
DEFINITION. Fire strobes, one for each row in ascending order (R22, R23): rows that pass a bar without data (R33, R152), the commit of an edge and the fallback
(R246, R296, R297), the leading and the trailing edge (R246 to R249, R299, R303), the strobe watchdog (R250), and
ESTOP_n (R58, R251).
-/
namespace Sys2Proof.Machine
namespace State

/-! ## Rows that have passed (R33, R135, R152, R187) -/

/-- R33: a port in service that is not live brings no data to a row. -/
def missPort (id : BitVec 32) (row : Nat) (p : PortIx) (s : State) : State :=
  let code := s.port[p].missing
  s.sheetError code .s id row (unitPort p) 0 (if code = 0x0702 then 0x0B else 5)

/-- R187: a patch has had its last row within its sheet fired by its bar, and no row that it serves can be computed again. -/
def patchOver (s : State) (q : Patch) : Bool :=
  match s.sheet? q.sheet with
  | none => false
  | some sh => decide (min (q.firstRow + q.rows) sh.rows ≤ sh.fired[q.bar])
      && (s.rowsOf q.bar q.sheet q.firstRow q.rows).isEmpty

/-- R187: the patches whose last row has been fired are freed. -/
def freeFired (k : BarIx) (s : State) : State :=
  s.onSe fun e => { e with patches := e.patches.filter fun q => !(decide (q.bar = k) && s.patchOver q) }

/-- The last row of a sheet has passed a running bar: what the bar has still to compute of it is dropped, and the next sheet
starts from cleared state in any case (R218). -/
def leaveSheet (k : BarIx) (id : BitVec 32) (s : State) : State :=
  let t := s.onBar k fun b => { b with
    rows := b.rows.filter fun r => decide (r.sheet ≠ id), grow := max b.grow b.pass
    acc := b.acc.filter fun q => decide (b.pass ≤ q.1 / 65536)
    seams := b.seams.filter fun x => decide (b.pass ≤ x.row), checks := b.checks.filter fun c => decide (b.pass ≤ c.row) }
  t.onSheet id fun x => { x with computed := x.computed.set k.1 x.rows k.2 }

/-- Row `row` of a sheet has passed the bar; a stopped bar gives it no number. -/
def markPassed (k : BarIx) (id : BitVec 32) (row : Nat) (s : State) : State :=
  let t := s.onSheet id fun x => { x with fired := x.fired.set k.1 (row + 1) k.2 }
  if s.barRuns k then
    let t := t.onBar k fun b => { b with pass := b.pass + 1 }
    if (t.sheet? id).any fun sh => decide (sh.rows ≤ row + 1) then t.leaveSheet k id else t
  else t.onSheet id fun x => { x with computed := upd x.computed k (max (row + 1)) }

/-- R33: the bar fires its next row: every port in service that did not take part is charged. -/
def passFired (k : BarIx) (s : State) : State :=
  let n := s.bar[k].pass
  match s.rowAt k n with
  | none => s
  | some (id, row) =>
    let gone := (portsOf k).filter fun p => s.inService p && !(s.portRuns p && decide (s.port[p].joinAt ≤ n))
    (s.forEach gone fun p => missPort id row p).markPassed k id row

/-- The rows that every live port of a bar has fired. -/
def passLive (k : BarIx) (s : State) : State :=
  match (s.livePorts k).map fun p => s.port[p].fire with
  | [] => s
  | f :: fs =>
    let low := fs.foldl min f
    (s.forEach (List.range (low - s.bar[k].pass)) fun _ => passFired k).finishDone

/-- R33, R150, R152: a row that falls due at a bar that fires nothing: at a stopped bar the bar is charged, else
every port in service. -/
def passIdle (k : BarIx) (id : BitVec 32) (row : Nat) (s : State) : State :=
  let t := if s.barRuns k then s.forEach ((portsOf k).filter s.inService) fun p => missPort id row p
    else s.sheetError (if s.bar[k].gap then 0x0209 else 0x020E) .s id row (unitBar k) 0 5
  t.markPassed k id row

/-- A row's place at the bar has come: its fire instant, or its target. -/
def rowDue (s : State) (k : BarIx) (id : BitVec 32) (row : Nat) : Bool :=
  match s.anchor? id with
  | none => false
  | some a => (s.rowCurrent id row && decide (s.fireTarget a k row ≤ 256 * s.high s.rowEnc))
    || (match s.tFire id k row with
      | some t => decide (t ≤ s.now16)
      | none => false)

/-- Pass the due rows of a sheet from row `row` on. -/
def passSheet (k : BarIx) (id : BitVec 32) : Nat → Nat → State → State
  | 0, _, s => s
  | fuel + 1, row, s => if s.rowDue k id row then passSheet k id fuel (row + 1) (s.passIdle k id row) else s

/-- The bar is in use and has nothing that fires: it is stopped, or none of its ports is live. -/
def barIdle (s : State) (k : BarIx) : Bool :=
  s.bar[k].used && !s.integ.dstop && (!s.barRuns k || (s.livePorts k).isEmpty)

/-- Rows that fall due at a bar that fires nothing pass without data. -/
def passDue (k : BarIx) (s : State) : State :=
  if s.barIdle k then
    (s.forEach (s.job.sheets.filter (·.anchored)) fun sh t =>
      t.passSheet k sh.id (sh.rows - sh.fired[k]) sh.fired[k]).finishDone.pruneRows k |>.freeFired k
  else s

/-! ## The commit (R246, R296, R297) -/

/-- The firing target of a row of a port's queue has been reached. -/
def targetReached (s : State) (p : PortIx) (r : QRow) : Bool :=
  match s.anchor? r.sheet with
  | none => false
  | some a => s.rowCurrent r.sheet r.srow && decide (s.fireTarget a (barOf p) r.srow ≤ 256 * s.high s.rowEnc)

/-- R297: the time of the row event of a row without a committed edge. -/
def fallback (s : State) (p : PortIx) (r : QRow) : Option Nat :=
  r.event.or (if s.targetReached p r then some s.now16 else none)

/-- R246, R299: the time at which the edge of a row is to stand, and t_ideal, of a row that may be committed now. A
prediction that is not 500 ns ahead any more gets its edge 500 ns after the commit. -/
def commitTime (s : State) (p : PortIx) (r : QRow) : Option (Nat × Int) :=
  match s.fallback p r with
  | some e => some (e + 8000, (e : Int) - if s.lpOn (barOf p) then s.throwOf (barOf p) else 0)
  | none => match s.tFire r.sheet (barOf p) r.srow with
    | some t => if t ≤ s.now16 + 8000 then some (if s.now16 + 7960 < t then t else s.now16 + 8000, t) else none
    | none => none

/-- R246: the point of the 78.125 ps grid nearest a Meridian time in 1/16 ns, a tie going to the earlier. The grid has 32
points in each tick of CLK_TIME and is counted from tick 0. -/
def gridPoint (s : State) (t : Nat) : Nat :=
  (32 * (s.tick : Int) + ceilDiv (64 * ((t * 1048576 : Nat) - s.mer.time) - s.merInc) (2 * s.merInc : Nat)).toNat

/-- The Meridian time of a grid point, in 1/16 ns. -/
def gridTime (s : State) (g : Nat) : Rat :=
  ((s.mer.time : Rat) + ((g : Rat) - (32 * s.tick : Nat)) * s.merInc / 32) / 1048576

/-- R246: the fire instant of the port's next row is committed. -/
def commitEdge (p : PortIx) (s : State) : State :=
  let n := s.port[p].fire
  let t := if (s.latePorts (barOf p) n).contains p then s.lateRow (barOf p) n [p] else s
  match t.port[p].row? n with
  | none => t
  | some r => t.onPort p fun q => { q with commit := (t.commitTime p r).map fun x => (t.gridPoint x.1, x.2) }

/-! ## The leading edge (R246, R247, R299, R303) -/

/-- MIN_RI, in 2.5 ns. -/
def minRi (s : State) (p : PortIx) : Nat := s.fld (aPrmPort p.1 8) 31 16
/-- LATE_TOL. -/
def lateTol (s : State) (p : PortIx) : Nat := s.fld (aPrmPort p.1 0) 15 0
/-- POLICY is REJECT. -/
def rejects (s : State) (p : PortIx) : Bool := s.fbit (aPrmPort p.1 0) 29

/-- R247: where the edge committed for grid point `g` is placed. -/
def placeEdge (s : State) (p : PortIx) (g : Nat) : Nat :=
  match s.port[p].edge with
  | some e => max g (e + 32 * s.minRi p)
  | none => g

/-- The position at which the gear table gives the ratio of a row's target (R299). -/
def rowGear (s : State) (k : BarIx) (id : BitVec 32) (row : Nat) : Int :=
  if s.scan then gearX (s.gears 1) ((row % s.passRows : Nat) * rowUnit)
  else match s.anchor? id with
    | some a => s.rowTarget a k row - s.barOff k
    | none => 0

/-- R299: the lateness of an edge, in 1/256 row; none when it counts as above LATE_TOL. -/
def lateness (s : State) (p : PortIx) (r : QRow) (g : Nat) (ideal : Int) : Option Nat :=
  let at_ := s.gridTime g
  (s.rowRate (s.rowGear (barOf p) r.sheet r.srow) at_).map fun ρ => ((at_ - ideal) / 16 * ρ * 256).ceil.toNat

/-- R299, R303: what the edge, committed for `c` and placed at `g`, means for the row's sheet. -/
def judgeEdge (p : PortIx) (r : QRow) (c g : Nat) (ideal : Int) (s : State) : State :=
  let u := unitPort p
  let a := if s.rejects p && decide (c < g) then s.sheetError 0x0803 .s r.sheet r.srow u 0 0x0C else s
  let a := match s.lateness p r g ideal with
    | some l => if s.lateTol p < l then a.sheetError 0x0804 .s r.sheet r.srow u l 0x0C else a
    | none => (a.sheetError 0x0804 .s r.sheet r.srow u (s.lateTol p + 1 + a.freeNat) 0x0C).useFree
  if s.passReady r.sheet r.srow then a else a.sheetError 0x0805 .s r.sheet r.srow (unitEnc 0) 0 0x0C

/-- The port's next row has fired: FIRE advances and the slot is free. -/
def fireRow (p : PortIx) (g : Nat) (s : State) : State :=
  (s.onPort p fun q => ({ q with
    pair := true, edge := some g, commit := none, fire := q.fire + 1
    rows := q.rows.filter fun r => decide (q.fire < r.n)
    rel := max q.rel (q.fire + 1), tx := max q.tx (q.fire + 1)
    replayQ := q.replayQ.filter fun n => decide (n ≠ q.fire)
    old := if (q.row? q.fire).any (fun (r : QRow) => r.sent) then q.fire :: q.old else q.old }).settle).settlePort p

/-- R246: the leading edge of row r, committed for grid point `c`. -/
def leadingEdge (p : PortIx) (r : QRow) (c : Nat) (ideal : Int) (s : State) : State :=
  let g := s.placeEdge p c
  if s.tick < g / 32 then s
  else
    let u := ((s.expire p r.n).judgeEdge p r c g ideal).onSheet r.sheet fun x => { x with started := true }
    (((u.fireRow p g).passLive (barOf p)).releaseRows (barOf p)).freeFired (barOf p)

/-- A strobe may begin: the pair is inactive, and nothing holds it so. -/
def strobeFree (s : State) (p : PortIx) : Bool :=
  !(s.port[p].pair || s.port[p].dead || s.port[p].trip || s.integ.estop)

/-- The leading edge of the port's next row. -/
def strobe (p : PortIx) (s : State) : State :=
  if s.testing p then (if s.integ.estop then s else s.occStrobe)
  else if !(s.portRuns p && s.inService p && s.strobeFree p) then s
  else match s.port[p].commit, s.port[p].row? s.port[p].fire with
    | some (c, ideal), some r => s.leadingEdge p r c ideal
    | _, _ => s

/-- R246: the trailing edge is due WIDTH × 2.5 ns after the leading edge. -/
def trailingDue (s : State) (p : PortIx) : Bool :=
  s.port[p].pair && (match s.port[p].edge with
    | some g => decide (g / 32 + s.fld (aPrmPort p.1 8) 12 0 ≤ s.tick)
    | none => true)

/-! ## SLOW_REQ (R300) -/

/-- R300: the product of ρ and the least row interval at the fire instant of a port's next row; none without a
prediction. -/
def slowness (s : State) (p : PortIx) : Option Rat :=
  if !(s.portRuns p && s.inService p) then none
  else match s.rowAt (barOf p) s.port[p].fire with
  | none => none
  | some (id, row) => (s.tFire id (barOf p) row).bind fun t =>
    (s.rowRate (s.rowGear (barOf p) id row) t).map fun ρ => ρ * s.minRi p * (5 / 2)

/-- R300: HLS_SLOW as it reads: a port without a prediction has its bit clear. -/
def slowNow (s : State) : BitVec 32 :=
  if s.hls.slow = 0 then 0
  else (all 32).foldl (fun (v : BitVec 32) p => if (s.slowness p).isSome then v else v &&& ~~~(BitVec.ofNat 32 (2 ^ p.1))) s.hls.slow

/-! ## ESTOP_n (R58, R251) -/

/-- R58: every FIRE pair is forced inactive. -/
def cutPairs (s : State) : State := s.onPorts fun v => v.map fun q => { q with pair := false }

end State

/-! ## The commands -/

/-- R246: 500 ns ahead of its edge, the fire instant of the port's next row is committed. -/
def execFireCommit (p : PortIx) (s : State) : Result :=
  .next (if s.portRuns p && s.inService p && s.tbRuns && !s.port[p].dead && s.port[p].commit.isNone then s.commitEdge p else s)

/-- R246: the FIRE pair goes active. -/
def execStrobeLeadingEdge (p : PortIx) (s : State) : Result := .next (s.strobe p)

/-- R246: the FIRE pair goes inactive after the strobe's width. -/
def execStrobeTrailingEdge (p : PortIx) (s : State) : Result :=
  .next (if s.trailingDue p then s.onPort p fun q => { q with pair := false } else s)

/-- R250: the watchdog of an active pair trips. -/
def execStrobeWatchdogTrip (p : PortIx) (s : State) : Result :=
  .next (if s.port[p].pair then
    ((s.onPort p fun q => { q with pair := false, trip := true }).setW1c aPrmTrip p.1).classD 0x0607 (unitPort p) 0 0x0A
  else s)

/-- R58, R251: ESTOP_n is asserted. -/
def execEstopAssert (s : State) : Result :=
  if s.integ.estop then .next s
  else
    let t := ((s.onInteg fun i => { i with estop := true, latch := true, holdoff := false }).setW1c aPrmSafe 30).cutPairs
    .next (if s.engRuns then t.classD 0x0608 unitNone 0 0x0A else t)

/-- R251: ESTOP_n is released. -/
def execEstopRelease (s : State) : Result :=
  .next (if s.integ.estop then s.onInteg fun i => { i with estop := false, holdoff := true } else s)

/-- R251: 10 ms have passed since the release of ESTOP_n. -/
def execEstopHoldoffExpiry (s : State) : Result :=
  .next (if s.integ.estop then s else s.onInteg fun i => { i with holdoff := false })

end Sys2Proof.Machine
end

