-- ==== Sys2Proof/Machine/Calib.lean ====
section
/-!
DEFINITION. Calibration: the pairing of taps with camera records (R371, R372), the estimates and the trim batch
(R374 to R376), and thermal recalibration (R377 to R379).
-/
namespace Sys2Proof.Machine

/-- A cell without samples. -/
def cellDefault (_ : Nat) : CellSum := ⟨0, 0, 0, 0, 0⟩

/-- Sort numbers in ascending order. -/
def sortRat : List Rat → List Rat
  | [] => []
  | x :: xs =>
    let l := sortRat xs
    l.takeWhile (fun y => decide (y < x)) ++ x :: l.dropWhile fun y => decide (y < x)

/-- The median of a list; of an even number, what lies between the two middle ones is open (R374). -/
def median (l : List Rat) : Rat :=
  let m := sortRat l
  let n := m.length
  if n % 2 = 1 then m.getD (n / 2) 0
  else
    let a := m.getD (n / 2 - 1) 0
    let b := m.getD (n / 2) 0
    if a = b then a else Config.evenMedian a b

/-- A free rational number. -/
def freeRat (n : Nat) : Rat :=
  ((Config.freeNat n : Rat) - (Config.freeNat (n + 1) : Rat)) / ((Config.freeNat (n + 2) : Rat) + 1)

namespace State

/-! ## Pairing (R302, R371, R372) -/

/-- R302: the feed target of pass k on MENC0, in 1/256 count, for an anchoring edge at `pe`. -/
def feedTarget (s : State) (pe : Int) : Nat → Int
  | 0 => 256 * pe + s.edgeOff
  | k + 1 => feedTarget s pe k + 256 * s.feedOf k

/-- R371: where MENC0 stands when camera n images the tapped rows, in 1/256 count; in scanning mode the feed
target of the tapped row's pass takes the place of X_0. -/
def tapPos (s : State) (a : Anchor) (c : CamIx) : Int :=
  (if s.scan then s.feedTarget a.pe (s.passOf (s.tapRow c)) else s.rowTarget a 0 (s.tapRow c))
    + 256 * signed 32 (s.rdN (aCalCam c.1 0x10))

/-- HTOL, in 1/256 count. -/
def tapTol (s : State) (c : CamIx) : Int := 256 * s.fld (aCalCam c.1 4) 31 16

/-- R371: complete taps that H of MENC0 has passed are freed and counted. -/
def missTaps (s : State) : State :=
  let gone := fun (t : Tap) => s.tapDone t && match s.anchor? t.sheet with
    | some a => decide (s.tapPos a t.cam + s.tapTol t.cam < 256 * s.high 0)
    | none => false
  s.onCal fun u => { u with taps := u.taps.filter fun t => !gone t, miss := satTo 255 (u.miss + u.taps.countP gone) }

/-- The bar printed a colour plane on a sheet (R372). -/
def printedColour (s : State) (id : BitVec 32) (k : BarIx) : Bool :=
  match (s.sheet? id).or ((s.record? id).map (·.sheet)) with
  | some sh => (sh.planes false k).any fun q => decide (q.2 = 1)
  | none => false

/-- R372: the intended mean of a cell on a bar, for a tap. -/
def tapMean (s : State) (t : Tap) (k : BarIx) (x : Nat) : Rat :=
  ((tget sumDefault t.sums (k.1 * 8192 + x) : Nat) : Rat) / ((s.cellCols t.cam x).length * s.tapCount t.cam : Nat)

/-- R372: FORGET scales a sum before it is updated. -/
def forget (s : State) (k : BarIx) : Rat :=
  let f := s.fld (aCalBar k.1 4) 15 12
  if f = 0 then 1 else 1 - 1 / (2 ^ f : Nat)

/-- R372: one sample of a cell. -/
def addSample (f u y : Rat) (c : CellSum) : CellSum :=
  ⟨f * c.w + 1, f * c.u + u, f * c.y + y, f * c.uu + u * u, f * c.uy + u * y⟩

/-- R373: the measured channel of a column: one of the three, or their mean. -/
def measured (s : State) (k : BarIx) (rgb : Nat → Rat) : Rat :=
  let c := s.fld (aCalBar k.1 0) 29 28
  if c = 3 then (rgb 0 + rgb 1 + rgb 2) / 3 else rgb c

/-- R372: the samples of a pair for one bar; `s1 x c` is S1 of column x and channel c, over `n` lines. -/
def sampleBar (t : Tap) (s1 : Nat → Nat → Nat) (n : Nat) (k : BarIx) (s : State) : State :=
  if !(s.bar[k].used && s.printedColour t.sheet k) then s
  else
    let iso := s.fld (aCalBar k.1 0) 23 16 * 64
    let cells := (List.range 8192).filter fun x => !(s.cellCols t.cam x).isEmpty &&
      (all 8).all fun b => decide (b = k) || !s.bar[b].used || decide (s.tapMean t b x ≤ iso)
    let key := fun x => k.1 * 32768 + t.cam.1 * 8192 + x
    let y := fun x => if n = 0 then freeRat s.free else s.measured k fun c => (s1 x c : Rat) / n
    (s.onFree (· + 3)).onCal fun u => { u with
      sums := cells.foldl (fun m x =>
        tput cellDefault m (key x) (addSample (s.forget k) (s.tapMean t k x) (y x) (tget cellDefault m (key x)))) u.sums }

/-- R371: the record of a frame, VOID clear, is paired with the first complete tap that it matches. -/
def pairTap (c : CamIx) (h0 : Int) (s1 : Nat → Nat → Nat) (n : Nat) (s : State) : State :=
  let t := s.sweepTaps
  let fits := fun (x : Tap) => decide (x.cam = c) && t.tapDone x && match t.anchor? x.sheet with
    | some a => decide (t.tapPos a c - t.tapTol c ≤ 256 * h0 ∧ 256 * h0 ≤ t.tapPos a c + t.tapTol c)
    | none => false
  match t.cal.taps.find? fits with
  | none => t
  | some x => (t.forEach (all 8) fun k => sampleBar x s1 n k).onCal fun u => { u with taps := dropFirst fits u.taps }

/-! ## Estimates (R374) -/

/-- R369: the camera and the cell that hold a logical column. -/
def cellOf (s : State) (col : Nat) : Option (CamIx × Nat) :=
  (all 4).findSome? fun c => (s.cellAt c col).map fun x => (c, x)

/-- R374: the cell has an estimate. -/
def cellReady (s : State) (k : BarIx) (c : CellSum) : Bool :=
  decide ((s.fld (aCalBar k.1 4) 31 24 : Rat) ≤ c.w) &&
    decide (((s.fld (aCalBar k.1 4) 11 0 : Nat) : Rat) ^ 2 ≤ c.uu / c.w - (c.u / c.w) ^ 2)

/-- R374: β of a cell; where the quotient has no value it is free. -/
def slope (s : State) (key : Nat) (c : CellSum) : Rat :=
  let d := c.w * c.uu - c.u * c.u
  if d = 0 then freeRat (s.free + 3 * key) else (c.w * c.uy - c.u * c.y) / d

/-- The cells of a bar that have estimates, with their slopes. -/
def estimates (s : State) (k : BarIx) : List (Nat × Rat) :=
  (s.cal.sums.filter fun q => decide (q.1 / 32768 = k.1) && s.cellReady k q.2).map fun q =>
    (q.1 % 32768, s.slope (q.1 % 32768) q.2)

/-- R374: the density errors of the cells that have estimates. -/
def densityErrors (s : State) (k : BarIx) : List (Nat × Rat) :=
  let l := s.estimates k
  let m := median (l.map (·.2))
  l.map fun q => (q.1, (if m = 0 then freeRat (s.free + 98304 + 3 * q.1) else q.2 / m) - 1)

/-- The density error of a channel of a bar. -/
def channelError (s : State) (k : BarIx) (errs : List (Nat × Rat)) (j : Nat) : Option Rat :=
  (s.cellOf (mapColumn (tget mapDefault s.bar[k].active.map j))).bind fun q =>
    (errs.find? fun e => decide (e.1 = q.1.1 * 8192 + q.2)).map (·.2)

/-! ## The batch (R375, R376) -/

/-- A bar channel in service. -/
def channelIn (s : State) (k : BarIx) (j : Nat) : Bool := !chForced s.bar[k].active j

/-- R375, step 1: the change proposed for a channel, by calibration and by the thermal baseline. -/
def proposed (s : State) (k : BarIx) (t : Nat) (err : Option Rat) (port : Nat) : Rat :=
  let g : Rat := (s.fld (aCalBar k.1 0) 27 24 : Nat) / (16 : Rat)
  let thermal := (t : Rat) * (tget (fun _ => (1 : Rat)) s.cal.thermTerm[k] port - 1)
  match err with
  | some e => -(t : Rat) * g * e + thermal
  | none => thermal

/-- R375, steps 3 and 4: the new target of a channel. -/
def newTarget (s : State) (k : BarIx) (t : Nat) (d : Rat) : Nat :=
  let span : Int := s.fld (aCalBar k.1 0) 15 0
  let step : Int := s.maxStep k
  let a := clampI (32768 - span) (32768 + span) (t + nearest d)
  (clampI 0 65535 (clampI (t - step) (t + step) a)).toNat

/-- The targets of a new batch. -/
def batchTargets (s : State) (k : BarIx) (errs : List (Nat × Rat)) : Table Nat :=
  let old := s.bar[k].trims.target
  let rows := ((List.range 65536).filter (s.channelIn k)).map fun j =>
    let t := tget trimUnity old j
    let e := s.channelError k errs j
    (j, t, e.isSome, s.proposed k t e (j / 16384))
  let cal := (rows.filter fun r => r.2.2.1).map fun r => r.2.2.2
  let mean := cal.sum / (cal.length : Rat)
  rows.foldl (fun m r => tput trimUnity m r.1 (s.newTarget k r.2.1 (if r.2.2.1 then r.2.2.2 - mean else r.2.2.2))) old

/-- R385: cells whose error lies beyond OUT_ERR: each normal channel in them is found failed. -/
def denseFindings (k : BarIx) (errs : List (Nat × Rat)) (s : State) : State :=
  let lim : Rat := (s.fld (aCalBar k.1 4) 23 16 : Nat) / (256 : Rat)
  let bad := (List.range 65536).filter fun j =>
    s.channelIn k j && decide (mapKind (tget mapDefault s.bar[k].active.map j) = 0) && match s.channelError k errs j with
      | some e => decide (lim < absOf e)
      | none => false
  s.forEach bad fun j => foundFailed k j

/-- R375: firmware forms a batch for a bar and commits it. -/
def formBatch (k : BarIx) (s : State) : State :=
  let errs := s.densityErrors k
  let e := s.freshEpoch k
  if errs.length < 16 then s
  else
    let t := s.onBar k fun b => { b with trims := { b.trims with
      pend := s.batchTargets k errs, batch := true, batchEpoch := some e } }
    let t := (t.onFree (· + 196608)).onCal fun u => { u with thermTerm := u.thermTerm.set k.1 [] k.2 }
    (t.trimCommit k e).denseFindings k errs

/-- R375, R376: a batch may be formed: not frozen, PEND_OK, and none yet for this epoch. -/
def batchAllowed (s : State) (k : BarIx) : Bool :=
  s.up && s.barRuns k && !s.calFrozen k && s.pendOk k && decide (s.bar[k].trims.batchEpoch ≠ some (s.freshEpoch k))

/-! ## Thermal recalibration (R377 to R379) -/

def thermEn (s : State) : Bool := s.fbit (aCal 0x200) 31
def thermAuto (s : State) : Bool := s.fbit (aCal 0x200) 30
/-- T_REF of a bar, in 1/64 °C. -/
def tRef (s : State) (k : BarIx) : Int := signed 16 (s.fld (aCalBar k.1 8) 31 16)
def volTc (s : State) (k : BarIx) : Int := signed 16 (s.fld (aCalBar k.1 8) 15 0)
def throwTc (s : State) (k : BarIx) : Int := signed 8 (s.fld (aCalBar k.1 0xC) 31 24)
def throwRef (s : State) (k : BarIx) : Nat := s.fld (aCalBar k.1 0xC) 23 0

/-- The VALID temperatures of a port, with their sensors, in 1/64 °C. -/
def temps (s : State) (p : PortIx) : List (Fin 15 × Int) :=
  (all 15).filterMap fun i => if s.port[p].link.temp[i].1 then some (i, s.port[p].link.temp[i].2.toInt) else none

/-- R378: a sensor has moved by DELTA or more since the bar's last run, or from T_REF when there was none. -/
def moved (s : State) (p : PortIx) : Bool :=
  (s.temps p).any fun q => decide (((16 * s.fld (aCal 0x200) 23 16 : Nat) : Int) ≤
    (q.2 - tget (fun _ => s.tRef (barOf p)) s.cal.therm[barOf p] (p.1 * 15 + q.1.1)).natAbs)

/-- R378: HOLD_MS has passed since the bar's last run. -/
def thermHeld (s : State) (k : BarIx) : Bool :=
  match s.cal.thermAt[k] with
  | some t => decide (s.mer.time < t + s.fld (aCal 0x200) 15 0 * 1000000 * 16777216)
  | none => false

/-- R378, R379: a run of the bar falls due: firmware queues its stop, or posts the mask of the bars due. -/
def thermCheck (k : BarIx) (s : State) : State :=
  if s.thermEn && !s.cal.thermDue.getLsbD k.1 && !s.thermHeld k && (portsOf k).any (fun p => s.inService p && s.moved p) then
    let t := s.onCal fun u => { u with thermDue := u.thermDue ||| BitVec.ofNat 8 (2 ^ k.1) }
    if s.thermAuto then (if s.barRuns k && !s.cal.stopQ[k] then t.queueBarStop k else t)
    else t.status 0x0C01 (BitVec.ofNat 64 t.cal.thermDue.toNat) 0 0x10
  else s

/-- T_p: the mean of a port's VALID sensors. -/
def portTemp (s : State) (p : PortIx) : Option Rat :=
  match s.temps p with
  | [] => none
  | l => some (((l.map (·.2)).sum : Rat) / l.length)

/-- f(T) of R378. -/
def volume (s : State) (k : BarIx) (t : Rat) : Rat := 1 - (s.volTc k : Rat) / 1000000 * ((t - s.tRef k) / 64)

/-- R378: THROW of a bar at T_b. -/
def thermThrow (s : State) (k : BarIx) (tb : Rat) : Nat :=
  (clampI 0 16777215 (nearest ((s.throwRef k : Rat) * (1 + (s.throwTc k : Rat) / 10000 * ((tb - s.tRef k) / 64))))).toNat

/-- R378: the factor of a port's targets, on top of one that no batch has taken yet; where f at the last run is 0
the quotient is free. -/
def thermFactor (s : State) (k : BarIx) (p : PortIx) (t : Rat) : Rat :=
  let last := s.volume k (tget (fun _ => (s.tRef k : Rat)) s.cal.thermF[k] p.1)
  tget (fun _ => (1 : Rat)) s.cal.thermTerm[k] p.1 * (if last = 0 then freeRat s.free else s.volume k t / last)

/-- R378: a run of the bar is applied within a stop of it. -/
def thermRun (k : BarIx) (s : State) : State :=
  if !(s.thermEn && s.cal.thermDue.getLsbD k.1) then s
  else
    let ports := (portsOf k).filter s.inService
    let means := ports.filterMap fun p => (s.portTemp p).map fun t => (p, t)
    let tb := (means.map (·.2)).sum / (means.length : Rat)
    let t := if means.isEmpty then s
      else s.wrN (aHlsBar k.1 4) (s.rdN (aHlsBar k.1 4) / 16777216 * 16777216 + s.thermThrow k tb)
    let t := t.forEach (ports.filter s.moved) fun p u =>
      u.wrN (aAbr p.1 0) (u.rdN (aAbr p.1 0) % 2 ^ 31 + 2 ^ 31)
    let term := means.foldl (fun m q => tput (fun _ => (1 : Rat)) m q.1.1 (s.thermFactor k q.1 q.2)) s.cal.thermTerm[k]
    (t.onFree (· + 3)).onCal fun u => { u with
      therm := u.therm.set k.1 (ports.flatMap fun p => (s.temps p).map fun q => (p.1 * 15 + q.1.1, q.2)) k.2
      thermF := u.thermF.set k.1 (means.map fun q => (q.1.1, q.2)) k.2
      thermAt := u.thermAt.set k.1 (some s.mer.time) k.2
      thermDue := u.thermDue &&& ~~~(BitVec.ofNat 8 (2 ^ k.1))
      thermTerm := if s.calFrozen k then u.thermTerm else u.thermTerm.set k.1 term k.2 }

/-- The channels whose KIND, COLUMN or out bit differs between two sets of a bar's tables. -/
def changedChannels (a b : BarTables) : List Nat :=
  let listed := (a.map ++ b.map).map Prod.fst ++ (a.out ++ b.out).flatMap fun (q : Nat × Nat) => (List.range 32).map fun i => q.1 * 32 + i
  listed.eraseDups.filter fun j =>
      let x := tget mapDefault a.map j
      let y := tget mapDefault b.map j
      decide (mapKind x ≠ mapKind y ∨ mapColumn x ≠ mapColumn y) || (chOut a j != chOut b j)

/-- R374: a channel that is listed out, returned, promoted or demoted clears the sums of the cells of its columns, under the
tables that a restart replaces and under the new ones. -/
def clearCells (k : BarIx) (old new : BarTables) (s : State) : State :=
  let columns := (changedChannels old new).flatMap fun j =>
    [mapColumn (tget mapDefault old.map j), mapColumn (tget mapDefault new.map j)]
  let keys := columns.filterMap fun col => (s.cellOf col).map fun q => k.1 * 32768 + q.1.1 * 8192 + q.2
  s.onCal fun u => { u with sums := u.sums.filter fun q => !keys.contains q.1 }

end State

/-! ## The commands -/

/-- R375: firmware forms the bar's trim batch. -/
def execCalBatch (k : BarIx) (s : State) : Result := .next (if s.batchAllowed k then s.formBatch k else s)

/-- R275, R378: a TEMP block; a sensor that the module does not have breaks the block's layout (R257). -/
def execTempRx (p : PortIx) (sensor : Fin 15) (temp : BitVec 16) (s : State) : Result :=
  if !s.active p then .next s
  else
    let t := s.onLink p fun l => { l with temp := l.temp.set sensor.1 (true, temp) sensor.2 }
    .next (if t.inService p then t.thermCheck (barOf p) else t)

end Sys2Proof.Machine
end

