-- ==== Sys2Proof/Machine/Deflate.lean ====
section
/-!
DEFINITION. The DEFLATE streams that a compressor lane emits (R174, R175): hash chains over a 32 KB window, matches of 3 to
258 bytes, a block for every 65,536 input bytes, dynamic Huffman codes in the normal service state and fixed ones otherwise.
What the manual leaves open is free: the hash, which of the probed matches is taken, and a dynamic block's codes (log entry 27).
-/
namespace Sys2Proof.Machine

/-- A token of LZ77: a byte as it stands, or a match of a length at a distance. -/
inductive Token where
  | lit (b : Byte) | copy (len dist : Nat)
  deriving DecidableEq, Repr

/-! ## The match finder (R174) -/

/-- R174: the chain probes of a LEVEL. -/
def probes (level : Nat) : Nat := 2 ^ (level + 1)

/-- How many bytes two lists have in common at their heads, at most `n`. -/
def sameHead : Nat → List Byte → List Byte → Nat
  | 0, _, _ => 0
  | n + 1, a :: as, b :: bs => if a = b then sameHead n as bs + 1 else 0
  | _ + 1, _, _ => 0

/-- R174: the 15-bit hash of the three bytes at a position. -/
def hashAt (input : List Byte) (pos : Nat) : Nat := Config.cmpHash (leAt input pos 3) % 32768

/-- R174: the distances that the chain of a position gives, nearest first, as many as the LEVEL probes. -/
def chainOf (input : List Byte) (level pos : Nat) : List Nat :=
  (((List.range (min pos 32768)).map (· + 1)).filter fun d =>
    decide (hashAt input (pos - d) = hashAt input pos)).take (probes level)

/-- R174: the longest match at a distance, within the block and within 258 bytes. -/
def matchLen (input : List Byte) (pos d : Nat) : Nat :=
  sameHead (min 258 (65536 - pos % 65536)) (input.drop (pos - d)) (input.drop pos)

/-- R174: the token at a position: a match that the probes have found, or the byte itself; which, is free. -/
def tokenAt (input : List Byte) (level pos : Nat) : Token :=
  let plain := Token.lit ((input.drop pos).headD 0)
  match Config.cmpPick input level pos with
  | none => plain
  | some (i, n) =>
    match (chainOf input level pos)[i]? with
    | none => plain
    | some d =>
      let most := matchLen input pos d
      if most < 3 then plain else .copy (max 3 (min n most)) d

/-- The input bytes of a token. -/
def Token.size : Token → Nat
  | .lit _ => 1
  | .copy n _ => n

/-- The tokens of the input from a position up to the end of its block. -/
def tokens (input : List Byte) (level stop : Nat) : Nat → Nat → List Token
  | 0, _ => []
  | fuel + 1, pos =>
    if stop ≤ pos then []
    else
      let t := tokenAt input level pos
      t :: tokens input level stop fuel (pos + t.size)

/-! ## Huffman coding (RFC 1951) -/

/-- An n-bit number, least significant bit first. -/
def numBits (n v : Nat) : List Bool := (List.range n).map fun i => v.testBit i

/-- The bits of a symbol's code, most significant bit first. -/
def codeBits (lens : List Nat) (sym : Nat) : List Bool :=
  let n := lens.getD sym 0
  (numBits n (firstCode lens n + (lens.take sym).count n)).reverse

/-- The row of a table that holds a number, with the number's extra part. -/
def tableRow (table : List (Nat × Nat)) (v : Nat) : Nat × Nat × Nat :=
  let i := (table.findIdx? fun r => decide (v < r.1)).getD table.length - 1
  let r := table.getD i (0, 0)
  (i, r.2, v - r.1)

/-- A length of 258 has a symbol of its own. -/
def lengthRow (n : Nat) : Nat × Nat × Nat := if n = 258 then (28, 0, 0) else tableRow (lengthTable.take 28) n

/-- The symbols of a token: literal/length, and distance. -/
def Token.symbols : Token → Nat × Option Nat
  | .lit b => (b.toNat, none)
  | .copy n d => (257 + (lengthRow n).1, some (tableRow distTable d).1)

/-- The bits of a token under a pair of codes. -/
def Token.bits (lit dist : List Nat) : Token → List Bool
  | .lit b => codeBits lit b.toNat
  | .copy n d =>
    let l := lengthRow n
    let q := tableRow distTable d
    codeBits lit (257 + l.1) ++ numBits l.2.1 l.2.2 ++ codeBits dist q.1 ++ numBits q.2.1 q.2.2

/-- Codes that give every symbol a length: 226 and 60 literal/length symbols of 8 and 9 bits, 2 and 28 distances of 4 and 5. -/
def flatLit : List Nat := List.replicate 226 8 ++ List.replicate 60 9
def flatDist : List Nat := List.replicate 2 4 ++ List.replicate 28 5

/-- The header of a dynamic block with those codes: every length is spelt out with four bits. -/
def flatHeader : List Bool :=
  let cl := (List.range 16).map fun _ => 4
  numBits 5 29 ++ numBits 5 29 ++ numBits 4 15
    ++ clOrder.flatMap (fun s => numBits 3 (cl.getD s 0))
    ++ (flatLit ++ flatDist).flatMap (codeBits (cl ++ [0, 0, 0]))

/-- R175: the header of a dynamic block and its codes: any that RFC 1951 and R162 allow and that code every token of it. -/
def blockHeader (input : List Byte) (level no : Nat) (l : List Token) : List Bool × List Nat × List Nat :=
  let bits := Config.cmpHeader input level no
  let flat := (flatHeader, flatLit, flatDist)
  match dynamicCodes bits with
  | some (lit, dist, []) =>
    if l.all fun t => decide (lit.getD t.symbols.1 0 ≠ 0) && t.symbols.2.all fun d => decide (dist.getD d 0 ≠ 0) then
      (bits, lit, dist)
    else flat
  | _ => flat

/-- R174, R175: the bits of one block: BFINAL, BTYPE, its codes, its tokens and the end of block. -/
def emitBlock (input : List Byte) (level : Nat) (fixed : Bool) (no : Nat) (final : Bool) : List Bool :=
  let l := tokens input level (min input.length (65536 * (no + 1))) 65536 (65536 * no)
  let h := if fixed then ([], fixedLit, fixedDist) else blockHeader input level no l
  final :: (numBits 2 (if fixed then 1 else 2) ++ h.1 ++ l.flatMap (Token.bits h.2.1 h.2.2) ++ codeBits h.2.1 256)

/-- Bits as bytes, the last one filled with zeros. -/
def packBits (fuel : Nat) (l : List Bool) : List Byte :=
  match fuel with
  | 0 => []
  | n + 1 =>
    if l.isEmpty then []
    else BitVec.ofNat 8 (((List.range 8).map fun i => if l.getD i false then 2 ^ i else 0).sum) :: packBits n (l.drop 8)

/-- R174, R175: the output of a lane for an input, a LEVEL and whether its blocks are fixed: one raw DEFLATE stream. -/
def deflate (input : List Byte) (level : Nat) (fixed : Bool) : List Byte :=
  let n := (input.length + 65535) / 65536
  let l := (List.range n).flatMap fun i => emitBlock input level fixed i (decide (i + 1 = n))
  packBits (l.length + 1) l

end Sys2Proof.Machine
end

