-- ==== Sys2Proof/Machine/Compress.lean ====
section
/-!
DEFINITION. The compressor lanes (R173 to R178): the COMPRESS entry, its chain table, the waiting for a
lane, and the three ways a lane ends an entry.
-/
namespace Sys2Proof.Machine

/-- Fields of a COMPRESS entry (R173). -/
def cmpLen (e : Entry) : Nat := fieldAt e 4 4
def cmpLevel (e : Entry) : Nat := fieldAt e 24 1
def cmpInSpool (e : Entry) : Bool := bit (fieldAt e 25 1) 0
def cmpOutSpool (e : Entry) : Bool := bit (fieldAt e 25 1) 1
def cmpChainAt (e : Entry) : Nat := fieldAt e 32 8
/-- The chain entries in use: none when CHAIN is 0. -/
def cmpChainCount (e : Entry) : Nat := if cmpChainAt e = 0 then 0 else fieldAt e 40 2

/-- The address and the length of a chain-table entry. -/
def chainAddr (c : BitVec 128) : Nat := fieldAt c 0 8
def chainLen (c : BitVec 128) : Nat := fieldAt c 8 4

/-- The output buffers of a job, in order: address and size. -/
def CmpJob.buffers (j : CmpJob) : List (Nat × Nat) :=
  (fieldAt j.entry 16 8, fieldAt j.entry 28 4) :: j.chain.map fun c => (chainAddr c, chainLen c)

/-- The whole output of a job (R174, R175). -/
def CmpJob.out (j : CmpJob) : List Byte := deflate j.input (cmpLevel j.entry) j.fixed
/-- The output bytes that leave before the input is consumed. -/
def CmpJob.early (j : CmpJob) : Nat := min j.out.length (Config.deflateEarly j.input (cmpLevel j.entry) j.fixed)
/-- The bytes that the buffers hold. -/
def CmpJob.room (j : CmpJob) : Nat := (j.buffers.map (·.2)).sum

/-- R176, R177: how a lane ends a job. -/
inductive CmpEnd where
  | good | noSpace | notSmaller
  deriving DecidableEq, Repr

/-- R176, R177: the first of the two failures that the output meets as it grows. -/
def CmpJob.ends (j : CmpJob) : CmpEnd :=
  if j.input.length ≤ j.early ∧ j.input.length ≤ j.room then .notSmaller
  else if j.room < j.out.length then .noSpace else .good

/-- The bytes that a job has put into its buffers when it ends. -/
def CmpJob.written (j : CmpJob) : List Byte :=
  match j.ends with
  | .good => j.out
  | .noSpace => j.out.take j.room
  | .notSmaller => j.out.take j.input.length

/-- R176: how a stream of bytes falls into buffers: each address with its bytes, empty ones left out. -/
def fillBuffers : List (Nat × Nat) → List Byte → List (Nat × List Byte)
  | [], _ => []
  | (a, n) :: rest, bs => if bs.isEmpty then [] else (a, bs.take n) :: fillBuffers rest (bs.drop n)

namespace State

/-- R173: a range of spool bytes outside the ring. -/
def outsideRing (s : State) (a n : Nat) : Bool :=
  decide (a + n ≤ spoolSize) && (decide (a + n ≤ s.ringBase) || decide (s.ringBase + 64 * s.ringUnits ≤ a))

/-- R173: the rules on a COMPRESS entry's fields. -/
def formCompress (s : State) (e : Entry) : Bool :=
  fieldsOnly e [(4, 4), (8, 8), (16, 8), (24, 1), (25, 1), (28, 4), (32, 8), (40, 2)]
    && decide (1 ≤ cmpLen e ∧ cmpLen e ≤ 268435456) && decide (1 ≤ cmpLevel e ∧ cmpLevel e ≤ 9)
    && decide (fieldAt e 25 1 < 4) && decide (64 ≤ fieldAt e 28 4) && decide (fieldAt e 40 2 ≤ 256)
    && (!cmpInSpool e || s.outsideRing (fieldAt e 8 8) (cmpLen e))
    && (!cmpOutSpool e || s.outsideRing (fieldAt e 16 8) (fieldAt e 28 4))

/-- R173: the rules on a chain-table entry. -/
def chainForm (s : State) (e : Entry) (c : BitVec 128) : Bool :=
  decide (64 ≤ chainLen c) && decide (fieldAt c 12 4 = 0) &&
    (!cmpOutSpool e || s.outsideRing (chainAddr c) (chainLen c))

/-- The input of a job, as its transfers read it on QP2; `none` when a block of it is uncorrectable. -/
def cmpInput (e : Entry) (input : List Byte) (s : State) : State × Option (List Byte) :=
  if cmpInSpool e then s.spoolGet 2 (fieldAt e 8 8) (cmpLen e)
  else (((s.hostLoad (entryNs e) (fieldAt e 8 8) (cmpLen e)).count (5 * 64 + 4) 1).hostIn (cmpLen e),
    some (slice input 0 (cmpLen e)))

/-- Write bytes into one output buffer. -/
def writeBuffer (e : Entry) (x : Nat × List Byte) (acc : State × Bool) : State × Bool :=
  if cmpOutSpool e then
    let r := acc.1.spoolPut 2 x.1 x.2
    (r.1, acc.2 && r.2)
  else (acc.1.hostStore (entryNs e) x.1 x.2, acc.2)

/-- A free lane takes the oldest waiting entry, with the service state now in force (R175). -/
def takeCmpLane (i : Fin 4) (s : State) : State :=
  match s.exp.cmp[i], s.exp.cmpWait with
  | none, j :: rest =>
    let held : CmpJob := { j with fixed := decide (s.sys.svc ≠ 1) }
    (s.rise (3 * 64 + 34 + i.1) true).onExp fun x => { x with cmp := x.cmp.set i.1 (some held) i.2, cmpWait := rest }
  | _, _ => s

/-- Every free lane takes a waiting entry; none does outside L0 (R155). -/
def takeCmpLanes (s : State) : State := if s.sys.lpCur ≠ 0 then s else s.forEach (all 4) takeCmpLane

/-- A COMPRESS entry has started: its chain table and its input are read, and it waits for a lane. -/
def startCompress (r : RingIx) (e : Entry) (input : List Byte) (chain : List (BitVec 128)) (s : State) : State :=
  let n := cmpChainCount e
  let l := (List.range n).map fun i => chain.getD i 0
  if !s.linkOk && (!cmpInSpool e || !cmpOutSpool e || decide (n ≠ 0)) then s.failBulk r e 0x0104 2
  else
    let t := if n = 0 then s else ((s.hostLoad (entryNs e) (cmpChainAt e) (16 * n)).count (5 * 64 + 4) 1).hostIn (16 * n)
    if !l.all (t.chainForm e) then t.failBulk r e 0x0102 2
    else
      let g := cmpInput e input t
      match g.2 with
      | none => g.1.failBulk r e 0x0D05 0x13
      | some bs => (g.1.onExp fun x => { x with cmpWait := x.cmpWait ++ [⟨r, e, bs, l, true⟩] }).takeCmpLanes

/-- R176 to R178: a lane ends a job. -/
def endCompress (j : CmpJob) (s : State) : State :=
  let parts := fillBuffers j.buffers j.written
  let w := parts.foldl (fun acc x => writeBuffer j.entry x acc) (s, true)
  if !w.2 then w.1.failBulk j.ring j.entry 0x0D05 0x13
  else match j.ends with
    | .noSpace => w.1.failBulk j.ring j.entry 0x0307 6
    | .notSmaller => w.1.failBulk j.ring j.entry 0x0308 6
    | .good => w.1.doneBulk j.ring j.entry (j.out.length + (parts.length - 1) * 2 ^ 32)
        ((crc32c (leBytes 8 0) j.input).setWidth 48) 6

end State

/-- R173: a COMPRESS entry starts; `input` and `chain` are what host memory held. -/
def execCompress (r : RingIx) (input : List Byte) (chain : List (BitVec 128)) (s : State) : Result :=
  .next (s.runEntry r (fun e => decide (opcode e = 0x0A)) s.formCompress fun e t =>
    if t.sys.lpCur ≠ 0 then t else t.withPool r e (State.startCompress r e input chain))

/-- R176 to R178: a compressor lane ends its entry, and takes the next. -/
def execCompressLaneDone (lane : Fin 4) (s : State) : Result :=
  .next (match s.exp.cmp[lane] with
    | some j =>
      if s.up && decide (s.sys.lpCur = 0) then
        ((s.onExp fun x => { x with cmp := x.cmp.set lane.1 none lane.2 }).endCompress j).takeCmpLanes
      else s
    | none => s)

end Sys2Proof.Machine
end

