-- ==== Sys2Proof/Machine/Meridian.lean ====
section
/-!
DEFINITION. Meridian's time and rate (R305 to R308), slots and their actions (R309 to R316), captures
(R317) and the PTP servo (R318 to R324).
-/
namespace Sys2Proof.Machine
namespace State

/-! ## Time (R305 to R308) -/

/-- The range of INC that R306 accepts. -/
def incOk (n : Nat) : Bool := decide (0x027F5C29 ≤ n ∧ n ≤ 0x0280A3D7)

/-- R306: a write of MER_INC. -/
def writeInc (v : Word) (s : State) : State := if incOk v.toNat then s.wr (aMer 0x10) v else s.refuseWrite (aMer 0x10) v

/-- R306: one CLK_TIME tick of the accumulator. -/
def merTick (s : State) : State := s.onMer fun m => { m with time := m.time + s.rdN (aMer 0x10) }

/-- The Meridian time of `n` ticks ago, at the present INC. -/
def ticksAgo (s : State) (n : Nat) : Nat := s.mer.time - n * s.rdN (aMer 0x10)

/-- R317: an accepted edge latches Meridian time, its input's latency removed, and is counted. -/
def latchCapture (k : Fin 4) (s : State) : State :=
  s.onMer fun m => { m with cap := upd m.cap k fun c => ⟨s.ticksAgo (Config.captureLatency k.1), (c.count + 1) % 65536⟩ }

/-- One second of Meridian time. -/
def merSecond : Nat := 1000000000 * 16777216

/-- R308: the time after the step that MER_SET_CTRL selects; none where the restart is refused. -/
def stepTime (s : State) : Option Nat :=
  let c := s.rdN (aMer 0x20)
  let mode := bits c 31 30
  let ns := s.fld (aMer 0x2C) 29 0
  let set : Nat := (s.rdN (aMer 0x24) + s.fld (aMer 0x28) 15 0 * 4294967296) * merSecond + ns * 16777216
  let now : Int := s.mer.time
  let t : Int :=
    if mode = 1 then set
    else if mode = 2 then (if bit c 29 then now - set else now + set)
    else if mode = 3 then (match s.mer.offset with
      | some o => now - o * 16777216
      | none => now)
    else now
  if (mode = 1 ∨ mode = 2) ∧ 999999999 < ns then none
  else if t < 0 then none else some t.toNat

/-- R308, R322: the restart of the timebase applies the step, and MODE returns to 0; a step ends holding and
divergence. -/
def applyStep (s : State) : State :=
  let c := s.rdN (aMer 0x20)
  let stepped := decide (bits c 31 30 ≠ 0) && (decide (bits c 31 30 ≠ 3) || s.mer.offset.isSome)
  let t := s.onMer fun m =>
    let m := { m with time := s.stepTime.getD m.time, trace := m.trace || bit c 28 }
    if stepped then { m with discards := 0, diverged := false, mustFit := m.mustFit || m.holdover, holdover := false,
                             holdSince := if m.annLost then m.holdSince else none } else m
  t.wrN (aMer 0x20) (c % 2 ^ 30)

/-! ## Outputs (R61, R310, R348) -/

/-- R310: the output is assigned to Meridian. -/
def merOutput (s : State) (u : Nat) : Bool :=
  if u < 32 then s.fbit (aGpio 8) u
  else if u < 36 then s.fbit aEyeIo (u - 32 + 8)
  else s.fbit aEyeIo (u - 36 + 12)

/-- R61, R348: an action on the output acts at its ball. -/
def merDrives (s : State) (u : Nat) : Bool :=
  s.merOutput u && (decide (u < 32) || match fin? 4 ((u - 32) % 4) with
    | some c => s.camRuns c
    | none => false)

/-- R362: a rising edge of a camera trigger is remembered. -/
def noteTrigger (u : Nat) (rising : Bool) (s : State) : State :=
  match fin? 4 (u - 32) with
  | some c => if rising && decide (32 ≤ u) then
      s.onMer fun m => { m with trigRise := m.trigRise.set c.1 s.mer.time c.2 } else s
  | none => s

/-- Drive an output to a level. -/
def drive (o : Fin 40) (level : Bool) (s : State) : State :=
  if s.merDrives o.1 then
    let t := s.noteTrigger o.1 (level && !s.mer.level[o])
    t.onMer fun m => { m with
      level := m.level.set o.1 level o.2
      highTick := if level then m.highTick.set o.1 (s.tick + 1) o.2 else m.highTick }
  else s

/-! ## Slots (R309, R311, R314) -/

/-- The slot's context. -/
def slot (s : State) : SlotRef → Slot
  | .time i => s.mer.tslot[i]
  | .pos j => s.mer.pslot[j]

/-- Change a slot. -/
def onSlot (r : SlotRef) (g : Slot → Slot) (s : State) : State :=
  match r with
  | .time i => s.onTSlot i g
  | .pos j => s.onPSlot j g

/-- BAR0 offsets of a slot's ACT and CTRL, and its index with bit 8 set for a position slot. -/
def slotAct (s : State) : SlotRef → Nat
  | .time i => s.rdN (aTSlot i.1 0x10)
  | .pos j => s.rdN (aPSlot j.1 0x10)
def slotCtrl : SlotRef → Nat
  | .time i => aTSlot i.1 0x14
  | .pos j => aPSlot j.1 0x14
def slotIndex : SlotRef → Nat
  | .time i => i.1
  | .pos j => 256 + j.1

/-- R311: the slot belongs to firmware. -/
def slotOwned : SlotRef → Bool
  | .time i => decide (224 ≤ i.1)
  | .pos j => decide (112 ≤ j.1)

/-- R310, R311: the action is one that ARM accepts. -/
def actionOk (s : State) (a : Nat) : Bool :=
  let act := bits a 31 24
  let unit := bits a 23 16
  let arg := bits a 15 0
  match act with
  | 0 => decide (unit = 0 ∧ arg = 0)
  | 1 | 2 => decide (unit < 40 ∧ arg = 0) && s.merOutput unit
  | 3 => decide (unit < 40 ∧ arg ≠ 0) && s.merOutput unit
  | 4 => decide (unit < 32 ∧ arg = 0)
  | 5 | 8 => decide (unit = 0)
  | 6 | 7 => decide (unit < 8 ∧ arg = 0)
  | _ => false

/-- R309, R314: the target as the slot's registers give it obeys their rules. -/
def slotTargetOk (s : State) : SlotRef → Bool
  | .time i => decide (s.fld (aTSlot i.1 8) 29 0 < 1000000000)
  | .pos j => !(s.fbit (aPSlot j.1 0xC) 30 && (s.fbit (aPSlot j.1 0xC) 31 || s.scan))

/-- R309: the target time of a time slot, in ns. -/
def timeTarget (s : State) (i : Fin 256) : Nat :=
  (s.rdN (aTSlot i.1 0) + s.fld (aTSlot i.1 4) 15 0 * 4294967296) * 1000000000 + s.fld (aTSlot i.1 8) 29 0

/-- The encoder of a position slot. -/
def slotEnc (s : State) (j : Fin 128) : EncIx := if s.fbit (aPSlot j.1 0xC) 31 then 1 else 0

/-- R314: the target of a position slot, in 1/256 count: none while its sheet is not anchored. -/
def posTarget (s : State) (j : Fin 128) : Option Int :=
  let pos := s.rdS64 (aPSlot j.1 0)
  if s.fbit (aPSlot j.1 0xC) 30 then
    (s.anchor? (s.rd (aPSlot j.1 8))).map fun a => s.rowTarget a 0 (s.fld (aPSlot j.1 0xC) 23 0) + pos
  else some pos

/-- R314: H has reached the slot's target. -/
def posReached (s : State) (j : Fin 128) : Bool :=
  match s.posTarget j with
  | some x => decide (x ≤ 256 * s.high (s.slotEnc j))
  | none => false

/-- PRED of a position slot. -/
def slotPred (s : State) (j : Fin 128) : Bool := s.fbit (aPSlot j.1 0xC) 29

/-- R315: the predicted action time, in 1/16 ns. -/
def posPredict (s : State) (j : Fin 128) : Option Nat :=
  (s.posTarget j).bind fun x => (s.arrival (s.slotEnc j) x).map fun t => t - 16 * s.rdN (aPSlot j.1 0x18)

/-! ## Actions (R310) -/

/-- Actions 0x04 to 0x08, issued from the dispatch queue. -/
def issue (d : Dispatched) (s : State) : State :=
  match d.act with
  | 4 => match fin? 32 d.unit with
    | some ch => s.dmaAction ch
    | none => s
  | 5 => s.status 0x0909 (BitVec.ofNat 64 d.arg) (BitVec.ofNat 48 (slotIndex d.slot)) 0x0D
  | 6 => match fin? 8 d.unit with
    | some k => s.commitAction k
    | none => s
  | 7 => match fin? 8 d.unit with
    | some x => s.startQueued x
    | none => s
  | _ => s.emit (.firmware (.slotSignal (BitVec.ofNat 16 d.arg)))

/-- A slot's action in its tick: a pin action, or an entry of the dispatch queue. -/
def act (r : SlotRef) (s : State) : State :=
  let a := s.slotAct r
  let unit := bits a 23 16
  let arg := bits a 15 0
  match bits a 31 24, fin? 40 unit with
  | 1, some o => s.drive o true
  | 2, some o => s.drive o false
  | 3, some o => (s.drive o true).onMer fun m => { m with
      pulse := m.pulse.set o.1 ((s.mer.time + arg * 10 * 16777216) :: m.pulse[o]) o.2 }
  | n, _ => if 4 ≤ n then s.onMer fun m => { m with dispatch := m.dispatch ++ [⟨r, n, unit, arg⟩] } else s

/-- R313: the slot's previous dispatch entry is still queued. -/
def stillQueued (s : State) (r : SlotRef) : Bool :=
  decide (4 ≤ bits (s.slotAct r) 31 24) && s.mer.dispatch.any fun d => decide (d.slot = r)

/-- R309: where a slot goes after an occurrence: its next target, or the end `final`. -/
def slotNext (r : SlotRef) (final : SlotState) (s : State) : State :=
  match r with
  | .time i =>
    let count := s.fld (slotCtrl r) 15 0
    let period := s.rdN (aTSlot i.1 0xC)
    s.onTSlot i fun q =>
      if period ≠ 0 ∧ (count = 0 ∨ q.runs < count) then { q with target := q.target + period }
      else { q with state := if period = 0 then final else .done }
  | .pos j => s.onPSlot j fun q => { q with state := final, due := none }

/-- R311: the event of an execution. -/
def execEvent (r : SlotRef) (s : State) : State :=
  if s.fbit (slotCtrl r) 23 then
    s.status 0x090A (BitVec.ofNat 64 (slotIndex r)) (BitVec.ofNat 48 ((s.slot r).runs % 65536)) 0x0D
  else s

/-- R472: the counter event of an execution. -/
def slotCounter : SlotRef → Nat
  | .time _ => 6 * 64 + 12
  | .pos _ => 6 * 64 + 13

/-- R309 to R313: one due occurrence of an armed slot. -/
def occur (r : SlotRef) (late : Bool) (s : State) : State :=
  let t := s.onSlot r fun q => { q with runs := q.runs + 1, late := q.late || late }
  let t := if late then ((t.setW1c (slotCtrl r) 26).errorUnit 0x0902 .c unitNone 0 0x0D).count (6 * 64 + 14) 1 else t
  if late && s.fbit (slotCtrl r) 24 then t.slotNext r .dropped
  else if s.stillQueued r then
    (((t.onSlot r fun q => { q with overrun := true }).setW1c (slotCtrl r) 25).errorUnit 0x0903 .c unitNone 0 0x0D).slotNext r .done
  else
    (((t.count (slotCounter r) 1).act r).execEvent r).slotNext r .done

/-- R309: an armed time slot whose target Meridian time has reached. -/
def timeDue (s : State) (i : Fin 256) : Bool :=
  decide (s.mer.tslot[i].state = .armed) && decide (s.mer.tslot[i].target * 16777216 ≤ s.mer.time)

/-- R29, R309: the due time slots of an index below `n` run, in ascending order. -/
def timeSlots (n : Nat) (s : State) : State :=
  s.forEach ((all 256).filter fun i => decide (i.1 < n)) fun i t => if t.timeDue i then t.occur (.time i) false else t

/-- R315: a predicted slot with no committed time: it is committed 500 ns ahead, runs late when its time is
already past as it is first predicted, and waits otherwise. -/
def predict (j : Fin 128) (s : State) : State :=
  if s.mer.pslot[j].state ≠ .armed ∨ !s.slotPred j ∨ s.mer.pslot[j].due.isSome then s
  else match s.posPredict j with
    | none => s
    | some t =>
      if t < s.now16 ∧ !s.mer.pslot[j].ahead then s.occur (.pos j) true
      else s.onPSlot j fun q => { q with ahead := true, due := if t ≤ s.now16 + 8000 then some t else none }

/-- R312, R314, R315: what an armed position slot does in a tick in which H has reached its target. -/
def posDue (j : Fin 128) (late : Bool) (s : State) : State :=
  if s.mer.pslot[j].state = .armed ∧ s.posReached j ∧ s.mer.pslot[j].due.isNone then
    s.occur (.pos j) (late || s.slotPred j)
  else s

/-- R315: the committed time of a predicted slot has come. -/
def predictedDue (s : State) (j : Fin 128) : Bool :=
  decide (s.mer.pslot[j].state = .armed) && s.mer.pslot[j].due.any fun d => decide (d ≤ s.now16)

/-- R315: a predicted slot acts at its committed time. -/
def runPredicted (j : Fin 128) (s : State) : State := if s.predictedDue j then s.occur (.pos j) false else s

/-- R312, R314: the due time slots run, and then every armed position slot whose target H has reached, in ascending order
(R29); one that H had passed at `h` in 1/256 count, before its sheet was anchored, runs late. -/
def posSlots (m : EncIx) (h : Int) (s : State) : State :=
  (s.timeSlots 256).forEach (all 128) fun j t =>
    posDue j (decide (t.slotEnc j = m) && (t.posTarget j).any fun x => decide (x ≤ h)) t

/-- R312, R314, R315: in the tick of an anchor, a sheet-row slot that H had passed at `h` runs late; the others are
predicted. -/
def anchorSlots (h : Int) (s : State) : State := (s.posSlots 0 h).forEach (all 128) predict

/-- R311: an ARM of the slot is refused. -/
def armRefused (s : State) (r : SlotRef) (v : Word) : Bool :=
  slotOwned r || v.getLsbD 30 || decide ((s.slot r).state = .armed) || !s.slotTargetOk r || !s.actionOk (s.slotAct r)

/-- R311, R312: an accepted ARM; a target already reached runs late in the tick after it. -/
def arm (r : SlotRef) (s : State) : State :=
  match r with
  | .time i =>
    let t := s.onTSlot i fun q => { q with state := .armed, runs := 0, target := s.timeTarget i, due := none, ahead := false }
    if t.timeDue i then t.occur r true else t
  | .pos j =>
    let t := s.onPSlot j fun q => { q with state := .armed, runs := 0, due := none, ahead := false }
    (t.posDue j true).predict j

/-- R313, R316: DISARM: an armed slot goes to CANCELLED; one that is due in this tick runs first, and ends DONE. -/
def disarm (r : SlotRef) (s : State) : State :=
  if (s.slot r).state ≠ .armed then s
  else match r with
    | .time i =>
      if s.timeDue i then (s.timeSlots (i.1 + 1)).onTSlot i fun q => { q with state := .done }
      else s.onTSlot i fun q => { q with state := .cancelled }
    | .pos j =>
      if s.predictedDue j then
        (s.timeSlots 256).forEach ((all 128).filter fun k => decide (k.1 ≤ j.1)) runPredicted
      else s.onPSlot j fun q => { q with state := .cancelled, due := none }

/-- R311: a write of a slot's CTRL register. -/
def writeSlotCtrl (r : SlotRef) (v : Word) (s : State) : State :=
  if v.getLsbD 31 && s.armRefused r v then s.refuseWrite (slotCtrl r) v
  else
    let t := (s.wr (slotCtrl r) (v &&& 0x0180FFFF)).onSlot r fun q => { q with
      late := q.late && (!v.getLsbD 26 || s.heldW1c (slotCtrl r) 26)
      overrun := q.overrun && (!v.getLsbD 25 || s.heldW1c (slotCtrl r) 25) }
    if v.getLsbD 31 then t.arm r else if v.getLsbD 30 then t.disarm r else t

/-- R316: a stop of the timebase cancels every armed slot, and one event reports it. -/
def cancelAllSlots (s : State) : State :=
  let nt := (all 256).countP fun i => decide (s.mer.tslot[i].state = .armed)
  let np := (all 128).countP fun j => decide (s.mer.pslot[j].state = .armed)
  let hit (q : Slot) : Slot := if q.state = .armed then { q with state := .cancelled, due := none } else q
  (s.onMer fun m => { m with tslot := m.tslot.map hit, pslot := m.pslot.map hit }).status 0x0908
    (BitVec.ofNat 64 (nt + np * 65536)) 0 0x0D

/-! ## PTP (R318 to R323) -/

/-- EN, POLICY and JUMP_LIMIT of MER_PTP_CFG. -/
def ptpOn (s : State) : Bool := s.fbit (aMer 0x40) 31
def ptpPolicy (s : State) : Bool := s.fbit (aMer 0x40) 30
/-- R322: the policy in force is HOLDOVER: a change of POLICY takes effect at the next sample. -/
def ptpHold (s : State) : Bool := s.mer.policy
/-- R319: MER_PTP_ASYM, the delay asymmetry that firmware adds, in ns. -/
def ptpAsym (s : State) : Int := signed 32 (s.rdN (aMer 0x4C))
def jumpLimit (s : State) : Nat := s.fld (aMer 0x40) 15 0
/-- The Ethernet port that carries PTP. -/
def ptpPort (s : State) : EthIx := if s.fbit (aMer 0x40) 29 then 1 else 0

/-- R322: HOLDOVER begins. -/
def beginHoldover (s : State) : State :=
  if s.mer.holdover then s
  else (s.onMer fun m => { m with
    holdover := true, mustFit := false, ptpLock := false, good := 0, holdSince := some m.time }).errorUnit 0x0906 .c unitNone 0 0x0D

/-- R322: GUARD holds: the increment is kept and PTP_LOCK is clear. -/
def beginHolding (s : State) : State :=
  s.onMer fun m => { m with ptpLock := false, good := 0, holdSince := some (m.holdSince.getD m.time) }

/-- R321: INC is kept within 50 ppm of the servo's frequency estimate, and within the range of R306. -/
def servoBound (estimate inc : Nat) : Nat :=
  min 0x0280A3D7 (max 0x027F5C29 (min (estimate + estimate / 20000) (max (estimate - estimate / 20000) inc)))

/-- R321, R322: an accepted sample moves the servo's estimate, steers INC and counts towards PTP_LOCK. -/
def acceptSample (o : Int) (s : State) : State :=
  let estimate := Config.servoEstimate s.mer.estimate (s.rdN (aMer 0x10)) o
  let inc := servoBound estimate (Config.servoInc (s.rdN (aMer 0x10)) o)
  let t := s.onMer fun m =>
    let good := if o.natAbs < 100 then m.good + 1 else 0
    { m with discards := 0, diverged := false, mustFit := false, good := good
             holdSince := if m.annLost then m.holdSince else none
             ptpLock := m.ptpLock || (decide (16 ≤ good) && !m.annLost)
             trace := m.trace || (decide (16 ≤ good) && !m.annLost) }
  let t := t.count (5 * 64 + 23) 1
  if s.mer.annLost then t else (t.onMer fun m => { m with estimate := estimate }).wrN (aMer 0x10) inc

/-- R322: GUARD discards a sample; the eighth in a row is divergence. -/
def discardSample (s : State) : State :=
  let n := min 8 (s.mer.discards + 1)
  let t := (s.onMer fun m => { m with discards := n, good := 0 }).count (5 * 64 + 24) 1
  if n = 8 ∧ !s.mer.diverged then
    ((t.onMer fun m => { m with diverged := true }).beginHolding).errorUnit 0x0905 .c unitNone 0 0x0D
  else t

/-- R321, R322: one offset sample; the POLICY that the register holds comes into force with it. -/
def ptpSample (o : Int) (s : State) : State :=
  let t := s.onMer fun m => { m with offset := some (clampI (-2147483648) 2147483647 o), policy := s.ptpPolicy }
  let fits := decide (o.natAbs ≤ s.jumpLimit)
  if s.mer.holdover then t
  else if fits then t.acceptSample o
  else if s.ptpPolicy || s.mer.mustFit then t.beginHoldover
  else t.discardSample

/-- R324, R322: a write of MER_PTP_CTRL; a RESUME outside holdover has no effect. -/
def writePtpCtrl (v : Word) (s : State) : State :=
  if v.getLsbD 0 && s.mer.holdover then
    s.onMer fun m => { m with holdover := false, mustFit := true, holdSince := if m.annLost then m.holdSince else none }
  else s

/-- R322, R430: Announce messages are lost. -/
def annLoss (s : State) : State :=
  let t := s.onMer fun m => { m with annLost := true }
  if s.ptpHold then t.beginHoldover else t.beginHolding

end State

/-! ## The commands -/

/-- R29, R309 to R313, R327: a time slot's target is reached, and those of a lower index that are due run before it;
`disagree` tells that the two copies of the comparator or the accumulator differ. -/
def execTimeSlotDue (i : Fin 256) (disagree : Bool) (s : State) : Result :=
  if disagree then .next (s.classD 0x0901 unitNone 0 0x0D)
  else .next (if s.timeDue i then s.timeSlots (i.1 + 1) else s)

/-- R310, R313: the earliest low edge of an output's pulses; a later set-high in the same tick leaves the output high. -/
def execOutputPulseEnd (o : Fin 40) (s : State) : Result :=
  match s.mer.pulse[o].min? with
  | none => .next s
  | some t =>
    if s.mer.time < t then .next s
    else
      let u := s.onMer fun m => { m with pulse := m.pulse.set o.1 (m.pulse[o].erase t) o.2 }
      .next (if s.mer.highTick[o] = s.tick + 1 then u else u.drive o false)

/-- R29, R315: the action time of a predicted slot; the due time slots, and the predicted slots of a lower index whose times have
come, run before it. -/
def execPredictedSlotDue (j : Fin 128) (s : State) : Result :=
  if s.mer.pslot[j].state ≠ .armed then .next s
  else
    let t := s.predict j
    .next (if t.predictedDue j then
      (t.timeSlots 256).forEach ((all 128).filter fun k => decide (k.1 ≤ j.1)) State.runPredicted else t)

/-- R310: the dispatch queue issues its oldest entry. -/
def execDispatchIssue (s : State) : Result :=
  match s.mer.dispatch with
  | [] => .next s
  | d :: rest => .next ((s.onMer fun m => { m with dispatch := rest }).issue d)

/-- R311, R312: a host write of a slot's CTRL that sets ARM. -/
def execSlotArm (slot : SlotRef) (v : Word) (s : State) : Result :=
  .next (if s.hostUp then (s.hostIn 4).writeSlotCtrl slot v else s)

/-- R311, R313: a host write of a slot's CTRL that sets DISARM. -/
def execSlotDisarm (slot : SlotRef) (v : Word) (s : State) : Result :=
  .next (if s.hostUp then (s.hostIn 4).writeSlotCtrl slot v else s)

/-- R306: a host write of MER_INC. -/
def execMerIncWrite (v : Word) (s : State) : Result := .next (if s.hostUp then (s.hostIn 4).writeInc v else s)

/-- R317: an accepted edge of the GPIO that MER_CAP_SEL names for input 2, or 3 when `second`. -/
def execGpioCaptureEdge (second : Bool) (rising : Bool) (s : State) : Result :=
  let sel := s.rdN (aMer 0x60)
  let pin := if second then bits sel 12 8 else bits sel 4 0
  let edge := if second then bits sel 14 13 else bits sel 6 5
  let t := s.onGpio fun g => BitVec.ofNat 32 (g.toNat - b2n (bit g.toNat pin) * 2 ^ pin + b2n rising * 2 ^ pin)
  let k : Fin 4 := if second then 3 else 2
  if !s.clear then .next t
  else if edge = 2 ∨ (edge = 0 ∧ rising) ∨ (edge = 1 ∧ !rising) then
    .next (t.latchCapture k)
  else .next t

/-- R472, R473: a frame of `len` bytes is accepted on an Ethernet port. -/
def State.frameIn (p : EthIx) (len : Nat) (s : State) : State := (s.count (5 * 64 + 16 + p.1) 1).pass 4 p.1 len

/-- R420: the MAC accepts a frame of `len` bytes, from destination address to FCS; one shorter than the 64 bytes of the standard
is no frame (PRESUMED, log entry 95). -/
def macAccepts (len : Nat) : Bool := decide (64 ≤ len ∧ len ≤ 9216)

/-! ## PTP event messages (R318, R319; the places within a message are those of IEEE 1588-2019: PRESUMED, log entry 95) -/

/-- The least significant byte of `v` last, in `n` bytes. -/
def beBytes (n v : Nat) : List Byte := (leBytes n v).reverse

/-- `new` in place of the bytes from `i` on. -/
def splice (bs : List Byte) (i : Nat) (new : List Byte) : List Byte := bs.take i ++ new ++ bs.drop (i + new.length)

/-- A time of 2^-24 ns as originTimestamp: 48 bits of seconds and 32 of nanoseconds. -/
def ptpTimestamp (t : Nat) : List Byte := beBytes 6 (t / State.merSecond) ++ beBytes 4 (t % State.merSecond / 16777216)

/-- Where the PTP message begins in a frame of the port. -/
def State.ptpStart (s : State) (p : EthIx) : Nat :=
  14 + (if s.fbit (aEthPort p.1 0) 25 then 4 else 0) + match s.fld (aMer 0x40) 28 27 with
    | 0 => 0
    | 1 => 28
    | _ => 48

/-- R319: what one-step operation writes into a frame that leaves at `t`: originTimestamp where the message has one, and into a
Pdelay_Resp the time since the ingress stamp `request` of the message that it answers, added to correctionField. -/
def oneStep (start t request : Nat) (frame : List Byte) : List Byte :=
  let typ := leAt frame start 1 % 16
  if typ ≤ 2 then splice frame (start + 34) (ptpTimestamp t)
  else if typ = 3 then
    let old := ((slice frame (start + 8) 8).foldl (fun n (b : Byte) => n * 256 + b.toNat) 0)
    splice frame (start + 8) (beBytes 8 (BitVec.ofInt 64 (old + ((t : Int) - request) / 256)).toNat)
  else frame

/-- R319, R429: an event message is received; on the PTP port its stamp goes to firmware, `latency` being the fixed
latency removed, in ns; on the other port the frame is discarded and counted. -/
def execPtpEventRx (p : EthIx) (latency len : Nat) (s : State) : Result :=
  if !(s.up && s.eth.port[p].link && macAccepts len) then .next s
  else if p ≠ s.ptpPort then .next (s.onEthPort p fun e => { e with fwDrop := e.fwDrop + 1 })
  else if s.ptpOn then
    .next ((s.frameIn p len).emit (.firmware (.ptpStamp p true (s.mer.time - latency * 16777216))))
  else .next (s.frameIn p len)

/-- R319, R429: an event message leaves the PTP port: its stamp goes to firmware, and in one-step operation it is written into the frame. -/
def execPtpEventTx (p : EthIx) (sent : PtpDeparture) (s : State) : Result :=
  .next (if s.up && s.ptpOn && decide (p = s.ptpPort) && s.eth.port[p].link then
    let t := s.mer.time + sent.latency * 16777216
    let bytes := if s.fbit (aMer 0x40) 26 then sent.frame else oneStep (s.ptpStart p) t sent.request sent.frame
    (s.emit (.frame p (bytes ++ leBytes 4 (crc32 bytes).toNat))).emit (.firmware (.ptpStamp p false t)) else s)

/-- R319, R321, R322: a Sync exchange yields an offset, in ns, from which firmware takes the delay asymmetry: that is the
sample. -/
def execPtpOffsetSample (offset : Int) (s : State) : Result :=
  .next (if s.up && s.ptpOn then s.ptpSample (offset - s.ptpAsym) else s)

/-- R322: no Announce message within three intervals. -/
def execAnnounceLoss (s : State) : Result := .next (if s.up && s.ptpOn then s.annLoss else s)

/-- R322: Announce messages return: following resumes unless the device is diverged or in holdover. -/
def execAnnounceRx (s : State) : Result :=
  .next (if s.up && s.ptpOn then s.onMer fun m => { m with
    annLost := false, holdSince := if m.diverged ∨ m.holdover then m.holdSince else none } else s)

/-- R322: the BMCA chooses another master. -/
def execPtpMasterChange (s : State) : Result :=
  .next (if s.up && s.ptpOn && s.ptpHold then s.beginHoldover else s)

/-- R322, R324: a host write of MER_PTP_CTRL: RESUME ends holdover. -/
def execPtpResume (v : Word) (s : State) : Result :=
  .next (if s.hostUp then (s.hostIn 4).writePtpCtrl v else s)

/-- R305: a read of MER_TIME_FRAC copies the time. -/
def execMerTimeFracRead (s : State) : Result :=
  .next (if s.hostUp then
    (s.onMer fun m => { m with copy := m.time }).reply (BitVec.ofNat 32 (s.mer.time / 256 % 65536))
  else s)

end Sys2Proof.Machine
end

