-- ==== Sys2Proof/Machine/Press.lean ====
section
/-!
DEFINITION. The press pins: sheet edges and virtual sheets (R145 to R147, R290), the reject gate (R461 to R464),
ENGINE_OK (R40, R465, R466) and PRESS_RUN (R147).
-/
namespace Sys2Proof.Machine
namespace State

/-! ## Settings (R143, R144, R460) -/

/-- EDGE_SRC: the anchoring input. -/
def edgeSrc (s : State) : Fin 2 := if s.fbit aJobTransport 29 then 1 else 0
/-- WEB_EDGE_EN. -/
def webEdge (s : State) : Bool := s.fbit aJobTransport 28
/-- REPEAT_LEN. -/
def repeatLen (s : State) : Nat := s.fld aJobTransport 23 0
/-- EDGE_WINDOW and MIN_GAP. -/
def edgeWindow (s : State) : Nat := s.fld aJobEdge 31 16
def minGap (s : State) : Nat := s.fld aJobEdge 15 0
/-- GATE - LEAD, in counts. -/
def gateAhead (s : State) : Int := signed 32 (s.rdN (aInt 4)) - s.fld (aInt 8) 31 16

/-- H of MENC0. -/
def hwm0 (s : State) : Int := s.high 0

/-! ## ENGINE_OK after an orderly stop (R465) -/

/-- R465: once the pulses of every anchored sheet have been sent, ENGINE_OK falls. -/
def settleOk (s : State) : State :=
  if s.integ.okHolds && !s.integ.reject && s.job.anchors.all (·.decided) then
    s.onInteg fun i => { i with engineOk := false, okHolds := false }
  else s

/-! ## The reject gate (R461 to R464) -/

/-- R461: P_d of a sheet anchored at a row coordinate, in 1/256 count of MENC0. -/
def decisionPoint (s : State) (pe y : Int) : Int :=
  (if s.scan then s.feedTarget pe 0 else s.barOff 0 + gearX (s.gears 0) y) + 256 * s.gateAhead

/-- R463: REJECT is high, or fell less than 10 µs ago. -/
def pulseBusy (s : State) : Bool :=
  s.integ.reject || match s.integ.pulseFell with
    | some t => decide (s.tick < t + 4000)
    | none => false

/-- R461: the width of a pulse in ticks: PULSE × 10 µs at parity 0, and twice that at parity 1. -/
def pulseTicks (s : State) (parity : Bool) : Nat := s.fld (aInt 8) 15 8 * 4000 * if parity then 2 else 1

/-- R461, R463, R464: the pulse of a rejected sheet with its parity. -/
def pulse (parity : Bool) (s : State) : State :=
  if s.pulseBusy then (if s.integ.dstop then s else s.classD 0x1004 unitNone 0 0x15)
  else (s.onInteg fun i => { i with reject := true, pulseEnds := s.tick + s.pulseTicks parity }).count (6 * 64 + 33) 1

/-- R461, R462: an anchored sheet is decided. -/
def decideAnchor (a : Anchor) (s : State) : State :=
  let t := s.onJob fun j => { j with
    anchors := mapFirst (fun x => decide (x = a)) (fun x => { x with decided := true }) j.anchors }
  match a.sheet with
  | none => t.pulse a.parity
  | some id => match s.sheet? id with
    | some sh => (t.sheetError 0x1003 .s id (sh.fired.toList.foldl min sh.rows) unitNone 0 0x15).pulse a.parity
    | none => match s.record? id with
      | some m => if 3 ≤ m.sheet.cls.rank then t.pulse a.parity else t
      | none => t.pulse a.parity

/-- R461: every sheet whose decision point H of MENC0 has reached is decided. -/
def decideSheets (s : State) : State :=
  let t := s.forEach (s.job.anchors.filter fun a => !a.decided && decide (a.decide ≤ 256 * s.hwm0)) decideAnchor
  if s.job.anchors.any fun a => !a.decided && decide (a.decide ≤ 256 * s.hwm0) then t.settleOk.sweepTaps else t

/-- Anchors that nothing can ask for any more are dropped: decided ones, but for the latest, and those of sheets that
are queued or recorded. -/
def pruneAnchors (s : State) : State :=
  s.onJob fun j => { j with
    anchors := (j.anchors.dropLast.filter fun a => !a.decided || match a.sheet with
      | some id => (s.sheet? id).isSome || (s.record? id).isSome
      | none => false) ++ j.anchors.getLast?.toList }

/-! ## Anchoring (R145 to R147, R290, R461, R464) -/

/-- R461: a sheet is anchored, or a physical sheet without one, and takes its parity. -/
def addAnchor (sheet : Option Sheet) (pe y : Int) (s : State) : State :=
  let parity := decide (s.job.anchorCount % 2 = 1)
  let rows := match sheet with
    | some sh => sh.rows
    | none => 1
  let t := ((s.settleHigh 0).pruneAnchors.onJob fun j => { j with
    anchors := j.anchors ++ [⟨sheet.map (·.id), pe, y, rows, parity, s.decisionPoint pe y, false⟩]
    anchorCount := j.anchorCount + 1 }).onInteg fun i => { i with parity := parity }
  match sheet with
  | some sh => t.onSheet sh.id fun x => { x with anchored := true }
  | none => t

/-- R145: E_SHEET_NOT_READY for the physical sheet just anchored. -/
def notReady (pe : Int) (s : State) : State :=
  s.error 0x0207 .s (BitVec.ofInt 64 pe) (BitVec.ofNat 48 (b2n s.integ.parity)) 5

/-- R147: a sheet passes unprinted with PRESS_RUN low. -/
def skipSheet (pe y : Int) (s : State) : State :=
  (s.addAnchor none pe y).onInteg fun i => { i with prSkip := satTo 255 (i.prSkip + 1) }

/-- The next queued sheet: the first that is not anchored. -/
def nextQueued (s : State) : Option Sheet := s.job.sheets.find? fun sh => !sh.anchored

/-- R145, R147, R464: the next queued sheet is anchored, or a physical sheet in its place. -/
def takeSheet (pe y : Int) (s : State) : State :=
  if !s.integ.pressRun then s.skipSheet pe y
  else if s.integ.orderly then (s.addAnchor none pe y).notReady pe
  else match s.nextQueued with
    | some sh => s.addAnchor (some sh) pe y
    | none => (s.addAnchor none pe y).notReady pe

/-- R290: the row coordinate that an edge gives. -/
def edgeRow (s : State) (pe : Int) : Int := gearY (s.gears 0) (256 * pe + s.edgeOff)

/-- R145: an edge lies within the previous sheet or fewer than MIN_GAP rows after it. -/
def edgeEarly (s : State) (y : Int) : Option Anchor :=
  match s.job.anchors.getLast? with
  | some a => if y < a.y + ((a.rows : Int) - 1 + s.minGap) * rowUnit then some a else none
  | none => none

/-- R145, R147: an edge in sheet-fed mode. -/
def sheetFedEdge (pe : Int) (s : State) : State :=
  let y := s.edgeRow pe
  match s.edgeEarly y with
  | none => s.takeSheet pe y
  | some a =>
    let t := if s.integ.pressRun then s.addAnchor none pe y else s.skipSheet pe y
    match a.sheet with
    | some id => t.sheetError 0x0208 .s id 0 unitNone 0 5
    | none => t

/-! ## Web mode (R146) -/

/-- R146: a virtual sheet falls due. -/
def virtualDue (pe y : Int) (s : State) : State :=
  let t := (s.takeSheet pe y).onJob fun j => { j with virtualNext := some (y + s.repeatLen * rowUnit) }
  match t.job.anchors.getLast?.bind (·.sheet) with
  | some id => match t.sheet? id with
    | some sh => if (s.repeatLen : Int) - s.minGap < sh.rows then t.sheetError 0x0208 .s id 0 unitNone 0 5 else t
    | none => t
  | none => t

/-- R290: B0 has committed row 0 of an anchored sheet. The manual does not say when B0 commits row 0 of a virtual sheet that has
no queued sheet: the model takes it as H reaching B0's target of row 0 (DESIGN CHOICE, log entry 89). -/
def rowZeroCommitted (s : State) (a : Anchor) : Bool :=
  match a.sheet.bind s.sheet? with
  | some sh => decide (0 < sh.fired[0]) || (s.livePorts 0).any fun p =>
      (s.port[p].commit.isSome && match s.port[p].row? s.port[p].fire with
        | some r => decide (r.sheet = sh.id ∧ r.srow = 0)
        | none => false)
      || (s.bar[0].rows.any fun r => decide (r.sheet = sh.id ∧ r.srow = 0 ∧ r.n < s.port[p].fire))
  | none => decide (s.barOff 0 + gearX (s.gears 0) a.y ≤ 256 * s.hwm0)

/-- The row coordinate lies within ±EDGE_WINDOW of another. -/
def inWindow (s : State) (y y0 : Int) : Bool := decide ((y - y0).natAbs ≤ s.edgeWindow * 4294967296)

/-- R290: an edge moves the anchor of the latest virtual sheet. -/
def moveAnchor (a : Anchor) (pe y : Int) (s : State) : State :=
  s.onJob fun j => { j with
    anchors := mapFirst (fun x => decide (x = a)) (fun x => { x with y := y, decide := s.decisionPoint pe y }) j.anchors
    virtualNext := if j.anchors.getLast? = some a then some (y + s.repeatLen * rowUnit) else j.virtualNext }

/-- R146: an edge in web mode after the first. -/
def webReanchor (pe : Int) (next : Int) (s : State) : State :=
  let y := s.edgeRow pe
  match s.job.anchors.find? fun a => !a.decided && !s.rowZeroCommitted a && s.inWindow y a.y with
  | some a => s.moveAnchor a pe y
  | none =>
    if s.inWindow y next then s.virtualDue pe y
    else (s.onJob fun j => { j with edgesIgnored := j.edgesIgnored + 1 }).status 0x020D (BitVec.ofInt 64 pe) 0 5

/-- R146: an edge in web mode. -/
def webEdgeAt (pe : Int) (s : State) : State :=
  match s.job.virtualNext with
  | none => s.virtualDue pe (s.edgeRow pe)
  | some y => if s.webEdge then s.webReanchor pe y else s

/-- R146: virtual sheets fall due as H of MENC0 reaches their predicted place. -/
def virtualSheets : Nat → State → State
  | 0, s => s
  | fuel + 1, s => match s.job.virtualNext with
    | some y => if s.web && s.engRuns && decide (y ≤ s.edgeRow s.hwm0) then virtualSheets fuel (s.virtualDue s.hwm0 y) else s
    | none => s

/-- R145, R146: an accepted edge on the anchoring input. -/
def anchorEdge (s : State) : State :=
  let pe := s.hls.enc[0].pos
  (if s.web then s.webEdgeAt pe else s.sheetFedEdge pe).decideSheets.anchorSlots (256 * s.hwm0)

end State

/-! ## The commands -/

/-- R145, R146, R304, R317: an accepted edge on the input that EDGE_SRC selects. -/
def execSheetEdge (edge : FeedEdge) (s : State) : Result :=
  if !s.up || decide (edge.input ≠ s.edgeSrc) then .next s
  else
    let t := s.latchCapture ⟨edge.input.1, by omega⟩
    .next (if s.engRuns && s.tbRuns then (t.anchorEdge).when edge.disagree (fun u => u.classD 0x0807 (unitEnc 0) 0 0x0C) else t)

/-- R143, R317: an accepted edge on the input that EDGE_SRC does not select. -/
def execSheetEdgeCapture (input : Fin 2) (s : State) : Result :=
  .next (if s.up && decide (input ≠ s.edgeSrc) then s.latchCapture ⟨input.1, by omega⟩ else s)

/-- R147: PRESS_RUN changes. -/
def execPressRunChange (level : Bool) (s : State) : Result :=
  if level = s.integ.pressRun then .next s
  else
    let t := s.onInteg fun i => { i with pressRun := level }
    .next (if s.up then t.status 0x1009 (BitVec.ofNat 64 (b2n level)) 0 0x15 else t)

/-- R461, R465: the REJECT pulse has lasted its width. -/
def execRejectPulseEnd (s : State) : Result :=
  .next (if s.integ.reject && decide (s.integ.pulseEnds ≤ s.tick) then
    (s.onInteg fun i => { i with reject := false, pulseFell := some s.tick }).settleOk else s)

/-- R466: the level read back at REJECT or ENGINE_OK has differed from the driven one for 1 µs. -/
def execPinCheckFault (_pin : CheckedPin) (s : State) : Result :=
  .next (if s.up then s.classD 0x1005 unitNone 0 0x15 else s)

end Sys2Proof.Machine
end

