-- ==== Sys2Proof/Machine/Heliostat.lean ====
section
/-!
DEFINITION. Heliostat at work: encoder counts, the high-water mark and the row events (R282 to R287), the fallback
(R297), the estimator (R292) and SLOW_REQ (R300), and the feeds of scanning mode (R301 to R303).
-/
namespace Sys2Proof.Machine
namespace State

/-! ## Settings (R284, R294, R301, R303) -/

def encEn (s : State) (m : EncIx) : Bool := s.fbit (aHlsEnc m.1 0) 31
def encDir (s : State) (m : EncIx) : Bool := s.fbit (aHlsEnc m.1 0) 30
def revLimit (s : State) (m : EncIx) : Nat := s.fld (aHlsEnc m.1 0) 15 0
/-- R282, R292: the fixed synchroniser and filter latency of an encoder's inputs, in ticks: two stages, and FILT + 1
samples. -/
def encLatency (s : State) (m : EncIx) : Nat := s.fld (aHlsEnc m.1 0) 18 16 + 3
def feedAxis (s : State) : AxisIx := ⟨s.fld (aHls 0x2014) 31 29 % 8, Nat.mod_lt _ (by decide)⟩
def feedWin (s : State) : Nat := s.fld (aHls 0x2014) 15 0
/-- FSCALE: axis steps per MENC0 count. -/
def feedScale (s : State) : Rat := (s.rdN (aHls 0x2018) : Nat) / (65536 : Rat)

/-! ## Passes (R301 to R303) -/

/-- The sheets anchored to an encoder that are not finished (R283, R287). -/
def heldSheets (s : State) (m : EncIx) : List Sheet :=
  s.job.sheets.filter fun sh => sh.anchored && (decide (m = 0) || match s.hls.pass with
    | some p => s.scan && decide (p.sheet = sh.id)
    | none => false)

/-- A class S error of every unfinished sheet that is anchored to an encoder; with none, the event alone. -/
def encoderError (m : EncIx) (code : Code) (s : State) : State :=
  match s.heldSheets m with
  | [] => s.errorUnit code .s (unitEnc m) 0 0x0C
  | l => s.forEach l fun sh t => t.sheetError code .s sh.id (sh.fired.toList.foldl min sh.rows) (unitEnc m) 0 0x0C

/-! ## Row events (R286, R297) -/

/-- R286: how many rows of a sheet have had their event at a bar. -/
def rowsPast (s : State) (sh : Sheet) (a : Anchor) (k : BarIx) (h : Int) : Nat :=
  if s.scan then match s.hls.pass with
    | some p =>
      let g := if s.passDir p.k = 1 then 256 * h - (256 * s.orgF + s.barOff k) else 256 * h + (256 * s.orgB + s.barOff k)
      min (s.passEnd sh p.k - p.k * s.passRows) (floorDiv (gearY (s.gears 1) g) rowUnit + 1).toNat
    | none => 0
  else min sh.rows (floorDiv (s.barY k (256 * h) - a.y) rowUnit + 1).toNat

/-- R472: row events are counted, per bar. -/
def countRows (h0 h1 : Int) (s : State) : State :=
  s.forEach ((all 8).filter fun k => s.bar[k].used) fun k t =>
    t.count (6 * 64 + 4 + k.1) ((s.heldSheets s.rowEnc).foldl (fun n sh =>
      match s.anchor? sh.id with
      | some a => n + (s.rowsPast sh a k h1 - s.rowsPast sh a k h0)
      | none => n) 0)

/-- R297: from row n on, every row of a port whose firing target is reached without a committed edge has both its
deadlines arrive, and the time of the event is kept. -/
def rowEvents (p : PortIx) : Nat → Nat → State → State
  | 0, _, s => s
  | fuel + 1, n, s =>
    match s.rowAt (barOf p) n with
    | none => s
    | some (id, row) => match s.anchor? id with
      | none => s
      | some a =>
        if !s.rowCurrent id row || decide (256 * s.high s.rowEnc < s.fireTarget a (barOf p) row) then s
        else if n = s.port[p].fire ∧ s.port[p].commit.isSome then rowEvents p fuel (n + 1) s
        else if (s.port[p].row? n).any (fun (r : QRow) => r.event.isSome) then rowEvents p fuel (n + 1) s
        else
          let t := s.expire p n
          rowEvents p fuel (n + 1) (t.onPort p fun q => q.onRow n fun r => { r with event := some s.now16 })

/-- The ports that fire rows. -/
def firingPorts (s : State) : List PortIx := (all 32).filter fun p => s.portRuns p && s.inService p && !s.port[p].dead

/-- R303: MENC0 leaves the feed window while the pass fires. -/
def feedLost (s : State) : State :=
  match s.hls.pass with
  | some p =>
    if s.scan && p.done && !s.passOver p && decide (256 * s.feedWin < (256 * s.hls.enc[0].pos - p.target).natAbs) then
      match s.sheet? p.sheet with
      | some sh => s.sheetError 0x0805 .s p.sheet (sh.fired.toList.foldl min sh.rows) (unitEnc 0) 0 0x0C
      | none => s
    else s
  | none => s

/-- R286: what follows once H of an encoder has risen from `h0`. -/
def markRaised (m : EncIx) (h0 : Int) (s : State) : State :=
  let t := if m = s.rowEnc then
    let t := (s.countRows h0 (s.high m)).forEach s.firingPorts fun p u => u.rowEvents p (u.slots p) u.port[p].fire
    t.forEach (all 8) passDue
  else s
  let t := if m = 0 then (t.virtualSheets 2).decideSheets else t
  let t := t.posSlots m (256 * h0)
  let t := if m = 0 ∧ t.job.anchors.length ≠ s.job.anchors.length then t.forEach (all 128) predict else t
  if m = 0 then t.sweepTaps.missTaps else t

/-- R287: H exceeds P by more than REV_LIMIT while a sheet is anchored. -/
def reverseCheck (m : EncIx) (s : State) : State :=
  if s.held m && !(s.heldSheets m).isEmpty
      && decide ((s.revLimit m : Int) < s.high m - s.travel m s.hls.enc[m].pos) then s.encoderError m 0x0802
  else s

/-- R286, R292: an encoder counts by one step. -/
def countStep (m : EncIx) (d : Int) (s : State) : State :=
  let e := s.hls.enc[m]
  let p := e.pos + d
  let u := s.travel m p
  let h0 := s.high m
  let h := if s.held m then max h0 u else u
  let t := (s.onEnc m fun e => { e with
    pos := p, hwm := h, back := decide (d < 0), idle := false
    raised := if h0 < h then some (s.ticksAgo (s.encLatency m), h) else e.raised }).count (6 * 64 + m.1) 1
  let t := if h0 < h then t.markRaised m h0 else t
  let t := if m = 0 then (t.reverseCheck m).feedLost else t.reverseCheck m
  t.forEach ((all 8).filter fun x => decide (t.axMaster x = m)) lagFault

/-- R282, R283, R304: A and B of an encoder take new accepted levels; `disagree` tells that the two units' values at the count
differ. -/
def encoderStep (m : EncIx) (a b disagree : Bool) (s : State) : State :=
  let e := s.hls.enc[m]
  let t := s.onEnc m fun e => { e with a := a, b := b }
  if !s.encEn m then t
  else if quadError e.a e.b a b then
    ((t.onEnc m fun e => { e with qerr := satTo 255 (e.qerr + 1) }).count (6 * 64 + 2 + m.1) 1).encoderError m 0x0801
  else
    let d := quadStep e.a e.b a b
    if d = 0 then t
    else
      let t := t.countStep m (if s.encDir m then -d else d)
      if disagree then t.classD 0x0807 (unitEnc m) 0 0x0C else t

/-! ## SLOW_REQ (R300) -/

/-- R300: HLS_SLOW after a record. -/
def slowUpdate (s : State) : State :=
  let t := s.onHls fun h => { h with slow := (all 32).foldl (fun (v : BitVec 32) p =>
    let near := match s.slowness p with
      | some x => decide (9 / 10 ≤ x) || (h.slow.getLsbD p.1 && decide (85 / 100 ≤ x))
      | none => false
    if near then v ||| BitVec.ofNat 32 (2 ^ p.1) else v) 0 }
  t.rise (6 * 64 + 32) (decide (s.hls.slow = 0 ∧ t.hls.slow ≠ 0))

/-- R292: the record of a window in which a count raised H. -/
def takeRecord (m : EncIx) (r : Nat × Int) (s : State) : State :=
  let t := (s.onEnc m fun e => { e with recs := (r :: e.recs).take 3, raised := none }).count (6 * 64 + 15) 1
  let t := if m = t.rowEnc then t.slowUpdate else t
  t.forEach ((all 128).filter fun j => decide (t.slotEnc j = m)) predict

/-- R292: the history of an encoder is cleared. -/
def clearHistory (m : EncIx) (s : State) : State :=
  let t := s.onEnc m fun e => { e with recs := [], raised := none }
  if m = t.rowEnc then t.slowUpdate else t

/-! ## Feeds (R302) -/

/-- The pass that is to be fed next: its sheet, its number and its target. -/
def nextPass (s : State) : Option Pass :=
  let fresh := (s.job.sheets.find? (·.anchored)).bind fun sh => (s.anchor? sh.id).map fun a =>
    (⟨sh.id, 0, s.feedTarget a.pe 0, true, false⟩ : Pass)
  match s.hls.pass with
  | none => fresh
  | some p =>
    if !s.passOver p then none
    else match s.sheet? p.sheet, s.anchor? p.sheet with
      | some sh, some a =>
        if s.passEnd sh p.k < sh.rows then some ⟨sh.id, p.k + 1, s.feedTarget a.pe (p.k + 1), true, false⟩ else none
      | _, _ => fresh

/-- R302: Heliostat commands FEED_AXIS to the pass's target. -/
def startFeed (p : Pass) (s : State) : State :=
  let n := nearest (((p.target : Rat) / 256 - s.hls.enc[0].pos) * s.feedScale)
  let t := s.onHls fun h => { h with pass := some p }
  let t := t.onEnc 1 fun e => { e with hwm := t.travel 1 e.pos, raised := none }
  t.axisCommand s.feedAxis 2 n true

/-- R302: the axis is at rest and MENC0 lies within FEED_WIN of the target. -/
def feedArrived (s : State) (p : Pass) : Bool :=
  p.feeding && decide (s.axis[s.feedAxis].motion = .rest)
    && decide ((256 * s.hls.enc[0].pos - p.target).natAbs ≤ 256 * s.feedWin)

end State

/-! ## The commands -/

/-- R282, R283: an accepted transition of A or B. -/
def execEncoderTransition (m : EncIx) (levels : QuadLevels) (disagree : Bool) (s : State) : Result :=
  .next (s.encoderStep m levels.a levels.b disagree)

/-- R284: an accepted rising edge of Z. -/
def execEncoderZEdge (m : EncIx) (s : State) : Result :=
  .next (s.onEnc m fun e => { e with zpos := e.pos, ztime := s.mer.time, zcount := (e.zcount + 1) % 65536 })

/-- R284: no count has arrived for 10 ms. -/
def execEncoderIdleTimeout (m : EncIx) (s : State) : Result := .next (s.onEnc m fun e => { e with idle := true })

/-- R292, R304: the end of a WIN window; `disagree` tells that the two units' results differ. -/
def execEstimatorRecord (m : EncIx) (disagree : Bool) (s : State) : Result :=
  match s.hls.enc[m].raised with
  | none => .next s
  | some r =>
    let t := s.takeRecord m r
    .next (if disagree then t.classD 0x0807 (unitEnc m) 0 0x0C else t)

/-- R292: 16 × WIN has passed without a record. -/
def execEstimatorHistoryClear (m : EncIx) (s : State) : Result := .next (s.clearHistory m)

/-- R302: the last bar in use has fired the last row of the pass, or the sheet is anchored: the feed starts. -/
def execFeedStart (s : State) : Result :=
  if !(s.up && s.engRuns && s.tbRuns && s.scan) || s.integ.dstop then .next s
  else match s.nextPass with
    | some p => .next (s.startFeed p)
    | none => .next s

/-- R302: the feed is complete: the pass begins. -/
def execFeedComplete (s : State) : Result :=
  match s.hls.pass with
  | some p =>
    .next (if s.scan && s.feedArrived p then
      let t := s.onHls fun h => { h with pass := some { p with feeding := false, done := true } }
      (t.onEnc 1 fun e => { e with hwm := t.travel 1 e.pos }).clearHistory 1
    else s)
  | none => .next s

end Sys2Proof.Machine
end

