-- ==== Sys2Proof/Machine/Vision.lean ====
section
/-!
DEFINITION. The arithmetic of the camera pipeline (R351 to R356), from raw pixels to output pixels and image bytes,
and the statistics and bytes of a record (R362 to R365).
-/
namespace Sys2Proof.Machine

/-- An output pixel: R, G, B. -/
abbrev Pixel := Nat × Nat × Nat

/-- Channel c of a pixel: 0 R, 1 G, 2 B. -/
def Pixel.chan (p : Pixel) (c : Nat) : Nat := if c = 0 then p.1 else if c = 1 then p.2.1 else p.2.2

/-- R351: a raw pixel of DT widened to 14 bits. -/
def widenRaw (dt d : Nat) : Nat :=
  match dt with
  | 0 => (d % 256) * 64 + (d % 256) / 4
  | 1 => d % 1024 * 16
  | 2 => d % 4096 * 4
  | _ => d % 16384

/-- R352: the flat-field stage. -/
def flatField (g x : Nat) : Nat := min 16383 ((x * g + 8192) / 16384)

/-- R353: R, G and B of a quad by BAYER: top-left, top-right, bottom-left, bottom-right. -/
def quadPixel (bayer : Nat) (mono : Bool) (a b c d : Nat) : Pixel :=
  if mono then let m := (a + b + c + d + 2) / 4; (m, m, m)
  else match bayer with
    | 0 => (a, (b + c + 1) / 2, d)
    | 1 => (b, (a + d + 1) / 2, c)
    | 2 => (c, (a + d + 1) / 2, b)
    | _ => (d, (b + c + 1) / 2, a)

/-- The value of a register of a parameter set. -/
def setReg (c : CamIx) (t : PSet) (j : Nat) : Nat := (tget (fun j => regReset (aCam c.1 j)) t j).toNat
/-- A 16-bit half of a register of a parameter set: half 0 is the low one. -/
def setHalf (c : CamIx) (t : PSet) (j half : Nat) : Nat := setReg c t j / 65536 ^ half % 65536

/-- R351: BLK_q of a quad position. -/
def blackLevel (c : CamIx) (t : PSet) (q : Nat) : Nat := setHalf c t (0x14 + 4 * (q / 2)) (q % 2) % 16384

/-- R354: white balance. -/
def whiteBalance (g x : Nat) : Nat := min 16383 ((x * g + 8192) / 16384)

/-- R354: coefficient i of the colour matrix, in row order. -/
def matrixAt (c : CamIx) (t : PSet) (i : Nat) : Int := signed 16 (setHalf c t (0x24 + 4 * (i / 2)) (i % 2))

/-- R354: row i of the colour matrix. -/
def matrixRow (c : CamIx) (t : PSet) (p : Pixel) (i : Nat) : Nat :=
  (clampI 0 16383 (Int.fdiv (matrixAt c t (3 * i) * p.1 + matrixAt c t (3 * i + 1) * p.2.1
    + matrixAt c t (3 * i + 2) * p.2.2 + 2048) 4096)).toNat

/-- R355: a tone curve. -/
def toneAt (t : Nat → Nat) (x : Nat) : Nat :=
  let i := x / 16
  let hi := if i + 1 < 1024 then i + 1 else 1023
  ((t i : Int) + Int.fdiv (((t hi : Int) - t i) * (x % 16 : Nat) + 8) 16).toNat

/-- R354, R355: from a quad's R, G and B to the output pixel. -/
def colourPixel (c : CamIx) (t : PSet) (tone : Nat → Nat → Nat) (p : Pixel) : Pixel :=
  let w : Pixel := (whiteBalance (setHalf c t 0x1C 1) p.1, whiteBalance (setHalf c t 0x1C 0) p.2.1,
    whiteBalance (setHalf c t 0x20 0) p.2.2)
  (toneAt (tone 0) (matrixRow c t w 0), toneAt (tone 1) (matrixRow c t w 1), toneAt (tone 2) (matrixRow c t w 2))

/-- R351 to R355: the output line of two input lines, the first of which is line `y` of the frame; `gain` gives the
flat-field gain at a line and a column, where the stage is on. -/
def outputLine (c : CamIx) (t : PSet) (bayer : Nat) (mono : Bool) (gain : Option (Nat → Nat → Nat))
    (tone : Nat → Nat → Nat) (width y : Nat) (top bottom : List Nat) : List Pixel :=
  let level := fun (line col v : Nat) =>
    let x := v - blackLevel c t (2 * (line % 2) + col % 2)
    match gain with
    | some g => flatField (g line col) x
    | none => x
  let a := top.toArray
  let b := bottom.toArray
  (List.range (width / 2)).map fun i =>
    let at_ := fun (l : Array Nat) (line col : Nat) => level line col (l.getD col 0)
    colourPixel c t tone (quadPixel bayer mono (at_ a y (2 * i)) (at_ a y (2 * i + 1))
      (at_ b (y + 1) (2 * i)) (at_ b (y + 1) (2 * i + 1)))

/-- R356: the bytes of output pixels under OUT_FMT. -/
def imageBytes (fmt : Nat) (l : List Pixel) : List Byte :=
  l.flatMap fun p =>
    if fmt = 2 then [p.1, p.2.1, p.2.2].map fun v => BitVec.ofNat 8 (v / 64)
    else [p.1, p.2.1, p.2.2].flatMap fun v => leBytes 2 (v * 4)

/-! ## Statistics (R362 to R365) -/

/-- A window: columns X0 to X0 + W - 1 and lines Y0 to Y0 + H - 1. -/
structure Window where
  x0 : Nat
  y0 : Nat
  w  : Nat
  h  : Nat

/-- R357: a window of a parameter set, in registers A and B. -/
def windowOf (c : CamIx) (t : PSet) (j : Nat) : Window :=
  ⟨setHalf c t j 0, setHalf c t j 1, setHalf c t (j + 4) 0, setHalf c t (j + 4) 1⟩

def Window.has (w : Window) (x y : Nat) : Bool :=
  decide (w.x0 ≤ x ∧ x < w.x0 + w.w ∧ w.y0 ≤ y ∧ y < w.y0 + w.h)

/-- R363: the sharpness of a window on a channel. -/
def sharpness (w : Window) (img : Array (Array Nat)) : Nat :=
  ((List.range img.size).map fun y => ((List.range (img.getD y #[]).size).map fun x =>
    let v := fun (x y : Nat) => (img.getD y #[]).getD x 0
    if w.has x y && w.has (x + 1) y && w.has x (y + 1) && decide (x + 1 < (img.getD y #[]).size) && decide (y + 1 < img.size) then
      let d1 : Int := (v (x + 1) y : Int) - v x y
      let d2 : Int := (v x (y + 1) : Int) - v x y
      (d1 * d1 + d2 * d2).toNat
    else 0).sum).sum

/-- R364: a histogram bin: output pixels of the window with c >> 6 = k. -/
def histBin (w : Window) (img : List (List Nat)) (k : Nat) : Nat :=
  (img.mapIdx fun y l => (l.mapIdx fun x v => if w.has x y ∧ v / 64 = k then 1 else 0).sum).sum

/-- R365: the moment lines of a frame, clipped to it. -/
def momentLines (c : CamIx) (t : PSet) (pix : List (List Pixel)) : List (List Pixel) :=
  let y0 := setHalf c t 0x40 0
  let y1 := setHalf c t 0x40 1
  (pix.drop y0).take (y1 + 1 - y0)

/-- R365: S1 of an output column and a channel. -/
def momentS1 (l : List (List Pixel)) (x ch : Nat) : Nat := (l.map fun r => (r.getD x (0, 0, 0)).chan ch).sum

/-- R365: the 16 bytes of MOM of a column and a channel. -/
def momentBytes (l : List (List Pixel)) (x ch : Nat) : List Byte :=
  let v := l.map fun r => (r.getD x (0, 0, 0)).chan ch
  leBytes 4 v.sum ++ leBytes 6 (v.map fun y => y * y).sum
    ++ leBytes 2 (match v with | [] => 0 | a :: r => r.foldl min a) ++ leBytes 2 (v.foldl max 0) ++ leBytes 2 0

/-- R362: the statistics of a frame, from byte 64 to byte 397,311; `gap` fills what the layout does not name. -/
def statBytes (c : CamIx) (t : PSet) (pix : List (List Pixel)) (void : Bool) (gap : Nat → List Byte) : List Byte :=
  let ch := let x := bits (setReg c t 0x10) 21 20; if x = 3 then 1 else x
  let plane := fun (k : Nat) => pix.map fun l => l.map fun p => Pixel.chan p k
  let grid := ((plane ch).map List.toArray).toArray
  let zero := fun (n : Nat) => List.replicate n (0 : Byte)
  let sharp := if void then zero 128
    else (List.range 16).flatMap fun w => leBytes 8 (sharpness (windowOf c t (0x80 + 8 * w)) grid)
  let hist := if void then zero 3072
    else (List.range 3).flatMap fun k => (List.range 256).flatMap fun i =>
      leBytes 4 (histBin (windowOf c t 0x38) (plane k) i)
  let m := momentLines c t pix
  let width := match pix with
    | [] => 0
    | l :: _ => l.length
  let mom := if void then zero 393216
    else (List.range 8192).flatMap fun x => (List.range 3).flatMap fun k =>
      if x < width then momentBytes m x k else zero 16
  sharp ++ gap 0 ++ hist ++ ((List.range 12).flatMap fun i => gap (i + 1)) ++ mom

end Sys2Proof.Machine
end

