-- ==== Sys2Proof/Machine/Eyepiece.lean ====
section
/-!
DEFINITION. Eyepiece: the checks of a camera restart (R346, R368), frames and lines (R345, R349, R350, R360, R361),
processing and records (R350, R362, R366), parameter sets (R357, R358), the CCI bus (R359) and flat-field writes
(R352).
-/
namespace Sys2Proof.Machine

/-! FLAGS of R362. -/
def flTrunc : BitVec 16 := 1
def flLong : BitVec 16 := 2
def flPktErr : BitVec 16 := 4
def flDropped : BitVec 16 := 8
def flVoid : BitVec 16 := 16
def flCciLate : BitVec 16 := 32
def flCciFail : BitVec 16 := 64
def flOvfl : BitVec 16 := 128

/-- A flag of a frame. -/
def Frame.has (f : Frame) (x : BitVec 16) : Bool := decide (f.flags &&& x ≠ 0)

namespace State

/-! ## Settings and restart checks (R345, R346, R368) -/

/-- DT of a camera. -/
def camDt (s : State) (c : CamIx) : Nat := s.fld (aCam c.1 0) 27 25
/-- FF_ROWS_LOG2. -/
def ffLog (s : State) (c : CamIx) : Nat := s.fld (aCam c.1 8) 23 20

/-- R346, R368: a restart of the camera is refused. -/
def camRefused (s : State) (c : CamIx) : Bool :=
  let w := s.camWidth c
  let l := s.camLines c
  let p := s.rdN (aCalCam c.1 0xC)
  decide (s.fld (aCam c.1 0) 31 30 = 3 ∨ 4 ≤ s.camDt c ∨ s.camFmt c = 3) || (decide (c ≠ 0) && decide (s.rawSlots c < 2))
    || (decide (s.imgSlots c = 0) && decide (s.camFmt c ≠ 0)) || decide (s.statSlots c = 0)
    || decide (w < 16 ∨ 16384 < w ∨ w % 2 = 1) || decide (l < 2 ∨ l % 2 = 1) || decide (6 < s.ffLog c)
    || s.areaTaken (some c) (s.camArea c)
    || decide (p < 65536 ∨ 4194304 < p) || decide (s.tapCount c = 0 ∨ 4096 < s.tapCount c)
    || (decide (s.fld (aCalCam c.1 0) 31 24 ≠ 0) && decide (s.fld (aCalCam c.1 4) 31 16 = 0))

/-! ## Parameter sets (R357, R358) -/

/-- An offset within a camera's block that belongs to its parameter set. -/
def inSet (j : Nat) : Bool := decide ((0x10 ≤ j ∧ j ≤ 0x40) ∨ (0x80 ≤ j ∧ j < 0x120))

/-- The shadow set as it stands. -/
def shadow (s : State) (c : CamIx) : PSet :=
  (s.cfg.filter fun e => decide (aCam c.1 0 ≤ e.1 ∧ e.1 < aCam c.1 0x10000) && inSet (e.1 - aCam c.1 0)).map fun e =>
    (e.1 - aCam c.1 0, e.2)

def setFf (c : CamIx) (t : PSet) : Nat := b2n (bit (setReg c t 0x10) 15)
def setTone (c : CamIx) (t : PSet) : Nat := b2n (bit (setReg c t 0x10) 14)
def setFfEn (c : CamIx) (t : PSet) : Bool := bit (setReg c t 0x10) 13
def setId (c : CamIx) (t : PSet) : Nat := setReg c t 0x10 % 256

/-- The staged writes of a set that have SEND set, in order. -/
def stagedOf (c : CamIx) (t : PSet) : List Word :=
  ((List.range 8).map fun k => BitVec.ofNat 32 (setReg c t (0x100 + 4 * k))).filter fun w => w.getLsbD 31

/-- R352, R355: a bank is active, captured, or held by a frame that is not processed. -/
def bankBusy (s : State) (c : CamIx) (bankOf : PSet → Nat) (b : Nat) : Bool :=
  let q := s.eye.cam[c]
  s.camRuns c && ((!q.fresh && decide (bankOf q.active = b))
    || q.captured.any (fun x => decide (bankOf x.1 = b))
    || (q.raw ++ q.fs.toList).any fun f => decide (bankOf f.set = b))

/-! ## The CCI bus (R359) -/

/-- R359: the next transfer begins: a staged write before a host transfer. -/
def startCci (c : CamIx) (s : State) : State :=
  let q := s.eye.cam[c]
  let send := fun (w : Word) (read : Bool) =>
    Output.cci c read (bits w.toNat 30 24) (bits w.toNat 23 8) (BitVec.ofNat 8 (bits w.toNat 7 0))
  if q.cciBusy.isSome then s
  else match q.staged, q.hostXfer with
    | w :: rest, _ => (s.onCam c fun q => { q with staged := rest, cciBusy := some (true, w) }).emit (send w false)
    | [], some w => (s.onCam c fun q => { q with hostXfer := none, cciBusy := some (false, w) }).emit (send w (w.getLsbD 31))
    | [], none => s

/-- A staged write has not completed. -/
def stagedOpen (q : Camera) : Bool := !q.staged.isEmpty || q.cciBusy.any (·.1)

/-! ## Lines and frames (R350, R360, R361) -/

/-- Lines of a slice. -/
def sliceLines (s : State) (c : CamIx) (i : Nat) : Nat := min 64 (s.camLines c - 64 * i)

/-- R27, R350: the slices whose lines have landed are requested: their age counts from this tick. -/
def noteSlices (c : CamIx) (ended : Bool) (s : State) : State :=
  match s.eye.cam[c].fs with
  | none => s
  | some f =>
    let done := if ended ∨ s.camLines c ≤ f.lines.length then (s.camLines c + 63) / 64 else f.lines.length / 64
    if f.ages.length < done then
      s.onCam c fun q => { q with fs := q.fs.map fun f => { f with
        ages := f.ages ++ List.replicate (done - f.ages.length) s.tick } }
    else s

/-- R350: lines of widened pixels are written into the raw slot of a frame. -/
def writeRaw (c : CamIx) (f : Frame) (line : Nat) (px : List Nat) (s : State) : State :=
  (s.spoolPut 3 (s.rawBase c + f.slot * s.rawSize c + line * s.camWidth c * 2) (px.flatMap fun v => leBytes 2 v)).1

/-- A line of pixels joins the open frame. -/
def addLine (c : CamIx) (px : List Nat) (s : State) : State :=
  match s.eye.cam[c].fs with
  | none => s
  | some f =>
    let t := if c = 0 ∨ f.has flDropped then s else s.writeRaw c f f.lines.length px
    t.onCam c fun q => { q with fs := q.fs.map fun f => { f with
      lines := f.lines ++ [if c = 0 ∧ !f.has flDropped then px else []] } }

/-- Fill the missing lines of the open frame with raw 0. -/
def fillLines (c : CamIx) : Nat → State → State
  | 0, s => s
  | n + 1, s => fillLines c n (s.addLine c (List.replicate (s.camWidth c) 0))

/-! ## Processing (R349 to R356) -/

/-- A gain of the flat-field bank of a set, from the bytes of the bank. -/
def gainOf (s : State) (c : CamIx) (bank : Array Byte) (line col : Nat) : Nat :=
  let i := line % 2 ^ s.ffLog c * s.camWidth c + col
  (bank.getD (2 * i) 0).toNat + 256 * (bank.getD (2 * i + 1) 0).toNat

/-- Entry i of a tone curve. -/
def toneEntry (s : State) (c : CamIx) (bank ch i : Nat) : Nat := s.rdN (aCam c.1 (0x8000 + 0x3000 * bank + 0x1000 * ch + 4 * i))

/-- R367, R410: data of a frame is lost: E_CAM_DATA, and the frame is void. -/
def camData (c : CamIx) (s : State) : State := s.errorUnit 0x0B03 .c (unitCam c) 0 0x0F

/-- The output lines of input lines from line y on. -/
def outputLines (s : State) (c : CamIx) (f : Frame) (gain : Option (Nat → Nat → Nat)) : Nat → List (List Nat) → List (List Pixel)
  | y, a :: b :: rest =>
    outputLine c f.set (s.fld (aCam c.1 0) 24 23) (s.fbit (aCam c.1 0) 22) gain
      (fun ch i => s.toneEntry c (setTone c f.set) ch i) (s.camWidth c) y a b :: outputLines s c f gain (y + 2) rest
  | _, _ => []

/-- R347: a frame takes its image slot as processing begins. -/
def takeImage (c : CamIx) (f : Frame) (s : State) : State × Frame :=
  if f.slices ≠ 0 ∨ s.camFmt c = 0 then (s, f)
  else
    let i := s.eye.cam[c].imgSlot
    (s.onCam c fun q => { q with imgSlot := (i + 1) % s.imgSlots c }, { f with img := s.imgBase c + i * s.imgSize c })

/-- R351 to R356: input lines of a frame from line y on become output pixels and image bytes. -/
def processLines (c : CamIx) (f : Frame) (y : Nat) (lines : List (List Nat)) (s : State) : State × Frame :=
  let r := s.takeImage c f
  let g := if setFfEn c f.set then
      let x := r.1.spoolGet 3 (s.camBase c + setFf c f.set * s.ffBankSize c) (s.ffBankSize c)
      (x.1, match x.2 with
        | some bs => some (some (s.gainOf c bs.toArray))
        | none => none)
    else (r.1, some none)
  let t := if g.2.isNone then g.1.camData c else g.1
  let out := s.outputLines c f (g.2.getD none) y lines
  let bytes := imageBytes (s.camFmt c) out.flatten
  let per := s.imgSize c / (s.camLines c / 2)
  let t := if s.camFmt c = 0 then t else (t.spoolPut 3 (r.2.img + y / 2 * per) bytes).1
  (t, { r.2 with
    pix := r.2.pix ++ out, slices := r.2.slices + 1, flags := if g.2.isNone then r.2.flags ||| flVoid else r.2.flags })

/-- R360: the open frame ends. -/
def endFrame (c : CamIx) (s : State) : State :=
  match s.eye.cam[c].fs with
  | none => s
  | some f =>
    let q := s.eye.cam[c]
    let short := decide (f.lines.length < s.camLines c)
    let flags := (if short then flTrunc ||| flVoid else 0) ||| (if q.actLate then flCciLate else 0)
      ||| (if q.actFail then flCciFail else 0)
    let t := s.onCam c fun q => { q with fs := q.fs.map fun f => { f with flags := f.flags ||| flags } }
    let t := (t.fillLines c (s.camLines c - f.lines.length)).noteSlices c true
    match t.eye.cam[c].fs with
    | none => t
    | some f =>
      let t := t.onCam c fun q => { q with fs := none }
      if f.has flDropped then t.onCam c fun q => { q with recs := q.recs ++ [f] }
      else if c = 0 then
        let r := t.processLines c f 0 f.lines
        r.1.onCam c fun q => { q with recs := q.recs ++ [{ r.2 with lines := [] }] }
      else if (s.camLines c + 63) / 64 ≤ f.slices then t.onCam c fun q => { q with recs := q.recs ++ [f] }
      else t.onCam c fun q => { q with raw := q.raw ++ [f] }

/-- R359: frames that have ended, and whose records wait, take a flag: those of the set that is active. -/
def flagEnded (c : CamIx) (x : BitVec 16) (q : Camera) : Camera :=
  let first := (q.capFrame + bits (setReg c q.active 0x10) 26 24) % 4294967296
  let mark := fun (f : Frame) => if afterMod 32 first f.no then f else { f with flags := f.flags ||| x }
  { q with raw := q.raw.map mark, recs := q.recs.map mark }

/-- R358: an accepted FS of frame `no`: the captured set may become active, and a commit captures the shadow. -/
def frameSets (c : CamIx) (no : Nat) (s : State) : State :=
  let sh := s.shadow c
  let late := fun (q : Camera) =>
    if no = (q.capFrame + 1) % 4294967296 ∧ stagedOpen q then
      if q.captured.isSome then { q with cciLate := true } else flagEnded c flCciLate { q with actLate := true }
    else q
  let t := s.onCam c fun q =>
    let q := if q.fresh then { q with active := sh, fresh := false } else late q
    match q.captured with
    | some (x, n) => if n = no then
        { q with active := x, captured := none, actFail := q.cciFail, actLate := q.cciLate } else q
    | none => q
  if t.eye.cam[c].commitReq then
    let at_ := (no + bits (setReg c sh 0x10) 26 24) % 4294967296
    (t.onCam c fun q =>
      let q := { q with commitReq := false, capFrame := no, staged := q.staged ++ stagedOf c sh, cciFail := false, cciLate := false }
      if at_ = no then { q with active := sh, captured := none, actFail := false, actLate := false }
      else { q with captured := some (sh, at_) }).startCci c
  else t

/-- R350: the port's next raw slot is not free. -/
def rawFull (s : State) (c : CamIx) : Bool := decide (c ≠ 0) && decide (s.rawSlots c ≤ s.eye.cam[c].raw.length)

/-- R360: a frame opens. -/
def openFrame (c : CamIx) (s : State) : State :=
  let t := s.endFrame c
  let no := t.eye.cam[c].frames
  let t := t.frameSets c no
  let drop := t.rawFull c
  let slot := t.eye.cam[c].rawSlot
  (t.onCam c fun q => { q with
    frames := (no + 1) % 4294967296, noFs := false
    drops := if drop then satTo 255 (q.drops + 1) else q.drops
    rawSlot := if drop ∨ c = 0 then slot else (slot + 1) % s.rawSlots c
    fs := some
      { no := no, set := q.active, lines := [], got := 0, flags := if drop then flDropped ||| flVoid else 0
        fsTime := s.mer.time, trig := s.mer.trigRise[c], h0 := s.high 0, h1 := s.high 1
        slot := slot, ages := [], slices := 0, img := 0, pix := [] } }).count (6 * 64 + 24 + c.1) 1

/-- A packet is discarded, or its header corrected, and counted. -/
def countPacket (c : CamIx) (s : State) : State := s.onCam c fun q => { q with pkt := satTo 255 (q.pkt + 1) }

/-- An FE or a line with no open frame. -/
def orphan (c : CamIx) (s : State) : State := s.onCam c fun q => { q with orphan := satTo 255 (q.orphan + 1) }

/-- Set flags of the open frame. -/
def flag (c : CamIx) (x : BitVec 16) (s : State) : State :=
  s.onCam c fun q => { q with fs := q.fs.map fun f => { f with flags := f.flags ||| x } }

/-- R345, R361: the packet passes the header checks; the state counts what is to be counted. A header with an uncorrectable
error marks the open frame. -/
def header (c : CamIx) (h : CsiHeader) (s : State) : State × Bool :=
  if h.bad then ((s.countPacket c).flag c (flPktErr ||| flVoid), false)
  else
    let t := if h.corrected then s.countPacket c else s
    if h.vc.toNat ≠ s.fld (aCam c.1 0) 29 28 then (t.countPacket c, false) else (t, true)

/-- R349: the pixels of a line that the line buffer has lost: the manual does not say what stands in its place. -/
def lostPixels (s : State) (w : Nat) : List Nat := (List.range w).map fun i => Config.freeNat (s.free + i) % 16384

/-- R349, R360, R361: a line of the accepted data type; `lost` tells that CAM0's line buffer has overflowed, since QP3 writes
stall, and has lost it. -/
def takeLine (c : CamIx) (pixels : List Nat) (crcOk lost : Bool) (s : State) : State :=
  match s.eye.cam[c].fs with
  | none => s.orphan c
  | some f =>
    let w := s.camWidth c
    let t := (s.onCam c fun q => { q with fs := q.fs.map fun f => { f with got := satTo 65535 (f.got + 1) } }).count
      (6 * 64 + 28 + c.1) 1
    let t := if crcOk then t else (t.countPacket c).flag c (flPktErr ||| flVoid)
    if s.camLines c ≤ f.lines.length then t.flag c flLong
    else if lost ∧ c = 0 then
      (((t.flag c (flOvfl ||| flVoid)).onFree (· + w)).addLine c (s.lostPixels w)).noteSlices c false
    else
      let t := if pixels.length < w then t.flag c (flTrunc ||| flVoid) else if w < pixels.length then t.flag c flLong else t
      let px := if crcOk then (pixels.take w).map (widenRaw (s.camDt c)) else []
      (t.addLine c (px ++ List.replicate (w - px.length) 0)).noteSlices c false

/-! ## The memory pipeline (R350) -/

/-- The frame of a port whose next slice has landed: the oldest raw frame, or the open one. -/
def sliceFrame (s : State) (c : CamIx) : Option Frame :=
  (match s.eye.cam[c].raw with
    | f :: _ => some f
    | [] => s.eye.cam[c].fs.filter fun f => !f.has flDropped).filter fun f => decide (f.slices < f.ages.length)

/-- The port that the pipeline serves next. -/
def grantCam (s : State) : Option CamIx :=
  (arbitrate 4 s.eye.ptr (((all 4).filter fun c => decide (c ≠ 0) && s.camRuns c).filterMap fun c =>
    (s.sliceFrame c).map fun f => (c.1, f.ages.getD f.slices 0, 0))).bind (fin? 4)

/-- R350: a slice of a frame is processed. -/
def processSlice (c : CamIx) (f : Frame) (s : State) : State :=
  let n := s.sliceLines c f.slices
  let row := s.camWidth c * 2
  let r := s.spoolGet 3 (s.rawBase c + f.slot * s.rawSize c + 64 * f.slices * row) (n * row)
  let lines := match r.2 with
    | some bs =>
      let a := bs.toArray
      (List.range n).map fun y => (List.range (s.camWidth c)).map fun x =>
        (a.getD (y * row + 2 * x) 0).toNat + 256 * (a.getD (y * row + 2 * x + 1) 0).toNat
    | none => List.replicate n (List.replicate (s.camWidth c) 0)
  let t := if r.2.isNone then r.1.camData c else r.1
  let f := if r.2.isNone then { f with flags := f.flags ||| flVoid } else f
  let p := t.processLines c f (64 * f.slices) lines
  let t := p.1.onEye fun e => { e with ptr := (c.1 + 1) % 4 }
  match s.eye.cam[c].raw with
  | _ :: rest =>
    if (s.camLines c + 63) / 64 ≤ p.2.slices then t.onCam c fun q => { q with raw := rest, recs := q.recs ++ [p.2] }
    else t.onCam c fun q => { q with raw := p.2 :: rest }
  | [] => t.onCam c fun q => { q with fs := some p.2 }

/-! ## Records (R362, R366) -/

/-- R362: bytes 0 to 59 of a record. -/
def recordHeader (s : State) (c : CamIx) (f : Frame) : List Byte :=
  let time := fun (t : Nat) => if t = 0 then 0 else eventTime t
  let lines := (momentLines c f.set f.pix).length
  leBytes 4 f.no ++ leBytes 1 (setId c f.set) ++ leBytes 1 c.1 ++ leBytes 2 f.flags.toNat ++ leBytes 2 (s.camWidth c / 2)
    ++ leBytes 2 (s.camLines c / 2) ++ leBytes 2 (if f.has flVoid then 0 else lines) ++ leBytes 2 f.got
    ++ leBytes 8 (time f.fsTime) ++ leBytes 8 (time f.trig) ++ leBytes 8 (unsigned 64 f.h0) ++ leBytes 8 (unsigned 64 f.h1)
    ++ leBytes 8 f.img ++ leBytes 4 0

/-- R362: the record of a frame, as it is written. -/
def recordBytes (s : State) (c : CamIx) (f : Frame) : List Byte :=
  let head := s.recordHeader c f
  let stats := statBytes c f.set f.pix (f.has flVoid) fun i => slice (Config.freeBlock (s.free + i)) 0 64
  head ++ leBytes 4 (crc32c (leBytes 8 (f.no * 2 ^ 32 + c.1 * 2 ^ 24 + 0x31)) (head ++ stats)).toNat ++ stats

/-- R392, R410: the sums of a cell read uncorrectable: they are cleared, and the block is counted and remapped. -/
def lostSum (c : CamIx) (k : BarIx) (x : Fin 8192) (s : State) : State :=
  s.lostBlock.onCal fun u => { u with sums := tput cellDefault u.sums (k.1 * 32768 + c.1 * 8192 + x.1) (cellDefault 0) }

/-- R362, R366, R371: the record of a frame is written. -/
def writeRecord (c : CamIx) (f : Frame) (s : State) : State :=
  let i := s.eye.cam[c].recSlot
  let t := (s.spoolPut 3 (s.recBase c + i * 524288) (s.recordBytes c f)).1.onFree (· + 13)
  let t := t.onCam c fun q => { q with recs := dropFirst (fun x => decide (x = f)) q.recs, recSlot := (i + 1) % s.statSlots c }
  let t := t.status 0x0B04 (BitVec.ofNat 64 (f.no + setId c f.set * 2 ^ 32 + c.1 * 2 ^ 40)) (BitVec.ofNat 48 f.flags.toNat) 0x0F
  if f.has flVoid then t
  else
    let m := momentLines c f.set f.pix
    t.pairTap c f.h0 (momentS1 m) m.length

/-- The record to be written next: frames of one port keep their order. -/
def nextRecord (s : State) (c : CamIx) : Option Frame :=
  let q := s.eye.cam[c]
  match q.recs with
  | [] => none
  | f :: fs =>
    let r := fs.foldl (fun a b => if afterMod 32 a.no b.no then b else a) f
    if (q.raw ++ q.fs.toList).all fun x => afterMod 32 x.no r.no then some r else none

/-! ## Stop and restart (R346, R358, R360, R366) -/

/-- R358: a camera stop discards COMMIT_REQ, any captured set and the frames in hand. -/
def camStop (c : CamIx) (s : State) : State :=
  s.onCam c fun q => { q with
    commitReq := false, captured := none, staged := [], fs := none, raw := [], recs := [], noFs := false, fresh := false }

/-- R358, R360, R366: a camera restart: counters clear, and the shadow's staged writes are sent. A COMMIT written
while the camera was stopped waits for the first FS. -/
def camStart (c : CamIx) (s : State) : State :=
  let sh := s.shadow c
  let rises := s.fbit aEyeIo c.1 && !s.fbit aEyeIo (c.1 + 8)
  let t := s.onMer fun m => { m with trigRise := m.trigRise.set c.1 (if rises then m.time else 0) c.2 }
  (t.onCam c fun q => { q with
    frames := 0, fs := none, active := sh, captured := none, capFrame := 0, staged := stagedOf c sh
    cciFail := false, cciLate := false, actFail := false, actLate := false, fresh := true, raw := [], recs := []
    rawSlot := 0, imgSlot := 0, recSlot := 0, orphan := 0, pkt := 0, drops := 0, noFs := false }).startCci c

/-! ## Writes (R352, R358, R359) -/

/-- The stored fields of EYE_CAMn_PSET. -/
def psetMask : Word := 0x0730E0FF

/-- A write of EYE_CAMn_PSET. -/
def writePset (c : CamIx) (v : Word) (s : State) : State :=
  let q := s.eye.cam[c]
  if v.getLsbD 31 && (q.commitReq || q.captured.isSome) then s.refuseWrite (aCam c.1 0x10) v
  else
    let t := s.wr (aCam c.1 0x10) (v &&& psetMask)
    if v.getLsbD 31 then t.onCam c fun q => { q with commitReq := true } else t

/-- A write of EYE_CCIn_XFER; one that finds a host transfer in progress is discarded. -/
def writeXfer (c : CamIx) (v : Word) (s : State) : State :=
  let q := s.eye.cam[c]
  if q.hostXfer.isSome || q.cciBusy.any (fun x => !x.1) then s
  else ((s.wr (aCam c.1 0x150) v).onCam c fun q => { q with hostXfer := some v, nack := false }).startCci c

/-- R352: a write of EYE_FFn_DATA. -/
def writeFf (c : CamIx) (v : Word) (s : State) : State :=
  let a := s.rdN (aCam c.1 0x140)
  let bank := bits a 31 31
  let i := bits a 20 0
  if s.bankBusy c (setFf c) bank then s.refuseWrite (aCam c.1 0x144) v
  else
    let t := (s.wr (aCam c.1 0x144) v).wrN (aCam c.1 0x140) (bank * 2 ^ 31 + (i + 2) % 2 ^ 21)
    (t.spoolPut 3 (s.camBase c + bank * s.ffBankSize c + 2 * i) (leBytes 4 v.toNat)).1

end State

/-! ## The commands -/

/-- R345, R358, R360: an FS packet. -/
def execCsiFrameStart (c : CamIx) (h : CsiHeader) (s : State) : Result :=
  if !s.camRuns c then .next s
  else
    let r := s.header c h
    .next (if !r.2 || (s.eye.cam[c].fresh && State.stagedOpen s.eye.cam[c]) then r.1 else r.1.openFrame c)

/-- R345, R349, R360, R361: a packet other than an FS or an FE. -/
def execCsiLine (c : CamIx) (h : CsiHeader) (pixels : List (BitVec 16)) (fate : LineFate) (s : State) : Result :=
  if !s.camRuns c then .next s
  else
    let r := s.header c h
    if !r.2 then .next r.1
    else if h.dt.toNat = 0x12 ∨ (8 ≤ h.dt.toNat ∧ h.dt.toNat ≤ 15) then .next r.1
    else if h.dt.toNat = 0x2A + s.camDt c then .next (r.1.takeLine c (pixels.map (·.toNat)) fate.crcOk fate.lost)
    else .next (r.1.countPacket c)

/-- R360: an FE packet. -/
def execCsiFrameEnd (c : CamIx) (h : CsiHeader) (s : State) : Result :=
  if !s.camRuns c then .next s
  else
    let r := s.header c h
    .next (if !r.2 then r.1 else if r.1.eye.cam[c].fs.isNone then r.1.orphan c else r.1.endFrame c)

/-- R350: the memory pipeline processes a slice. -/
def execMemorySliceProcess (s : State) : Result :=
  match s.grantCam with
  | none => .next s
  | some c => match s.sliceFrame c with
    | none => .next s
    | some f => .next (s.processSlice c f)

/-- R362, R366, R392: a frame's record is written. -/
def execRecordWritten (record : RecordWrite) (s : State) : Result :=
  let c := record.cam
  match s.nextRecord c with
  | none => .next s
  | some f => .next ((s.forEach record.lostSums fun q => State.lostSum c q.1 q.2).writeRecord c f)

/-- R366: no FS for 1 s. -/
def execCameraNoFsTimeout (c : CamIx) (s : State) : Result :=
  .next (if s.camRuns c then s.onCam c fun q => { q with noFs := true } else s)

/-- R358: a host write of EYE_CAMn_PSET. -/
def execPsetCommit (c : CamIx) (v : Word) (s : State) : Result :=
  .next (if s.hostUp then (s.hostIn 4).writePset c v else s)

/-- R359: a host write of EYE_CCIn_XFER. -/
def execCciHostTransfer (c : CamIx) (v : Word) (s : State) : Result :=
  .next (if s.hostUp then (s.hostIn 4).writeXfer c v else s)

/-- R359: a transfer on the CCI bus ends. -/
def execCciTransferDone (c : CamIx) (acked : Bool) (data : Byte) (s : State) : Result :=
  match s.eye.cam[c].cciBusy with
  | none => .next s
  | some (true, _) =>
    let t := s.onCam c fun q =>
      let q := { q with cciBusy := none }
      if acked then q
      else if q.captured.isSome then { q with cciFail := true }
      else State.flagEnded c flCciFail { q with cciFail := true, actFail := true }
    .next ((if acked then t else t.errorUnit 0x0B02 .c (unitCam c) 0 0x0F).startCci c)
  | some (false, w) =>
    .next ((s.onCam c fun q => { q with
      cciBusy := none, nack := !acked, cciData := if w.getLsbD 31 ∧ acked then data else q.cciData }).startCci c)

/-- R352: a host write of EYE_FFn_DATA. -/
def execFfDataWrite (c : CamIx) (v : Word) (s : State) : Result :=
  .next (if s.hostUp then (s.hostIn 4).writeFf c v else s)

end Sys2Proof.Machine
end

