-- ==== Sys2Proof/Machine/Checks.lean ====
section
/-!
DEFINITION. What refuses a restart (R32): the checks of the whole engine, the timebase, a bar, a head port, a camera
port and an axis, in the order in which the model makes them.
-/
namespace Sys2Proof.Machine

/-- Why a restart is refused: its code, the unit of R457, the low bits of INFO0, and the block that refuses. -/
structure RestartFail where
  code : Code
  unit : Nat
  low  : Nat
  src  : Nat
  deriving DecidableEq, Repr

/-- A check that fails when `c` holds. -/
def failIf (c : Bool) (code : Code) (unit src : Nat) : Option RestartFail := if c then some ⟨code, unit, 0, src⟩ else none

/-- The first check that fails. -/
def firstFail (l : List (Option RestartFail)) : Option RestartFail := l.findSome? id

/-! ## The channel map (R194, R196) -/

/-- The normal and stitch channels that name a column, of a map with these listed elements: an unlisted channel is
normal and names its own column (R192). -/
def serving (t : Table Nat) (col : Nat) : List (Nat × Nat) :=
  (t.filter fun q => decide (mapKind q.2 < 2) && decide (mapColumn q.2 = col))
    ++ if t.any fun q => decide (q.1 = col) then [] else [(col, mapDefault col)]

/-- R196: a column is served by no channel, by one normal channel, or by two to four stitch channels whose BLENDs sum to 64. -/
def columnOk (t : Table Nat) (col : Nat) : Bool :=
  let l := serving t col
  l.isEmpty || (decide (l.length = 1) && l.all fun q => decide (mapKind q.2 = 0))
    || (decide (2 ≤ l.length ∧ l.length ≤ 4) && l.all (fun q => decide (mapKind q.2 = 1))
      && decide ((l.map fun q => mapBlend q.2).sum = 64))

/-- R196: the channels of a channel's group lie on one head port, within 64 consecutive nozzles. -/
def groupOk (t : Table Nat) (j e : Nat) : Bool :=
  decide (mapGroup e = 0) || t.all fun q =>
    decide (mapGroup q.2 ≠ mapGroup e) || (decide (q.1 / 16384 = j / 16384) && decide (q.1 < j + 64 ∧ j < q.1 + 64))

/-- R196: channel j, with element e, meets every condition of the map check. -/
def channelOk (t : Table Nat) (j e : Nat) : Bool :=
  let m := j / 8192
  (if mapKind e < 2 then
      decide (8192 * m ≤ mapColumn e + 1024 ∧ mapColumn e ≤ 8192 * m + 9215) && columnOk t (mapColumn e)
    else true)
    && (if mapKind e = 1 then decide (1 ≤ mapBlend e) else decide (mapBlend e = 0))
    && (decide (mapKind e ≠ 2) || decide (mapGroup e ≠ 0)) && groupOk t j e

/-- R197: a curve element that the map check passes: bit 255 is 0, and no point is above 16,384. -/
def curveOk (e : Nat) : Bool := !bit e 255 && (List.range 17).all fun i => decide (curvePoint e i ≤ 16384)

/-- R193, R196, R197: the first channel that offends, of a map and curves with these listed elements; an unlisted channel
can offend only where a listed one serves its column, or its curve is listed. -/
def mapOffender (t curves : Table Nat) : Option Nat :=
  let named := (t.filter fun q => decide (mapKind q.2 < 2) && decide (mapColumn q.2 ≠ q.1)).map fun q => mapColumn q.2
  (t.map (·.1) ++ named ++ curves.map (·.1)).foldl (fun best j =>
    if best.any (fun b => decide (b ≤ j)) || (channelOk t j (tget mapDefault t j) && curveOk (tget curveDefault curves j)) then best
    else some j) none

/-! ## The tables that a bar's restart copies (R190, R193, R386, R387) -/

/-- An element of a bar's map as a channel that is off, or as a normal channel on a column (R194). -/
def mapOff (e : Nat) : Nat := 3 * 2 ^ 30 + mapGroup e * 2 ^ 16 + mapColumn e
def mapTake (reserve failed : Nat) : Nat := mapGroup reserve * 2 ^ 16 + mapColumn failed

/-- R204: list a channel out. -/
def listOut (j : Nat) (t : BarTables) : BarTables :=
  { t with out := tput outDefault t.out (j / 32) (tget outDefault t.out (j / 32) ||| 2 ^ (j % 32)) }

/-- R386, R387: one nozzle record of the ledger, applied to the tables; promotions that would break the map are
dropped, and listed. -/
def applyRecord (acc : BarTables × List (Nat × Nat)) (x : Record) : BarTables × List (Nat × Nat) :=
  let t := acc.1
  let j := x.old.toNat % 65536
  let r := x.new.toNat % 65536
  if x.kind = 8 then (listOut r t, acc.2)
  else
    let ej := tget mapDefault t.map j
    let er := tget mapDefault t.map r
    let m := tput mapDefault (tput mapDefault t.map r (mapTake er ej)) j (mapOff ej)
    let c := tput curveDefault t.curve r (tget curveDefault t.curve j)
    if (mapOffender m c).isSome then (listOut j t, acc.2 ++ [(j, r)])
    else ({ t with map := m, curve := c }, acc.2)

namespace State

/-- R387: the nozzle records in force of a bar, in ledger order. -/
def nozzleState (s : State) (k : BarIx) : List Record :=
  (inForce s.cal.ledger).filter fun x => decide (x.kind = 8 ∨ x.kind = 0xA) && decide (x.unit.toNat = k.1)

/-- R190, R193, R226: the tables that a bar's restart copies; masks only in scanning mode. -/
def copyTables (s : State) (k : BarIx) : BarTables × List (Nat × Nat) :=
  let b := s.bar[k]
  let t := if s.scan then b.staged else { b.staged with mask := b.active.mask }
  if s.autoOut k then (s.nozzleState k).foldl applyRecord (t, []) else (t, [])

/-! ## Bars (R180, R191, R193, R201, R204, R211, R230) -/

/-- The engines that a bar's slots name (R179). -/
def barEngines (s : State) (k : BarIx) : List Nat := (all 8).map fun m => s.slotEngine k m

/-- R180: the assignment of a bar's engines; `others` are the other bars that run or restart with it. -/
def assignOk (s : State) (k : BarIx) (others : List BarIx) : Bool :=
  let l := s.barEngines k
  decide l.Nodup && l.all (fun e => match fin? 68 e with
      | some i => !s.se.engines[i].out
      | none => false)
    && others.all fun b => (s.barEngines b).all fun e => !l.contains e

/-- The ports of a bar that are in service. -/
def servicePorts (s : State) (k : BarIx) : List PortIx := (portsOf k).filter s.inService

/-- The threshold arrays that a bar's ports use under ordered dither. -/
def arraysUsed (s : State) (k : BarIx) : List Nat :=
  if s.retMethod k = 0 then ((s.servicePorts k).map fun p => s.portArray k (p.1 % 4 * 16384)).eraseDups else []

/-- R211: bytes of the threshold arrays that a bar uses. -/
def arrayBytes (s : State) (k : BarIx) : Nat :=
  (s.arraysUsed k).length * 2 ^ (s.fld (aRetCfg k.1) 23 20 + s.fld (aRetCfg k.1) 19 16 + 1)

/-- R216: LVAL_0 is 0, and the level values strictly ascend. -/
def levelsOk (s : State) (k : BarIx) : Bool :=
  decide (s.lval k 0 = 0) && (List.range (s.retLevels k - 1)).all fun i => decide (s.lval k i < s.lval k (i + 1))

/-- R225: the staged level table of a port, under its bar's screening. -/
def codesOk (s : State) (p : PortIx) : Bool :=
  let k := barOf p
  decide (s.stagedElem 5 p.1 0 0 = 0) && (decide (s.retMethod k = 2) ||
    (List.range (s.retLevels k)).all fun i => decide (s.stagedElem 5 p.1 0 i < 2 ^ s.width p))

/-- R227: each of the 4,096 mask positions is set in exactly one of the passes. -/
def coverOk (s : State) (k : BarIx) : Bool :=
  (List.range 64).all fun row => (List.range 64).all fun col =>
    decide ((List.range s.passCount).countP (fun p => bit (s.stagedElem 6 k.1 p row) col) = 1)

/-- R211, R215, R216: the screening settings of a bar. -/
def screeningOk (s : State) (k : BarIx) (others : List BarIx) : Bool :=
  let m := s.retMethod k
  let w := s.fld (aRetCfg k.1) 23 20
  let h := s.fld (aRetCfg k.1) 19 16
  decide (m ≠ 3) && (decide (m = 2) || decide (s.retLevels k ≠ 1))
    && (decide (m ≠ 0) || (decide (3 ≤ w ∧ w ≤ 9) && decide (3 ≤ h ∧ h ≤ 9)))
    && decide (((k :: others).map s.arrayBytes).sum ≤ 8388608)
    && decide ((s.edW0 k).sum + (s.edW1 k).sum + (s.edW2 k).sum ≤ 256) && (decide (m ≠ 1) || s.levelsOk k)
    && (s.servicePorts k).all s.codesOk
    && (!(s.scan && s.fbit (aRetCfg k.1) 29) || s.coverOk k)

/-- R190, R193: the tables that a restart of a bar copies: table code, UNIT and SUB. -/
def barTables (s : State) (k : BarIx) : List (Nat × Nat × Nat) :=
  [(1, k.1, 0), (2, k.1, 0), (3, k.1, 0)] ++ (s.arraysUsed k).map (fun a => (4, k.1, a))
    ++ (if s.scan then (List.range s.passCount).map fun p => (6, k.1, p) else [])

/-- R191: the first of some staged tables that disagrees with its check; INFO0 names it. -/
def tableFail (s : State) (unit src : Nat) (l : List (Nat × Nat × Nat)) : Option RestartFail :=
  (l.find? fun q => !s.checkOk q.1 q.2.1 q.2.2).map fun q => ⟨0x0407, unit, q.1 + q.2.1 * 2 ^ 8 + q.2.2 * 2 ^ 16, src⟩

/-- The checks of a bar; `marks` tells that the ports' absent marks stand (R510). -/
def barFail (s : State) (k : BarIx) (others : List BarIx) (marks : Bool) : Option RestartFail :=
  let u := unitBar k
  firstFail [
    failIf (decide (s.portEn k = 0)) 0x0601 u 0x0A,
    failIf (marks && (s.servicePorts k).any fun p => s.port[p].link.absent) 0x0601 u 0x0A,
    failIf (!s.assignOk k others) 0x0402 u 8,
    failIf (decide (s.epochLog2 k < 8 ∨ 16 < s.epochLog2 k)) 0x0402 u 8,
    failIf (decide (128 < s.fld (aSeRedist k.1) 15 8 + s.fld (aSeRedist k.1) 7 0)) 0x0402 u 8,
    failIf (!s.screeningOk k others) 0x0402 u 9,
    s.tableFail u 8 (s.barTables k),
    (mapOffender (s.copyTables k).1.map (s.copyTables k).1.curve).map fun j => ⟨0x0402, u, j, 8⟩]

/-! ## Head ports (R230, R241, R242, R248, R280) -/

/-- The row buffer, staging time and round trip that a port's module gave. -/
def portCaps (s : State) (p : PortIx) : ModCaps := s.port[p].link.caps

/-- R279: the physical lanes of a port that the ledger records as swapped out. -/
def lanesSwapped (s : State) (p : PortIx) : List Nat :=
  ((s.recorded 3).filter fun x => decide (x.unit.toNat = p.1)).map fun x => x.old.toNat

/-- The checks of a port that use no figure of its module. A row rate above 140 kHz (R26) is a MIN_RI below 2,857 (R248). -/
def portFail (s : State) (p : PortIx) : Option RestartFail :=
  let u := unitPort p
  let dlv := s.fld (aPrmPort p.1 4) 31 16
  let minRi := s.fld (aPrmPort p.1 8) 31 16
  let width := s.fld (aPrmPort p.1 8) 12 0
  let l := s.laneSrc p
  firstFail [
    failIf (!s.inService p) 0x0601 u 0x0A,
    failIf (decide (s.slots p < s.fld (aPrmPort p.1 0) 24 16)) 0x0601 u 0x0A,
    failIf (decide (s.lead p * minRi < dlv * 4)) 0x0601 u 0x0A,
    failIf (decide (s.fld (aPrmPort p.1 4) 15 8 = 0 ∨ s.fld (aPrmPort p.1 4) 7 0 = 0)) 0x0601 u 0x0A,
    failIf (decide (minRi < 2857 ∨ width < 8 ∨ minRi < width + 40 ∨ 300 * s.fld aPrmWdog 5 0 < width)) 0x0601 u 0x0A,
    failIf (decide (l.1 = l.2 ∨ l.1 = 3 ∨ l.2 = 3) || (s.lanesSwapped p).any fun x => decide (x = l.1 ∨ x = l.2)) 0x0601 u 0x0B,
    failIf (decide (40 < s.fld (aAbr p.1 4) 3 0 + s.fld (aAbr p.1 4) 12 8)) 0x0601 u 0x0B,
    failIf (!s.codesOk p) 0x0402 u 9,
    s.tableFail u 9 [(5, p.1, 0)]]

/-- R264: the blocks of a row frame of w bits a code: ROW_ID, and 4w segments of 64 data blocks, SEG_START and SEG_END. -/
def frameBlocks (w : Nat) : Nat := 1 + 4 * w * 66

/-- R242, R264: the delivery lead covers the row frame, of 2.64 ns a block, a REFRESH burst, the round trip and the guard. -/
def dlvOk (s : State) (p : PortIx) : Bool :=
  let guard := s.fld (aPrmPort p.1 4) 7 0
  decide (264 * frameBlocks (s.width p) + 100 * (850 + 10 * (s.portCaps p).rtt + 100 * guard) ≤ 1000 * s.fld (aPrmPort p.1 4) 31 16)

/-- R241, R242, R272, R280: the checks of a port against the figures of its module. -/
def moduleFail (s : State) (p : PortIx) : Option RestartFail :=
  let c := s.portCaps p
  failIf (decide (c.rowbuf < s.lead p) || decide (s.fld (aPrmPort p.1 4) 7 0 < c.stage) || !s.dlvOk p
    || !c.widths.getLsbD (s.fld (aPrmPort p.1 0) 31 30)) 0x0601 (unitPort p) 0x0B

/-! ## Axes (R329) -/

/-- R329: the settings of an axis. -/
def axisFail (s : State) (x : AxisIx) : Option RestartFail :=
  let v := s.axVmax x
  let w := s.fld (aMot x.1 0) 13 7
  let fast := s.fld (aMot x.1 0x20) 23 0
  let slow := s.fld (aMot x.1 0x24) 23 0
  failIf (decide (v = 0 ∨ 10000000 < v ∨ 50000000 < v * w) || decide (v < s.axVstart x)
    || decide (s.axAmax x = 0 ∨ s.axDmax x = 0) || (decide (s.axEdec x ≠ 0) && decide (s.axEdec x < s.axDmax x))
    || decide (w < 5 ∨ s.fld (aMot x.1 0) 6 0 < 2)
    || (s.fbit (aMot x.1 0) 27 && decide (s.fld (aMot x.1 0x28) 31 16 = 0 ∨ s.rdN (aMot x.1 0x1C) = 0))
    || decide (fast = 0 ∨ slow = 0 ∨ v < fast ∨ v < slow)) 0x0A01 (unitAxis x) 0x0E

/-! ## Timebase (R289, R294, R303, R308) -/

/-- R289, R294: the gear table and the fit of an encoder. -/
def gearFail (s : State) (m : EncIx) : Option RestartFail :=
  let n := s.gearCount m.1
  failIf ((List.range n).any (fun e => decide (s.gearRatio m.1 e = 0 ∨ 4294967296 < s.gearRatio m.1 e))
    || (List.range n).any (fun e => decide (1 ≤ e ∧ e + 1 < n) && decide (s.gearStart m.1 (e + 1) ≤ s.gearStart m.1 e))
    || decide (s.fld (aHlsEnc m.1 8) 31 24 = 0)) 0x0806 (unitEnc m) 0x0C

/-- The checks of the timebase. -/
def tbFail (s : State) : Option RestartFail :=
  firstFail [
    failIf s.stepTime.isNone 0x0904 unitNone 0x0D,
    s.gearFail 0, s.gearFail 1,
    failIf (s.scan && decide (s.passRows = 0)) 0x0806 unitNone 0x0C]

/-! ## Whole engine (R124, R132, R143, R155, R165, R251, R388, R396, R413, R460) -/

/-- The channels of the interleave, by SPL_CHMAPr. -/
def chmapList (s : State) : List ChanIx := (List.range 60).map s.chmap

/-- R396: no channel is named twice, and none that is out of service. -/
def chmapOk (s : State) : Bool :=
  let l := s.chmapList
  decide l.Nodup && l.all fun c => !s.spl.chans[c].out

/-- R413: every TARGET, and that of QP1. -/
def targetsOk (s : State) : Bool :=
  (List.range 8).all (fun q => decide (s.fld (aSpl (0x80 + 4 * q)) 23 0 ≠ 0)) && decide (450 ≤ s.fld (aSpl 0x84) 23 0)

/-- R251: ESTOP_n, ESTOP_LATCH and the TRIP bits. -/
def estopHeld (s : State) : Bool := s.integ.estop || s.integ.latch || (all 32).any fun p => s.port[p].trip

/-- The lanes in service (R165). -/
def lanesOn (s : State) : Nat := (all 34).countP s.laneOn

/-- The checks of the whole engine. -/
def engFail (s : State) : Option RestartFail :=
  let size := s.fld (aCal 0x204) 15 0
  firstFail [
    failIf (decide (s.hif.hb = .expired)) 0x0107 unitNone 2,
    failIf (decide (s.sys.lpCur ≠ 0)) 0x1008 unitNone 0,
    failIf s.estopHeld 0x0609 unitNone 0x0A,
    failIf (decide (s.fld aJobSpool 6 0 = 0 ∨ 78 < s.fld aJobSpool 22 16 + s.fld aJobSpool 6 0)) 0x0D01 unitNone 5,
    failIf (!s.chmapOk || !s.targetsOk) 0x0D01 unitNone 0x11,
    failIf (s.web && decide (s.fld aJobTransport 23 0 = 0)) 0x020B unitNone 5,
    failIf (decide (32 < s.lanesOn)) 0x0309 unitNone 6,
    failIf (decide (size < 4 ∨ size % 2 = 1)) 0x0C08 unitNone 0x10,
    failIf (decide (s.fld (aInt 8) 15 8 = 0)
      || decide (signed 32 (s.rdN (aInt 4)) ≤ (s.fld (aInt 8) 31 16 : Nat))) 0x1002 unitNone 0x15]

/-! ## A whole restart (R32) -/

/-- The bars of a set of functions. -/
def barsIn (l : List FnRef) : List BarIx := l.filterMap fun f => match f with | .bar k => some k | _ => none
/-- The ports of a set of functions. -/
def portsIn (l : List FnRef) : List PortIx := l.filterMap fun f => match f with | .port p => some p | _ => none

/-- The other bars that run, or restart in the same set. -/
def otherBars (s : State) (l : List FnRef) (k : BarIx) : List BarIx :=
  (all 8).filter fun b => decide (b ≠ k) && (s.barRuns b || (barsIn l).contains b)

/-- The checks of one function of a restart's set. -/
def fnFail (s : State) (l : List FnRef) (marks : Bool) (f : FnRef) : Option RestartFail :=
  match f with
  | .engine => s.engFail
  | .timebase => s.tbFail
  | .bar k => s.barFail k (s.otherBars l k) marks
  | .port p => s.portFail p
  | .cam c => failIf (s.camRefused c) 0x0B01 (unitCam c) 0x0F
  | .axis x => s.axisFail x

/-- The checks that a restart makes when it takes effect: of every function, and of the modules of the ports that do not
train. -/
def effectFail (s : State) (l : List FnRef) (marks : Bool) : Option RestartFail :=
  firstFail (l.map (s.fnFail l marks) ++ ((portsIn l).filter fun p => !s.mustTrain p).map s.moduleFail)

/-- A port of a restart has not reached T6. -/
def linkFail (s : State) (p : PortIx) : Option RestartFail :=
  if s.active p then none
  else some ⟨if s.port[p].link.fault = 6 then 0x0701 else 0x0702, unitPort p, 0, 0x0B⟩

/-- R193: an engine of the set that was not used in its bar's previous run fails its test. -/
def testedEngines (s : State) (l : List FnRef) (bad : List Nat) : List (BarIx × Nat) :=
  (barsIn l).flatMap fun k => ((s.barEngines k).filter fun e =>
    bad.contains e && !s.bar[k].engines.contains e).map fun e => (k, e)

/-- The checks of a restart once its ports have trained; the staged tables of the bars of `lost` read uncorrectable (R410). -/
def finalFail (s : State) (l : List FnRef) (bad : List Nat) (lost : List BarIx) : Option RestartFail :=
  firstFail (l.map (s.fnFail l true) ++ (portsIn l).map s.linkFail ++ (portsIn l).map s.moduleFail
    ++ ((s.testedEngines l bad).map fun q => some ⟨0x0404, unitBar q.1, 0, 8⟩)
    ++ lost.map fun k => some ⟨0x0D05, unitBar k, 0, 0x11⟩)

end State
end Sys2Proof.Machine
end

