-- ==== Sys2Proof/Machine/Functions.lean ====
section
/-!
DEFINITION. Stop, change, restart (R16, R30 to R34, R149 to R152, R511): the FUNCTION entry, what a stop of each function does
when it takes effect, and what a restart does when it begins, when it fails and when it completes.
-/
namespace Sys2Proof.Machine

/-! ## The FUNCTION entry (R149) -/

/-- KIND, INDEX, ACTION, WHEN and AT_SHEET. -/
def fnKind (e : Entry) : Nat := fieldAt e 24 1
def fnIndex (e : Entry) : Nat := fieldAt e 25 1
def fnRestarts (e : Entry) : Bool := decide (fieldAt e 26 1 = 1)
def fnInGap (e : Entry) : Bool := decide (fieldAt e 27 1 = 1)
def fnAtSheet (e : Entry) : BitVec 32 := BitVec.ofNat 32 (fieldAt e 28 4)

/-- The function that an entry names, when there is one. -/
def fnOf (e : Entry) : Option FnRef :=
  let i := fnIndex e
  match fnKind e with
  | 0 => (fin? 32 i).map .port
  | 1 => (fin? 8 i).map .bar
  | 2 => (fin? 4 i).map .cam
  | 3 => (fin? 8 i).map .axis
  | 4 => if i = 0 then some .timebase else none
  | 5 => if i = 0 then some .engine else none
  | _ => none

/-- R149: the rules on the fields of a FUNCTION entry. -/
def formFunction (e : Entry) : Bool :=
  fieldsOnly e [(24, 8)] && (fnOf e).isSome && decide (fieldAt e 26 1 ≤ 1) && decide (fieldAt e 27 1 ≤ 1)

/-- R341: an axis stop: it comes to rest at a deceleration. -/
def haltAxis (dec : Nat) (a : Axis) : Axis := if a.motion = .rest then State.cease a else State.brake a dec

namespace State

/-! ## Containment (R30, R32) -/

/-- The functions that a function contains, itself first. -/
def contained : FnRef → List FnRef
  | .port p => [.port p]
  | .bar k => .bar k :: (portsOf k).map .port
  | .cam c => [.cam c]
  | .axis x => [.axis x]
  | .timebase => .timebase :: ((all 8).flatMap fun k => .bar k :: (portsOf k).map FnRef.port) ++ (all 8).map .axis
  | .engine => .engine :: .timebase :: ((all 8).flatMap fun k => .bar k :: (portsOf k).map FnRef.port)
      ++ (all 8).map .axis ++ (all 4).map .cam

/-- The container of a function runs; the whole engine has none. -/
def containerRuns (s : State) : FnRef → Bool
  | .port p => s.barRuns (barOf p)
  | .bar _ => s.tbRuns
  | .cam _ => s.engRuns
  | .axis _ => s.tbRuns
  | .timebase => s.engRuns
  | .engine => true

/-- The running functions that a stop of `f` stops. -/
def stopSet (s : State) (f : FnRef) : List FnRef := (contained f).filter fun g => (s.fn g).running

/-- R32, R509: a contained function that a restart of `f` restarts: stopped with its container, and, for bars and
ports, in service. An axis that a stop of its container is still bringing to rest is one (R328). -/
def joins (s : State) (f g : FnRef) : Bool :=
  let free (h : FnRef) : Bool := decide (h = f) || !(s.fn h).own
  match g with
  | .port p => decide (g = f) || (free g && s.inService p && !(s.fn g).running
      && (decide (f = .bar (barOf p)) || (free (.bar (barOf p)) && (decide (f = .timebase) || free .timebase))))
  | .bar k => decide (g = f) || (free g && decide (s.portEn k ≠ 0) && (decide (f = .timebase) || free .timebase))
  | .axis _ => decide (g = f) || (free g && (!(s.fn g).running || (s.fn g).busy) && (decide (f = .timebase) || free .timebase))
  | _ => decide (g = f) || free g

/-- The functions of a restart of `f`. -/
def restartSet (s : State) (f : FnRef) : List FnRef := (contained f).filter (s.joins f)

/-! ## Places in the sheet stream (R150) -/

/-- R150: a bar has fired the last row of a queued sheet, or has no part in it. -/
def barPast (s : State) (sh : Sheet) (k : BarIx) : Bool := !s.bar[k].used || decide (sh.rows ≤ sh.fired[k])

/-- R150: the sheet is not queued, or finished at the function's place: its bar, or else the last bar in use. -/
def gapReached (s : State) (f : FnRef) (id : BitVec 32) : Bool :=
  match s.sheet? id with
  | none => true
  | some sh => match f with
    | .port p => s.barPast sh (barOf p)
    | .bar k => s.barPast sh k
    | _ => (all 8).all (s.barPast sh)

/-- R152: no sheet is under way at a bar. -/
def inGap (s : State) (k : BarIx) : Bool :=
  s.job.sheets.all fun sh => decide (sh.fired[k] = 0) || decide (sh.rows ≤ sh.fired[k])

/-! ## Stopping (R20, R32, R33, R142, R150) -/

/-- R240, R272: a port stops: its queue is discarded, and a link that is active gets STOP. -/
def stopPort (gap : Bool) (p : PortIx) (s : State) : State :=
  if s.testing p then s.occEnd 3
  else
    let t := (s.clearQueue p).onFn (.port p) fun f => { f with running := false }
    let t := t.onPort p fun q => { q with missing := if gap then 0x0209 else 0x020E }
    if t.active p then (t.cutStream p).sendBlock p (ctrlBlock 0xB1 []) else t

/-- R20, R164, R218, R370: a bar stops: rows that it has computed and not fired are discarded, with its fetches, its
diffusion state and the taps under way. -/
def stopBar (gap : Bool) (k : BarIx) (s : State) : State :=
  let t := s.dropTaps fun t => decide (s.tapRow t.cam < t.next[k]) && !t.complete[k]
  let t := t.onBar k fun b => { b with
    rows := [], works := [], acc := [], seams := [], checks := [], gap := gap, pass := b.grow }
  let t := t.onSpl fun u => { u with chans := u.chans.map fun c => { c with reqs := c.reqs.filter fun q => decide (q.bar ≠ k) } }
  (t.onJob fun j => { j with sheets := j.sheets.map fun sh => { sh with computed := sh.computed.set k.1 sh.fired[k] k.2 } }).onFn
    (.bar k) fun f => { f with running := false }

/-- R348, R358: a camera port stops, and its outputs are low. -/
def stopCam (c : CamIx) (s : State) : State :=
  ((s.camStop c).onMer fun m => { m with
    level := (upd (upd m.level ⟨32 + c.1, by omega⟩ fun _ => false) ⟨36 + c.1, by omega⟩ fun _ => false) }).onFn (.cam c)
    fun f => { f with running := false }

/-- R328: an axis is brought to rest at DMAX; its stop takes effect there. -/
def stopAxis (x : AxisIx) (s : State) : State :=
  if s.axis[x].motion = .rest then (s.onAxis x cease).onFn (.axis x) fun f => { f with running := false }
  else (s.onAxis x (haltAxis (s.axDmax x))).onFn (.axis x) fun f => { f with busy := true }

/-- R33, R150: a sheet that a bar has begun is rejected with the rows that are left, at every bar in use. -/
def rejectBegun (sh : Sheet) (s : State) : State :=
  let t := s.forEach ((all 8).filter fun k => s.bar[k].used && decide (sh.fired[k] < sh.rows)) fun k u =>
    if u.integ.dstop then u else u.sheetError 0x020E .s sh.id sh.fired[k] (unitBar k) 0 5
  t.onSheet sh.id fun x => { x with fired := Vector.replicate 8 x.rows }

/-- R150, R316, R465: what a stop of the timebase does to sheets, slots, feeds and ENGINE_OK. -/
def stopTimebase (s : State) : State :=
  let t := (s.forEach (s.job.sheets.filter (·.begun)) rejectBegun).finishDone
  let t := (t.cancelUnbegun.sweepTaps).cancelAllSlots
  let t := t.onBars fun v => v.map fun b => { b with used := false, gap := false }
  let t := (t.onHls fun h => { h with pass := none }).onFn .timebase fun f => { f with running := false }
  (t.onInteg fun i => { i with okHolds := i.okHolds || (i.engineOk && !i.dstop) }).settleOk

/-- A running function stops. -/
def stopOne (gap : Bool) (f : FnRef) (s : State) : State :=
  match f with
  | .port p => s.stopPort gap p
  | .bar k => s.stopBar gap k
  | .cam c => s.stopCam c
  | .axis x => s.stopAxis x
  | .timebase => s
  | .engine => (s.recordLaneFaults.onInteg fun i => { i with orderly := false }).onFn .engine fun f => { f with running := false }

/-- R32: a stop of `f` takes effect: everything that runs in it stops, and it counts as stopped on its own. -/
def stopFn (f : FnRef) (gap : Bool) (s : State) : State :=
  let l := s.stopSet f
  let t := s.forEach l (stopOne gap)
  let t := if l.contains .timebase then t.stopTimebase else t
  t.onFn f fun x => { x with own := true }

/-- R33, R152: whether a stop that takes effect now is placed in a gap: no sheet is under way at its bar. -/
def placedInGap (s : State) : FnRef → Bool
  | .port p => s.inGap (barOf p)
  | .bar k => s.inGap k
  | _ => false

/-- A restart that takes in the function, or a stop that brings an axis of it to rest, is under way. -/
def fnBusy (s : State) (f : FnRef) : Bool := (contained f).any fun g => (s.fn g).busy

/-- A restart of the function itself has taken effect, or waits for a swap to be recorded, and has not completed. -/
def restarting (s : State) (f : FnRef) : Bool :=
  s.fns.reqs.any fun q => decide (q.ref = f) && q.restart && q.gapAt.isNone

/-- A restart that takes in the function has taken effect, and has not completed. -/
def inRestart (s : State) (f : FnRef) : Bool :=
  s.fns.reqs.any fun q => q.restart && q.gapAt.isNone && !q.ledger && q.set.contains f

/-- A request of a FUNCTION entry goes. -/
def dropReq (q : FnReq) (s : State) : State :=
  s.onFns fun t => { t with reqs := dropFirst (fun x => decide (x = q)) t.reqs }

/-- A request takes its place among those that have not completed. -/
def addReq (q : FnReq) (s : State) : State := s.onFns fun t => { t with reqs := t.reqs ++ [q] }

/-- The stop of a request takes effect; its completion follows. -/
def stopEffect (q : FnReq) (s : State) : State :=
  let l := s.stopSet q.ref
  (s.stopFn q.ref (s.placedInGap q.ref)).addReq { q with gapAt := none, set := l }

/-- The axes of a set. -/
def axesIn (l : List FnRef) : List AxisIx := l.filterMap fun f => match f with | .axis x => some x | _ => none

/-- R328: every axis of a stop is at rest. -/
def stopDone (s : State) (q : FnReq) : Bool := (axesIn q.set).all fun x => decide (s.axis[x].motion = .rest)

/-- The stop of a request has taken effect: its completion is posted. -/
def finishStop (q : FnReq) (s : State) : State :=
  let t := s.forEach (axesIn q.set) fun x u => u.onFn (.axis x) fun f => { f with running := false, busy := s.inRestart (.axis x) }
  (t.dropReq q).done q.ring q.entry 0 5

/-! ## Restarting (R32, R272, R510) -/

/-- The ports that a restart trains: those of its set that must, and at a whole-engine restart those marked absent. -/
def trainees (s : State) (f : FnRef) (l : List FnRef) : List PortIx :=
  (all 32).filter fun p => ((portsIn l).contains p && s.mustTrain p) || (decide (f = .engine) && s.port[p].link.absent)

/-- A restart completes with a refusal: no function of it begins running. -/
def refuseRestart (q : FnReq) (x : RestartFail) (s : State) : State :=
  (s.dropReq q).complete q.ring q.entry x.code (BitVec.ofNat 64 (x.low % 2 ^ 56 + x.unit * 2 ^ 56)) 0 x.src

/-- R32: the function runs already, or its container is stopped. -/
def restartBarred (s : State) (f : FnRef) : Bool := (s.fn f).running || (s.fn f).busy || !s.containerRuns f

/-! ## Swaps of spares (R36, R208, R279, log entry 92) -/

/-- R208: the engine swaps that a restart of a bar would put into use: a slot's engine of the previous run that no slot names
any more, and the engine in its place, which the bar did not use. -/
def engineSwaps (s : State) (k : BarIx) : List (Nat × Nat × Nat × Nat) :=
  (all 8).filterMap fun m =>
    let new := s.slotEngine k m
    (s.bar[k].engines[m.1]?).bind fun old =>
      if old ≠ new ∧ !(s.bar[k].engines.contains new) ∧ !((all 8).any fun b => (s.barEngines b).contains old) then
        some (1, k.1 * 8 + m.1, old, new)
      else none

/-- R279: the lane swap that a restart of a port would put into use: a stream lane that goes over to LS. -/
def laneSwaps (s : State) (p : PortIx) : List (Nat × Nat × Nat × Nat) :=
  let was := s.port[p].link.trained.getD (0, 1)
  let is := s.laneSrc p
  (if is.1 = 2 ∧ was.1 ≠ 2 then [(3, p.1, was.1, 2)] else []) ++ (if is.2 = 2 ∧ was.2 ≠ 2 then [(3, p.1, was.2, 2)] else [])

/-- The decompressor lanes that are enabled. -/
def lanesEnabled (s : State) : List Nat :=
  ((all 34).filter fun l => bit (s.rdN (aDcmp 0) + 2 ^ 32 * s.rdN (aDcmp 4)) l.1).map (·.1)

/-- R35, R165: the decompressor lanes that a whole-engine restart would swap out: disabled since the last one, while another
has been enabled in their place. -/
def dcmpSwaps (s : State) : List (Nat × Nat × Nat × Nat) :=
  match s.exp.prevLanes with
  | none => []
  | some was =>
    if s.lanesEnabled.all was.contains then []
    else (was.filter fun l => !s.lanesEnabled.contains l && !s.exp.laneOut.contains l).map fun l => (2, l, 0, 0)

/-- R35, R396: the HBM channels that a whole-engine restart would swap out: named in the previous run and no more, each with the
channel that has its slot and was a spare. -/
def chanSwaps (s : State) : List (Nat × Nat × Nat × Nat) :=
  match s.spl.chmap with
  | none => []
  | some was =>
    let is := s.chmapList.map fun c => c.1
    (was.zip is).filterMap fun q => if !is.contains q.1 && !was.contains q.2 then some (4, 0, q.1, q.2) else none

/-- R35, R396: firmware brings the spare of a recorded swap into the slot that still names the channel swapped out. -/
def useSpares (s : State) : State :=
  s.forEach (List.range 60) fun i t =>
    match (t.recorded 4).find? fun x => decide (x.old.toNat = (t.chmap i).1) with
    | some x =>
      if x.new.toNat < 64 ∧ !(t.chmapList.map fun c => c.1).contains x.new.toNat then
        t.putField (aSpl (0x40 + 4 * (i / 5))) (6 * (i % 5)) 6 x.new.toNat
      else t
    | none => t

/-- R36: the swaps that a restart of these functions would put into use and that the ledger does not hold yet. -/
def newSwaps (s : State) (l : List FnRef) : List (Nat × Nat × Nat × Nat) :=
  let made := l.flatMap fun f => match f with
    | .bar k => s.engineSwaps k
    | .port p => s.laneSwaps p
    | .engine => s.dcmpSwaps ++ s.chanSwaps
    | _ => []
  made.filter fun w => !(s.recorded w.1).any fun x =>
    decide (x.unit.toNat = w.2.1 ∧ x.old.toNat = w.2.2.1 ∧ x.new.toNat = w.2.2.2)

/-- R36, R389: firmware records the swaps first, and the restart waits. -/
def awaitLedger (q : FnReq) (l : List (Nat × Nat × Nat × Nat)) (s : State) : State :=
  (s.forEach l fun w t => t.queueRecord w.1 w.2.1 w.2.2.1 w.2.2.2).addReq { q with gapAt := none, ledger := true }

/-- The ports of a restart train or get CONFIG. -/
def restartBegins (q : FnReq) (l : List FnRef) (s : State) : State :=
  let tr := s.trainees q.ref l
  let t := s.forEach l fun f u => u.onFn f fun x => { x with busy := true }
  let t := t.forEach tr beginTraining
  let t := t.forEach ((portsIn l).filter fun p => !tr.contains p) sendConfig
  let t := if q.ref = .engine then t.onSys fun y => { y with svc := if y.svc = 2 then 1 else y.svc } else t
  t.addReq { q with gapAt := none, set := l, ledger := false }

/-- A restart takes effect: it is refused, or its checks pass and it begins, once the swaps it puts into use are recorded. -/
def restartEffect (q : FnReq) (s : State) : State :=
  if s.restartBarred q.ref then
    (s.onHif fun h => { h with refused := h.refused + 1 }).refuseRestart q ⟨0x1001, unitNone, 0, 5⟩
  else
    let s := s.when (decide (q.ref = .engine)) useSpares
    let l := s.restartSet q.ref
    match s.effectFail l (decide (q.ref ≠ .engine)) with
    | some x => s.refuseRestart q x
    | none => match s.newSwaps l with
      | [] => s.restartBegins q l
      | w => s.awaitLedger q w

/-- R36: the restarts that waited for their swaps to be recorded take effect. -/
def resumeRestarts (s : State) : State :=
  if s.swapPending then s
  else s.forEach (s.fns.reqs.filter (·.ledger)) fun q t => (t.dropReq q).restartEffect q

/-- A port of the restart still trains or awaits the echo of CONFIG. -/
def linkPending (s : State) (p : PortIx) : Bool := s.port[p].link.training || s.port[p].link.echoWait

/-- The ports whose links a restart waits for. -/
def awaited (s : State) (q : FnReq) : List PortIx :=
  (all 32).filter fun p => (portsIn q.set).contains p || (decide (q.ref = .engine) && s.port[p].link.absent)

/-- R510: the absent marks of ports that reached T6 are cleared. -/
def clearAbsent (s : State) : State :=
  s.onPorts fun v => v.map fun q => { q with link := { q.link with absent := q.link.absent && decide (q.link.lstate ≠ 6) } }

/-- R207: an engine fails its test: it is out of service, and firmware records it. -/
def engineFails (i : Fin 68) (s : State) : State :=
  (s.onEngineU i fun e => { e with out := true, testFail := satTo 255 (e.testFail + 1) }).queueRecord 0x0B 1 i.1 0

/-! ## What a restart sets up -/

/-- R387: E_PROMOTE_DROPPED. -/
def promoteDropped (k : BarIx) (x : Nat × Nat) (s : State) : State :=
  s.postAsync (s.asyncEvent .status 0x0C09 .c (BitVec.ofNat 64 (x.1 + x.2 * 65536 + unitBar k * 2 ^ 56)) 0 0x10)

/-- R386: a promoted reserve takes the failed channel's trim target. -/
def moveTargets (l : List (Nat × Nat)) (t : Trims) : Trims :=
  l.foldl (fun (t : Trims) x =>
    if x.2 < 65536 then { t with target := tput trimUnity t.target x.2 (tget trimUnity t.target x.1) } else t) t

/-- R209: lost targets go to unity. -/
def healTargets (t : Trims) : Trims :=
  { t with target := t.bad.foldl (fun m j => tput trimUnity m j 32768) t.target, bad := [] }

/-- R407: the pending SRAM remaps of a function's regions take effect. -/
def applyRemaps (f : FnRef) (s : State) : State :=
  s.onSpl fun u => { u with groups := u.groups.map fun g => { g with
    remaps := g.remaps.map fun x => if x.owner = some f then { x with pend := false, owner := none } else x } }

/-- R36, R208: engines that the ledger records as swapped out leave service. -/
def retireEngines (s : State) : State :=
  s.onSe fun e => { e with engines := e.engines.mapFinIdx fun i q _ => { q with out := q.out || s.engineGone i } }

/-- R193, R203, R209, R387, R513: a bar restarts. -/
def startBar (k : BarIx) (s : State) : State :=
  let t := (s.passDue k).retireEngines
  let t := t.thermRun k
  let c := t.copyTables k
  let t := t.clearCells k t.bar[k].active c.1
  let t := t.forEach c.2 (promoteDropped k)
  let t := t.forEach t.bar[k].trims.bad fun j u => u.errorUnit 0x0406 .c (unitBar k) j 8
  let n := t.bar[k].grow
  let trims := ((moveTargets t.cal.pendBar[k] (healTargets t.bar[k].trims))).settle (t.epochLog2 k) n
  let t := t.onBar k fun b => { b with
    engines := s.barEngines k, active := c.1, trims := trims, firstRow := n, pass := n, used := true, gap := false, rows := [], works := []
    acc := [], seams := [], checks := [] }
  let t := t.onCal fun u => { u with pendBar := u.pendBar.set k.1 [] k.2, stopQ := u.stopQ.set k.1 false k.2 }
  t.applyRemaps (.bar k)

/-- R20, R151, R240: a port stopped in a gap joins its running bar at the first row that has not passed, and the bar writes the
rows from there on again (DESIGN CHOICE, log entry 93); any other restart joins at the first row that the bar writes. -/
def joinRow (p : PortIx) (s : State) : State :=
  let k := barOf p
  if s.barRuns k && decide (s.port[p].missing = 0x0209) then
    (s.onPort p (Port.restart s.bar[k].pass)).onBar k fun b => { b with
      rows := b.rows.map fun r => if b.pass ≤ r.n then { r with written := false } else r }
  else s.onPort p (Port.restart (s.barWr k))

/-- R225, R240, R268: a head port restarts, and gets STROBE_SYNC. -/
def startPort (p : PortIx) (s : State) : State :=
  let t := s.joinRow p
  let t := t.onSe fun e => { e with levels := e.levels.set p.1 e.stagedLevels[p] p.2 }
  (t.sendSync p).applyRemaps (.port p)

/-- R328, R344: an axis restarts. -/
def startAxis (x : AxisIx) (s : State) : State :=
  s.onAxis x fun a => { a with fault := 0, everRun := true, enOff := false, motion := .rest, vel := 0, acc := 0 }

/-- R142, R286, R461: an anchor that is still to be decided keeps its place on the substrate when P of MENC0 goes from `p` to 0. -/
def shiftAnchor (l : List GearSeg) (p : Int) (a : Anchor) : Anchor :=
  { a with pe := a.pe - p, decide := a.decide - 256 * p, y := gearY l (gearX l a.y - 256 * p) }

/-- R142, R286, R300, R308: the timebase restarts: the step is applied, P of both encoders is 0, no port has a prediction, and
anchors whose decision lies ahead stay. -/
def startTb (s : State) : State :=
  let t := s.applyStep
  let p := t.hls.enc[0].pos
  let t := t.onHls fun h => { h with
    pass := none, slow := 0, enc := h.enc.map fun e => { e with pos := 0, hwm := 0, recs := [], raised := none } }
  t.onJob fun j => { j with
    anchors := (j.anchors.filter fun a => !a.decided).map (shiftAnchor (t.gears 0) p), virtualNext := none }

/-- The entry of a landing that a reset of the spool ring ends. -/
def resetLanding (x : Span) (s : State) : State :=
  match x.use with
  | .landing (.entry r e) => s.failBulk r e 0x0D02 0x11
  | .landing (.gather r e _) => s.failBulk r e 0x0D02 0x11
  | _ => s

/-- R396: a channel not named in the previous run resets the ring and the staging area. -/
def spoolReset (new : List ChanIx) (s : State) : State :=
  let t := (s.forEach new clearChannel).forEach s.job.spans resetLanding
  let t := t.onJob fun j => { j with
    jobs := [], bands := [], sheets := [], records := [], spans := [], wr := 0, tail := 0, rd := Vector.replicate 8 0 }
  let t := t.onSe fun e => { e with patches := [] }
  (t.onEth fun e => { e with trackers := [] }).stageDefaults.errorUnit 0x0D02 .c unitNone 0 0x11

/-- R396: the interleave of the new run. -/
def startSpool (s : State) : State :=
  let l := s.chmapList
  let t := match s.spl.chmap with
    | none => s
    | some old =>
      let new := l.filter fun (c : ChanIx) => !old.contains c.1
      if new.isEmpty then s else s.spoolReset new
  t.onSpl fun u => { u with chmap := some (l.map fun (c : ChanIx) => c.1) }

/-- R35, R391, R479: units whose records have been cleared return to service, control cores among them; those recorded stay
out. -/
def refit (s : State) : State :=
  let pend := fun (kind i : Nat) => s.cal.pending.any fun x => decide (x.kind = kind) && decide (x.old.toNat = i)
  let t := s.onSe fun e => { e with engines := e.engines.mapFinIdx fun i q _ => { q with
    out := s.engineGone i || pend 1 i || (s.cal.pending.any fun x =>
      decide (x.kind = 0x0B) && decide (x.unit.toNat = 1) && decide (x.old.toNat = i)) } }
  let t := (t.onExp fun e => { e with laneOut := ((s.recorded 2).map fun x => x.unit.toNat).eraseDups }).holdLanes
  let t := t.onSys fun y => { y with
    cores := Vector.ofFn (s.coreTest ((all 5).filter fun c => decide (s.sys.cores[c] = .failedTest))) }
  t.onSpl fun u => { u with chans := u.chans.mapFinIdx fun i q _ => { q with
    out := (s.recorded 4).any fun x => decide (x.old.toNat = i) } }

/-- R249, R461, R465, R467, R484: the whole engine restarts. -/
def startEng (s : State) : State :=
  let t := s.refit.startSpool.untraced
  let t := t.onPorts fun v => v.map fun q => { q with dead := false }
  let t := t.onInteg fun i => { i with
    engineOk := true, dstop := false, dcode := 0, prSkip := 0, parity := false, orderly := false, okHolds := false }
  let t := t.onJob fun j => { j with anchors := j.anchors.filter fun a => !a.decided, anchorCount := 0, virtualNext := none }
  let t := t.onExp fun e => { e with prevLanes := some t.lanesEnabled }
  (t.onSys fun y => { y with svc := if y.svc = 3 then 1 else y.svc }).applyRemaps .engine

/-- A function of a restart is set up. -/
def startOne (f : FnRef) (s : State) : State :=
  match f with
  | .engine => s.startEng
  | .timebase => s.startTb
  | .bar k => s.startBar k
  | .port p => s.startPort p
  | .cam c => (s.camStart c).applyRemaps (.cam c)
  | .axis x => s.startAxis x

/-- R30: the function runs under a new generation. -/
def runFn (f : FnRef) (s : State) : State :=
  s.onFn f fun x => { x with running := true, own := false, busy := false, gen := x.gen + 1 }

/-- A function of a restart that does not run counts as stopped again; an axis that still brakes keeps its stop. -/
def unbusy (f : FnRef) (s : State) : State := s.onFn f fun y => { y with busy := y.running && y.busy }

/-- R32: the functions of a restart that have not been stopped on their own since it took effect. -/
def stillIn (s : State) (q : FnReq) : List FnRef := q.set.filter (s.joins q.ref)

/-- A restart completes: it fails as a whole, or every function of it runs (R32). -/
def finishRestart (q : FnReq) (bad : List Nat) (lost : List BarIx) (s : State) : State :=
  let t := if q.ref = .engine then s.clearAbsent else s
  let l := t.stillIn q
  let lost := (barsIn l).filter lost.contains
  let t := t.forEach lost fun _ => lostBlock
  match t.finalFail l bad lost with
  | some x =>
    let t := t.forEach q.set unbusy
    let t := if x.code = 0x0404 then t.forEach ((t.testedEngines l bad).filterMap fun z => fin? 68 z.2) engineFails else t
    t.refuseRestart q x
  | none =>
    let t := ((t.forEach q.set unbusy).forEach l startOne).forEach l runFn
    (t.dropReq q).done q.ring q.entry ((t.fn q.ref).gen.toNat) 5

/-- R32, R328: a restart can complete: its ports have trained, or failed, and its axes are at rest. -/
def restartDone (s : State) (q : FnReq) : Bool :=
  !(s.awaited q).any s.linkPending && (axesIn q.set).all fun x => !s.axisRuns x

/-! ## Requests -/

/-- A FUNCTION entry starts: it takes effect at once, or waits for its gap. -/
def request (r : RingIx) (e : Entry) (f : FnRef) (s : State) : State :=
  let q : FnReq := ⟨f, fnRestarts e, r, e, if fnInGap e then some (fnAtSheet e) else none, [], false⟩
  if !fnRestarts e && s.restarting f then s
  else if !fnRestarts e && !(s.fn f).running then ((s.begin r).onFn f fun x => { x with own := true }).done r e 0 5
  else if fnInGap e && !s.gapReached f (fnAtSheet e) then (s.begin r).addReq q
  else if fnRestarts e then (s.begin r).restartEffect q
  else if s.fnBusy f then s
  else (s.begin r).stopEffect q

/-- R150: the first request of a function that waits for a gap, once the gap is there. -/
def gapRequest (s : State) (f : FnRef) : Option FnReq :=
  s.fns.reqs.find? fun q => decide (q.ref = f) && match q.gapAt with
    | some id => s.gapReached f id
    | none => false

/-- The request of a function that has taken effect. -/
def openRequest (s : State) (f : FnRef) (restart : Bool) : Option FnReq :=
  s.fns.reqs.find? fun q => decide (q.ref = f) && decide (q.restart = restart) && q.gapAt.isNone && !q.ledger

end State

/-! ## The commands -/

/-- R30, R149, R150: a FUNCTION entry with ACTION 0. -/
def execFunctionStop (r : RingIx) (s : State) : Result :=
  .next (s.runEntry r (fun e => decide (opcode e = 6) && !fnRestarts e) formFunction fun e t =>
    match fnOf e with
    | some f => t.request r e f
    | none => t)

/-- R30, R149, R150: a FUNCTION entry with ACTION 1. -/
def execFunctionRestart (r : RingIx) (s : State) : Result :=
  .next (s.runEntry r (fun e => decide (opcode e = 6) && fnRestarts e) formFunction fun e t =>
    match fnOf e with
    | some f => t.request r e f
    | none => t)

/-- R150: the gap that a stop or a restart waits for is there. -/
def execFunctionGapEffect (f : FnRef) (s : State) : Result :=
  .next (match s.gapRequest f with
    | none => s
    | some q =>
      if !s.up then s
      else if q.restart then (s.dropReq q).restartEffect q
      else if s.restarting f then s
      else if !(s.fn f).running then ((s.dropReq q).onFn f fun x => { x with own := true }).done q.ring q.entry 0 5
      else if s.fnBusy f then s
      else (s.dropReq q).stopEffect q)

/-- R32, R149: a stop has taken effect, and its completion is posted. -/
def execFunctionStopComplete (f : FnRef) (s : State) : Result :=
  .next (match s.openRequest f false with
    | some q => if s.up && s.stopDone q then s.finishStop q else s
    | none => s)

/-- R32, R193, R410: a restart completes, or fails on what it finds. -/
def execFunctionRestartComplete (f : FnRef) (finds : RestartFinds) (s : State) : Result :=
  .next (match s.openRequest f true with
    | some q => if s.up && s.restartDone q then s.finishRestart q finds.engines finds.tables else s
    | none => s)

end Sys2Proof.Machine
end

