-- ==== Sys2Proof/Machine/Mailbox.lean ====
section
/-!
DEFINITION. The health ledger as firmware writes it (R388 to R391), and the MAILBOX messages (R482 to R484, R489).
-/
namespace Sys2Proof.Machine

/-! ## Ledger records (R388) -/

/-- R388: the 32 bytes of a record. -/
def Record.bytes (x : Record) : List Byte :=
  let b := leBytes 4 x.seq.toNat ++ leBytes 6 x.sec ++ leBytes 1 x.kind ++ leBytes 1 (b2n x.trace)
    ++ leBytes 4 x.unit.toNat ++ leBytes 4 x.old.toNat ++ leBytes 4 x.new.toNat ++ leBytes 4 0
  b ++ leBytes 4 (foldedCrc (x.seq.toNat * 2 ^ 32 + 0x41) b).toNat

namespace State

/-- R388: a record as it is programmed now, after `skip` failed slots. -/
def program (x : Record) (skip : Nat) (s : State) : State :=
  let y : Record := { x with
    seq := s.cal.seq, sec := s.mer.time / 16777216 / 1000000000 % 2 ^ 48, trace := s.mer.trace }
  s.onCal fun c => { c with ledger := c.ledger ++ [y], slots := c.slots + skip + 1, seq := c.seq + 1, trail := false }

/-- R36, R386, R406: what depends on a record, once it has been appended. -/
def recordEffect (x : Record) (s : State) : State :=
  let old := x.old.toNat
  let new := x.new.toNat
  match x.kind with
  | 0x01 => match fin? 68 old with
    | some i => s.onEngineU i fun e => { e with out := true }
    | none => s
  | 0x02 => (s.onExp fun e => { e with laneOut := (x.unit.toNat :: e.laneOut).eraseDups }).holdLanes
  | 0x04 => match fin? 64 old with
    | some c => s.onChan c fun q => { q with out := true }
    | none => s
  | 0x07 => match fin? 5 new with
    | some c => s.onSys fun y => { y with cores := y.cores.set c.1 .active c.2 }
    | none => s
  | 0x08 => match fin? 8 x.unit.toNat with
    | some k => s.noteChange k new 65536
    | none => s
  | 0x09 => match fin? 8 x.unit.toNat with
    | some k => s.noteChange k old 65536
    | none => s
  | 0x0A => match fin? 8 x.unit.toNat with
    | some k => s.noteChange k old new
    | none => s
  | _ => s

/-- R389: a swap whose record could not be appended is not made: the setting goes back to what the last run used. -/
def undoSwap (x : Record) (s : State) : State :=
  let unit := x.unit.toNat
  match x.kind with
  | 0x01 => s.putField (aSeAssign (unit / 8) + 4 * (unit % 8 / 4)) (8 * (unit % 4)) 7 x.old.toNat
  | 0x02 =>
    let m := (s.exp.prevLanes.getD []).foldl (fun m l => m + 2 ^ l) 0
    (s.wrN (aDcmp 0) (m % 2 ^ 32)).wrN (aDcmp 4) (m / 2 ^ 32)
  | 0x03 =>
    if s.fld (aAbr unit 0) 25 24 = 2 then s.putField (aAbr unit 0) 24 2 x.old.toNat
    else s.putField (aAbr unit 0) 26 2 x.old.toNat
  | 0x04 => s.forEach ((List.range 60).filter fun i => decide ((s.chmap i).1 = x.new.toNat)) fun i =>
      putField (aSpl (0x40 + 4 * (i / 5))) (6 * (i % 5)) 6 x.old.toNat
  | _ => s

/-- R389: the oldest record that firmware has to append: in the next slot, or in the one after it; when both fail, no
change is made. -/
def appendNext (firstOk secondOk : Bool) (s : State) : State :=
  match s.cal.pending with
  | [] => s
  | x :: rest =>
    let t := s.onCal fun c => { c with pending := rest }
    let room := fun n => decide (s.cal.slots + n ≤ s.halfSlots)
    if firstOk && room 1 then ((t.program x 0).recordEffect x).compactLedger
    else if secondOk && room 2 then ((t.program x 1).recordEffect x).compactLedger
    else (t.onCal fun c => { c with slots := min s.halfSlots (c.slots + 2), trail := true }).undoSwap x |>.errorUnit 0x0C06 .c unitNone 0 0x10

/-- R60: firmware drives XSPI_RESET_n low to recover a hung flash, and high again before it accesses it. -/
def recoverFlash (s : State) : State := (s.emit (.xspiReset false)).emit (.xspiReset true)

/-! ## MAILBOX (R482, R483) -/

/-- The fields of a MAILBOX entry. -/
def mbMsg (e : Entry) : Nat := fieldAt e 24 2
def mbArg0 (e : Entry) : Nat := fieldAt e 28 4
def mbArg1 (e : Entry) : Nat := fieldAt e 32 8
def mbLen (e : Entry) : Nat := fieldAt e 4 4

/-- R482: the form of a MAILBOX entry. -/
def formMailbox (e : Entry) : Bool :=
  fieldsOnly e [(4, 12), (24, 2), (28, 12)] && decide (mbLen e ≤ 16777216) && (decide (mbLen e ≠ 0) || decide (fieldAt e 8 8 = 0))

/-- R478, R479: the physical core that serves logical core `l`. -/
def physCore (s : State) (l : Fin 4) : Nat := if s.sys.cores[l.1] = .active then l.1 else 4

/-- R472: a message has been served. -/
def served (s : State) : State := s.count (7 * 64 + 8 * s.physCore 0 + 3) 1

/-- R483: the message fails with a cause, and nothing changes. -/
def mbFail (r : RingIx) (e : Entry) (cause : Nat) (s : State) : State :=
  s.served.complete r e 0x1103 (infoUnit unitNone) (BitVec.ofNat 48 (cause * 2 ^ 32)) 0x16

/-- R482: the message succeeds with a value and a reply. -/
def mbDone (r : RingIx) (e : Entry) (value : Nat) (reply : List Byte) (s : State) : State :=
  let t := if reply.isEmpty then s
    else s.hostStore (entryNs e) (fieldAt e 8 8) reply
  t.served.complete r e 0 (BitVec.ofNat 64 value) (BitVec.ofNat 48 reply.length) 0x16

/-- R483: a message with no reply bytes, with its argument and its state condition; the first cause that applies stands. -/
def mbRun (r : RingIx) (e : Entry) (args cond : Bool) (body : State → State) (value : State → Nat) (s : State) : State :=
  if !args then s.mbFail r e 2
  else if !cond then s.mbFail r e 4
  else
    let t := body s
    t.mbDone r e (value t) []

/-- R483: a message that answers with bytes. -/
def mbReply (r : RingIx) (e : Entry) (args : Bool) (reply : List Byte) (s : State) : State :=
  if !args then s.mbFail r e 2
  else if mbLen e < reply.length then s.mbFail r e 3
  else if !reply.isEmpty && !s.linkOk then s.served.fail r e 0x0104 2
  else s.mbDone r e 0 reply

/-- Run a MAILBOX entry of a ring whose MSG is `msg`; one whose MSG is unknown fails with cause 1. -/
def mailbox (msg : Nat) (body : RingIx → Entry → State → State) (r : RingIx) (s : State) : State :=
  s.runEntry r (fun e => decide (opcode e = 0x0B) && (decide (mbMsg e = msg) || decide (mbMsg e = 0 ∨ 7 < mbMsg e))) formMailbox
    fun e t => if mbMsg e = msg then body r e (t.begin r) else (t.begin r).mbFail r e 1

/-- R30: the whole engine is stopped. -/
def engStopped (s : State) : Bool := !s.engRuns && !s.fns.eng.busy

/-- R391: a Cleared record of a kind and a unit is appended. -/
def clearLedger (kind unit : Nat) (s : State) : State :=
  (s.program ⟨0, 0, 0x0D, false, BitVec.ofNat 32 kind, BitVec.ofNat 32 unit, 0⟩ 0).compactLedger

/-- R391, R483: the arguments of LEDGER_CLEAR. -/
def clearArgs (e : Entry) : Bool :=
  (decide (1 ≤ mbArg0 e ∧ mbArg0 e ≤ 0x0D) || decide (mbArg0 e = 0xFF)) && decide (mbArg1 e < 2 ^ 32)

/-- R483, R485: the reply of VERSION. -/
def versionInfo (s : State) : Nat := s.sys.imgVer % 2 ^ 32 + s.sys.imgSvn % 256 * 2 ^ 32 + s.sys.fuses % 256 * 2 ^ 40

/-- R175, R483: HEALTH_SNAPSHOT. -/
def snapshot (r : RingIx) (e : Entry) (s : State) : State :=
  let l := mbArg0 e
  s.useFree.mbReply r e (decide (1 ≤ l ∧ l ≤ 9) && decide (mbArg1 e = 0))
    (deflate (Config.snapshotBytes s.free) l (decide (s.sys.svc ≠ 1)))

end State

/-! ## The commands -/

/-- R36, R60, R389: firmware programs its next record, and restarts that waited for it take effect;
`hung` tells that the flash hung and is recovered first. -/
def execLedgerAppend (hung : Bool) (reads : SlotReads) (s : State) : Result :=
  .next (if s.sys.held.isEmpty && decide (s.sys.stage = 4) then
    (s.when (hung && !s.cal.pending.isEmpty) State.recoverFlash).appendNext reads.first reads.second |>.resumeRestarts else s)

/-- R483: VERSION. -/
def execVersion (r : RingIx) (s : State) : Result :=
  .next (s.mailbox 1 (fun r e t => t.mbRun r e (decide (State.mbArg0 e = 0 ∧ State.mbArg1 e = 0)) true id State.versionInfo) r)

/-- R391, R483: LEDGER_CLEAR. -/
def execLedgerClear (r : RingIx) (s : State) : Result :=
  .next (s.mailbox 2 (fun r e t => t.mbRun r e (State.clearArgs e) t.engStopped
    (State.clearLedger (State.mbArg0 e) (State.mbArg1 e)) (fun _ => 0)) r)

/-- R483: LEDGER_READ. -/
def execLedgerRead (r : RingIx) (s : State) : Result :=
  .next (s.mailbox 3 (fun r e t => t.mbReply r e (decide (State.mbArg0 e = 0 ∧ State.mbArg1 e = 0))
    (t.cal.ledger.flatMap Record.bytes)) r)

/-- R483: HEALTH_SNAPSHOT. -/
def execHealthSnapshot (r : RingIx) (s : State) : Result :=
  .next (s.mailbox 4 State.snapshot r)

/-- R484: SERVICE_STATE. -/
def execServiceState (r : RingIx) (s : State) : Result :=
  .next (s.mailbox 5 (fun r e t => t.mbRun r e
    (decide (State.mbArg0 e = 1 ∨ State.mbArg0 e = 2) && decide (State.mbArg1 e = 0)) t.engStopped
    (fun u => u.onSys fun y => { y with svc := State.mbArg0 e }) (fun _ => 0)) r)

/-- R489: ROLLBACK_COMMIT. -/
def execRollbackCommit (r : RingIx) (s : State) : Result :=
  .next (s.mailbox 6 (fun r e t => t.mbRun r e (decide (State.mbArg0 e = 0 ∧ State.mbArg1 e = 0)) t.engStopped
    (fun u => u.onSys fun y => { y with fuses := max y.fuses y.imgSvn }) (fun u => u.sys.fuses)) r)

/-- R483: ECHO. -/
def execEcho (r : RingIx) (s : State) : Result :=
  .next (s.mailbox 7 (fun r e t => t.mbRun r e (decide (State.mbArg0 e = 0)) true id (fun _ => State.mbArg1 e)) r)

end Sys2Proof.Machine
end

