-- ==== Sys2Proof/Machine/Counters.lean ====
section
/-!
DEFINITION. The wrap of a performance counter and its samples (R471, R475 to R477), and the windows of the bandwidth
monitors (R473, R474).
-/
namespace Sys2Proof.Machine
namespace State

/-- R475, R477: a sample is lost. -/
def loseSample (s : State) : State := s.onPmc fun p => { p with lost := sat32 (p.lost + 1) }

/-- R471, R475: counter n passes 2^48 − 1. -/
def wrapCounter (n : Fin 64) (s : State) : State :=
  let sample := s.fbit (aPmcCtr n.1 0) 29
  let start := if sample then s.rd64 (aPmcCtr n.1 0x10) % 2 ^ 48 else 0
  let again := sample && s.pmc.ctr[n].sample
  let t := (s.setW1c (aPmcCtr n.1 0) 26).onCounter n fun c => { c with
    value := start + (c.value - 2 ^ 48), ovf := true, sample := c.sample || sample
    stamp := if sample && !c.sample then s.mer.time else c.stamp }
  if again then t.loseSample else t

/-- R471: the value that a counter reads. -/
def counterValue (s : State) (n : Fin 64) : Nat := s.pmc.ctr[n].value % 2 ^ 48

/-- R476: the SAMPLE event of counter n. -/
def sampleEvent (s : State) (n : Fin 64) (offset : Word) (task : BitVec 16) (skid : Nat) : Event :=
  let core := s.fld (aPmcCtr n.1 0) 28 27
  ⟨0, .sample, 0, 0,
    BitVec.ofNat 64 (offset.toNat + task.toNat * 2 ^ 32 + n.1 * 2 ^ 48 + core * 2 ^ 54 + skid * 2 ^ 56),
    s.pmc.ctr[n].stamp, BitVec.ofNat 48 (s.counterValue (n + 1)), 0x16, .none, none⟩

/-- R476, R477: the core has taken the sample of counter n: its event is written, or it is dropped. -/
def takeSample (n : Fin 64) (offset : Word) (task : BitVec 16) (skid : Nat) (s : State) : State :=
  let core : Fin 4 := ⟨s.fld (aPmcCtr n.1 0) 28 27 % 4, Nat.mod_lt _ (by decide)⟩
  let t := (s.onCounter n fun c => { c with sample := false }).count (7 * 64 + 8 * s.physCore core + 5) 1
  match fin? 128 (s.fld (aPmc 0) 6 0) with
  | none => t.loseSample
  | some r =>
    if r.1 = 0 ∨ s.hif.rings[r].state ≠ .active ∨ s.eqFull r then t.loseSample
    else t.writeEvent r (s.sampleEvent n offset task skid)

/-- R474: the window of a monitor ends. -/
def endWindow (m : Fin 16) (s : State) : State :=
  s.onMonitor m fun b =>
    let n := sat32 (b.count / 64)
    { b with count := 0, last := n, peak := max b.peak n }

end State

/-! ## The commands -/

/-- R471: a counter wraps. -/
def execPmcCounterWrap (n : Fin 64) (s : State) : Result :=
  .next (if 2 ^ 48 ≤ s.pmc.ctr[n].value then s.wrapCounter n else s)

/-- R475 to R477: a core takes the sample interrupt of counter n. -/
def execPmcSampleTaken (n : Fin 64) (offset : Word) (task : BitVec 16) (skid : Fin 33) (s : State) : Result :=
  .next (if s.up && s.pmc.ctr[n].sample then s.takeSample n offset task skid.1 else s)

/-- R474: a monitor's window ends on the CLK_TIME grid. -/
def execBwWindowEnd (m : Fin 16) (s : State) : Result :=
  .next (if s.up && s.fbit (aPmcBw m.1 0) 31 && !s.fbit (aPmc 0) 31 then s.endWindow m else s)

end Sys2Proof.Machine
end

