-- ==== Sys2Proof/Machine/Ethernet.lean ====
section
/-!
DEFINITION. The Ethernet ports and band transport (R420 to R430): the DATA messages and their trackers, the NAKs,
firmware's frames, and the loss and return of a port's link.
-/
namespace Sys2Proof.Machine

/-! ## DATA messages (R423, R424) -/

/-- The fields of a message. -/
def btKey (m : List Byte) : BandKey := ⟨leAt m 4 2, leAt m 6 1 % 16, leAt m 8 4⟩
def btFrag (m : List Byte) : Nat := leAt m 12 2
def btCount (m : List Byte) : Nat := leAt m 14 2
def btOffset (m : List Byte) : Nat := leAt m 16 4
def btTotal (m : List Byte) : Nat := leAt m 20 4
def btStride (m : List Byte) : Nat := leAt m 24 2

/-- R423: a DATA message meets the rules on its header and its length. -/
def btForm (m : List Byte) : Bool :=
  let n := btCount m
  let last := btTotal m - (n - 1) * btStride m
  decide (32 ≤ m.length) && decide (leAt m 0 2 = 0xB75A) && decide (leAt m 2 1 = 1) && decide (leAt m 3 1 = 1)
    && decide (leAt m 6 1 < 16) && decide (leAt m 7 1 = 0) && decide (1 ≤ n ∧ n ≤ 4096) && decide (btFrag m < n)
    && decide (256 ≤ btStride m ∧ btStride m ≤ 8960 ∧ btStride m % 64 = 0) && decide (leAt m 26 2 = 0)
    && decide (btOffset m = btFrag m * btStride m) && decide (btTotal m % 64 = 0 ∧ 128 ≤ btTotal m)
    && decide ((n - 1) * btStride m ≤ btTotal m) && decide (64 ≤ last ∧ last ≤ btStride m)
    && decide (m.length = 32 + if btFrag m + 1 = n then last else btStride m)

/-- R424: the folded CRC of a DATA message agrees. -/
def btCrcOk (m : List Byte) : Bool :=
  decide (foldedCrc (State.btContext (btKey m) (btFrag m)) (slice m 0 28 ++ m.drop 32) = BitVec.ofNat 32 (leAt m 28 4))

/-- The source is an IPv6 address and a UDP port. -/
def isV6 (source : Nat) : Bool := decide (2 ^ 48 ≤ source)

/-- The bytes of the frame that carries a message of `n` bytes, from destination address to FCS. -/
def btFrame (vlan : Bool) (source n : Nat) : Nat := n + (if isV6 source then 66 else 46) + if vlan then 4 else 0

namespace State

/-! ## Ports (R421, R423) -/

/-- R421, R423: band-transport datagrams of this protocol are accepted on the port. -/
def btOpen (s : State) (p : EthIx) (source : Nat) : Bool :=
  s.up && s.eth.port[p].link && s.fbit (aEthPort p.1 0) 31 && s.fbit (aEthPort p.1 0) 24 &&
    (if isV6 source then
      (List.range 4).any fun i => decide (s.rdN (aEthPort p.1 (0x10 + 4 * i)) ≠ 0)
    else decide (s.rdN (aEthPort p.1 0xC) ≠ 0))

/-- R428: a discard is counted. -/
def btDrop (p : EthIx) (g : EthPort → EthPort) (s : State) : State := (s.onEthPort p g).count (5 * 64 + 20 + p.1) 1

/-- R428: the four counts of discards. -/
def dropFormat (p : EthIx) : State → State := btDrop p fun e => { e with format := satTo 255 (e.format + 1) }
def dropCrc (p : EthIx) : State → State := btDrop p fun e => { e with crc := satTo 255 (e.crc + 1) }
def dropNoSpace (p : EthIx) : State → State := btDrop p fun e => { e with noSpace := satTo 255 (e.noSpace + 1) }
def dropDup (p : EthIx) : State → State := btDrop p fun e => { e with dup := satTo 255 (e.dup + 1) }

/-! ## Trackers (R425, R426) -/

/-- The tracker of a key. -/
def tracker? (s : State) (key : BandKey) : Option Tracker := s.eth.trackers.find? fun t => decide (t.key = key)

/-- Change the tracker of a key. -/
def onTracker (key : BandKey) (g : Tracker → Tracker) (s : State) : State :=
  s.onEth fun e => { e with trackers := mapFirst (fun t => decide (t.key = key)) g e.trackers }

/-- R425: a RESULT that refuses a key, at most once per GAP. -/
def btAnswer (p : EthIx) (source : Nat) (key : BandKey) (code : Code) (s : State) : State :=
  if s.eth.answered.contains key then s
  else (s.onEth fun e => { e with answered := e.answered ++ [key] }).btResult p source key code

/-- R134, R425: TOTAL_LEN is reserved at the write pointer, and a tracker opens. -/
def openTracker (p : EthIx) (source : Nat) (m : List Byte) (s : State) : State :=
  let t : Tracker := ⟨btKey m, btTotal m, btStride m, btCount m, s.job.wr, [], p, source, 0⟩
  (s.reserve .transport (btTotal m)).onEth fun e => { e with trackers := e.trackers ++ [t] }

/-- R425, R426: a fragment of a tracker is written; the last one lands the container. -/
def writeFragment (p : EthIx) (source : Nat) (m : List Byte) (t : Tracker) (s : State) : State :=
  let s := s.onTracker t.key fun x => { x with port := p, source := source }
  if t.bits.contains (btFrag m) then s.dropDup p
  else
    let w := s.ringPut 0 (t.pos + btOffset m / 64) (m.drop 32)
    if !w.2 then w.1
    else
      let u := (w.1.onTracker t.key fun x => { x with bits := insertBy id (btFrag m) x.bits, naks := 0 }).count
        (5 * 64 + 18 + p.1) 1
      match u.tracker? t.key with
      | some x => if x.bits.length = x.count then u.landTransport x else u
      | none => u

/-- R425: a DATA message is handled by the first row of the table that matches. -/
def btData (p : EthIx) (source : Nat) (m : List Byte) (s : State) : State :=
  let key := btKey m
  if s.sys.lpCur = 2 then s.dropNoSpace p
  else if !btForm m then s.dropFormat p
  else if !btCrcOk m then s.dropCrc p
  else if (s.band? key).isSome then (s.dropDup p).btAnswer p source key 0x0204
  else if !s.planeOpen key.job key.plane then (s.dropFormat p).btAnswer p source key 0x0203
  else match s.tracker? key with
    | some t =>
      if t.total ≠ btTotal m ∨ t.stride ≠ btStride m ∨ t.count ≠ btCount m then s.dropFormat p
      else s.writeFragment p source m t
    | none =>
      if 256 ≤ s.eth.trackers.length then s.dropNoSpace p
      else
        let s := s.makeRoom (btTotal m)
        if s.ringFree < (btTotal m + 63) / 64 then s.dropNoSpace p
        else
          let u := s.openTracker p source m
          match u.tracker? key with
          | some t => u.writeFragment p source m t
          | none => u

/-! ## NAKs (R427) -/

/-- The fragments that a tracker still misses, ascending. -/
def missing (t : Tracker) : List Nat := (List.range t.count).filter fun i => !t.bits.contains i

/-- R427: the 128-byte bitmap of a NAK. -/
def nakBitmap (l : List Nat) (base : Nat) : List Byte :=
  (List.range 128).map fun k =>
    BitVec.ofNat 8 ((List.range 8).foldl (fun v i => v + if l.contains (base + 8 * k + i) then 2 ^ i else 0) 0)

/-- R427: a NAK of a tracker. -/
def sendNak (t : Tracker) (s : State) : State :=
  let l := missing t
  let base := l.headD 0 / 8 * 8
  ((s.emit (.ethMessage t.port t.source (btMessage 2 t.key base l.length 0 (nakBitmap l base)))).count (5 * 64 + 22) 1).onTracker
    t.key fun x => { x with naks := x.naks + 1 }

/-- R427: the tracker is abandoned. -/
def abandon (t : Tracker) (s : State) : State :=
  let u := (s.setSpan t.pos .dead).onEth fun e => { e with trackers := e.trackers.filter fun x => decide (x.key ≠ t.key) }
  (u.errorUnit 0x0E01 .c unitNone 0 0x12).btResult t.port t.source t.key 0x0E01

/-- R427: GAP has passed with no fragment for a key: a NAK, or the end of the tracker; a key without one may be answered
again (R425). -/
def btGap (key : BandKey) (s : State) : State :=
  match s.tracker? key with
  | none => s.onEth fun e => { e with answered := e.answered.filter fun k => decide (k ≠ key) }
  | some t => if s.fld aEthBt 7 4 ≤ t.naks then s.abandon t else s.sendNak t

end State

/-! ## The commands -/

/-- R420, R423 to R426: a datagram to UDP_PORT arrives, in a frame that is padded to 64 bytes; `source` is the sender's address and UDP port. -/
def execBtDataRx (p : EthIx) (source : BitVec 144) (msg : List Byte) (s : State) : Result :=
  let len := btFrame (s.fbit (aEthPort p.1 0) 25) source.toNat msg.length
  .next (if s.btOpen p source.toNat && decide (len ≤ 9216) then (s.frameIn p (max 64 len)).btData p source.toNat msg else s)

/-- R427: GAP has passed since the key's latest fragment, its latest NAK, or its latest RESULT. -/
def execBtGapTimeout (job : BitVec 16) (plane : Fin 16) (band : BitVec 32) (s : State) : Result :=
  .next (if s.up then s.btGap ⟨job.toNat, plane.1, band.toNat⟩ else s)

/-- R422: a frame for firmware arrives, within the rate of 10,000 per second or beyond it. -/
def execFirmwareFrameRx (p : EthIx) (withinRate : Bool) (len : Nat) (s : State) : Result :=
  if !(s.up && s.eth.port[p].link && macAccepts len) then .next s
  else if withinRate then .next ((s.frameIn p len).emit (.firmware (.frame p)))
  else .next (s.onEthPort p fun e => { e with fwDrop := e.fwDrop + 1 })

/-- R430: a port's link is lost; on the PTP port that acts as Announce loss. -/
def execEthLinkLoss (p : EthIx) (s : State) : Result :=
  if !(s.up && s.fbit (aEthPort p.1 0) 31) then .next s
  else
    let t := (s.onEthPort p fun e => { e with link := false, modeUp := 0, loss := satTo 65535 (e.loss + 1) }).errorUnit 0x0E03 .c unitNone 0 0x12
    .next (if t.ptpOn && decide (p = t.ptpPort) then t.annLoss else t)

/-- R430: firmware has brought a port's link up, in the mode of its settings. -/
def execEthLinkUp (p : EthIx) (s : State) : Result :=
  .next (if s.up && s.fbit (aEthPort p.1 0) 31 then
    s.onEthPort p fun e => { e with link := true, modeUp := s.fld (aEthPort p.1 0) 30 28 }
  else s)

/-- R428: a read of ETH_BT_CNTp answers the counts and clears them. -/
def execEthBtCntRead (p : EthIx) (s : State) : Result :=
  .next (if s.hostUp then
    let e := s.eth.port[p]
    (s.onEthPort p fun e => { e with crc := 0, format := 0, noSpace := 0, dup := 0 }).reply
      (BitVec.ofNat 32 (e.crc * 2 ^ 24 + e.format * 2 ^ 16 + e.noSpace * 2 ^ 8 + e.dup))
  else s)

end Sys2Proof.Machine
end

