-- ==== Sys2Proof/Machine/Patches.lean ====
section
/-!
DEFINITION. Variable-data patches (R185 to R188) and the overlay port (R440 to R449): the patch store and
its OVERLAY_PATCH entries, the input words and the FIFO, the items, their losses, and the flush.
-/
namespace Sys2Proof.Machine

/-! ## The rectangle (R185) -/

/-- The fields of a patch: LENGTH, SHEET_ID, FIRST_ROW, BAR, ROWS, FIRST_COL, COLS_M1, PMODE. -/
structure PatchHead where
  length   : Nat
  sheet    : Nat
  firstRow : Nat
  bar      : Nat
  rows     : Nat
  firstCol : Nat
  colsM1   : Nat
  pmode    : Nat
  deriving DecidableEq, Repr

namespace PatchHead

/-- Bytes of one sample as delivered. -/
def size (h : PatchHead) : Nat := 1 + bits h.pmode 1 1

/-- R185: every field within its rule, and LENGTH equal to the payload. -/
def sound (h : PatchHead) : Bool :=
  decide (1 ≤ h.length ∧ h.length ≤ 4194304) && decide (h.bar < 8) && decide (1 ≤ h.rows)
    && decide (h.firstCol + h.colsM1 ≤ 65535) && decide (h.pmode < 4)
    && decide (h.length = h.rows * (h.colsM1 + 1) * h.size)

/-- R186: the context word of a payload's check; `kind` is 0x22 for an entry and 0x23 for an item. -/
def context (h : PatchHead) (kind : Nat) : Nat := h.sheet * 2 ^ 32 + h.firstRow * 2 ^ 8 + kind

/-- R183, R185: the payload's samples, widened. -/
def samples (h : PatchHead) (bs : List Byte) : List Nat :=
  (List.range (h.rows * (h.colsM1 + 1))).map fun i =>
    if h.size = 2 then take16 (leAt bs (2 * i) 2) else widen8 (leAt bs i 1)

/-- The patch that a sound head and its payload make. -/
def patch (h : PatchHead) (k : BarIx) (bs : List Byte) : Patch :=
  { sheet := BitVec.ofNat 32 h.sheet, firstRow := h.firstRow, bar := k, rows := h.rows, firstCol := h.firstCol
    cols := h.colsM1 + 1, overprint := bit h.pmode 0, samples := h.samples bs, bytes := h.length }

end PatchHead

/-- R185: the fields of an OVERLAY_PATCH entry. -/
def entryHead (e : Entry) : PatchHead :=
  ⟨fieldAt e 4 4, fieldAt e 24 4, fieldAt e 28 3, fieldAt e 31 1, fieldAt e 32 2, fieldAt e 34 2, fieldAt e 36 2, fieldAt e 38 1⟩

/-- R442: the fields of an item's header. -/
def itemHead (h : List Byte) : PatchHead :=
  ⟨leAt h 20 4, leAt h 4 4, leAt h 8 3, leAt h 3 1, leAt h 12 2, leAt h 14 2, leAt h 16 2, leAt h 2 1⟩

/-- R442: a header whose MAGIC, reserved bytes and fields are right. -/
def itemSound (h : List Byte) : Bool :=
  decide (leAt h 0 2 = 0x4F56) && decide (leAt h 11 1 = 0) && decide (leAt h 18 2 = 0) && decide (leAt h 24 4 = 0)
    && (itemHead h).sound

/-- R442: bytes of an item after its header: the payload, padded to even. -/
def itemRest (h : List Byte) : Nat := leAt h 20 4 + leAt h 20 4 % 2

/-- R442: an item is intact but for its order. -/
def itemWhole (bs : List Byte) : Bool :=
  decide (32 ≤ bs.length) && itemSound bs && decide (bs.length = 32 + itemRest bs)
    && decide (foldedCrc ((itemHead bs).context 0x23) (slice bs 0 28 ++ slice bs 32 (leAt bs 20 4))
      = BitVec.ofNat 32 (leAt bs 28 4))

namespace State

/-! ## The patch store (R187, R188) -/

/-- R443: the payload bytes that the item being read out moves into the store, none for no sound item. -/
def itemHeld (s : State) : Option Nat :=
  if s.ovl.partOk && decide (32 ≤ s.ovl.part.length) && itemSound s.ovl.part then some (leAt s.ovl.part 20 4) else none

/-- R187: the patch store has room for one more patch of `n` bytes. -/
def patchRoom (s : State) (n : Nat) : Bool :=
  decide (s.se.patches.length + b2n s.itemHeld.isSome + 1 ≤ 1024)
    && decide ((s.se.patches.map (·.bytes)).sum + s.itemHeld.getD 0 + n ≤ 8388608)

/-- R188: the bar has computed row FIRST_ROW of the sheet, or the sheet is neither queued nor yet to be queued. -/
def patchLate (s : State) (q : Patch) : Bool :=
  match s.sheet? q.sheet with
  | some sh => decide (q.firstRow < sh.computed[q.bar])
  | none => match s.job.lastId with
    | none => false
    | some l => !afterMod 32 q.sheet.toNat l.toNat

/-- R188: a patch enters the store; a part beyond ROWS of a queued sheet is counted. -/
def storePatch (q : Patch) (s : State) : State :=
  let clip := match s.sheet? q.sheet with
    | some sh => decide (sh.rows < q.firstRow + q.rows)
    | none => false
  s.onSe fun u => { u with patches := u.patches ++ [q], clipped := u.clipped + b2n clip }

/-- R188: a late patch is discarded, and its sheet prints without it. -/
def latePatch (q : Patch) (s : State) : State :=
  s.sheetError 0x0401 .s q.sheet q.firstRow (unitBar q.bar) 0 8

/-- R154, R187, R188: an OVERLAY_PATCH whose payload is there enters the store, is discarded, or waits. -/
def offerPatch (r : RingIx) (e : Entry) (q : Patch) (s : State) : State :=
  if !s.ovlOn then s.failBulk r e 0x020A 5
  else if s.patchLate q then (s.latePatch q).failBulk r e 0x0401 8
  else if s.patchRoom q.bytes then (s.storePatch q).doneBulk r e 0 0 8
  else s.onSe fun u => { u with ringPatch := u.ringPatch ++ [(r, e, q)] }

/-- R111, R154, R185, R186: OVERLAY_PATCH of a well-formed entry. -/
def overlayPatch (r : RingIx) (e : Entry) (payload : Payload) (s : State) : State :=
  let h := entryHead e
  let bs := slice payload.bytes 0 h.length
  if !s.ovlOn then s.failBulk r e 0x020A 5
  else if !s.linkOk then s.failBulk r e 0x0104 2
  else
    let t := (((s.hostLoad (entryNs e) (fieldAt e 8 8) h.length).hostIn h.length).count (5 * 64 + 4) 1).when payload.unitFault
      crcUnitFault
    if foldedCrc (h.context 0x22) bs ≠ BitVec.ofNat 32 (fieldAt e 56 4) then t.failBulk r e 0x0103 8
    else match fin? 8 h.bar with
      | some k => t.offerPatch r e (h.patch k bs)
      | none => t

/-- R187: the waiting patch of a ring is offered again. -/
def retryPatch (r : RingIx) (s : State) : State :=
  match s.se.ringPatch.find? fun w => decide (w.1 = r) with
  | none => s
  | some w => (s.onSe fun u => { u with ringPatch := dropFirst (fun x => decide (x = w)) u.ringPatch }).offerPatch w.1 w.2.1 w.2.2

/-! ## AUX_HOLD (R441, R444) -/

/-- R441: the level of AUX_HOLD. -/
def auxHold (s : State) : Bool :=
  !s.up || !s.fbit (aOvl 0) 31 || !s.ovlOn || s.ovl.flushing || s.ovl.hold

/-- R444: the hysteresis follows OCC. -/
def settleHold (s : State) : State :=
  s.onOvl fun o => { o with
    hold := if o.high ≤ o.fifo.length then true else if o.fifo.length ≤ o.low then false else o.hold }

/-- An operation of the overlay port, with the rising edge of AUX_HOLD counted (R472). -/
def watchHold (f : State → State) (s : State) : State :=
  let t := f s
  t.rise (6 * 64 + 35) (!s.auxHold && t.auxHold)

/-! ## Losses (R448) -/

/-- R448: a bar has begun the sheet: it has computed a row of it. -/
def overlayBegun (sh : Sheet) : Bool := sh.started || (all 8).any fun k => decide (0 < sh.computed[k])

/-- Mark unfinished sheets as reject with E_OVERLAY_LOST. -/
def overlayReject (l : List Sheet) (s : State) : State :=
  s.forEach l fun sh => sheetError 0x0F0A .s sh.id 0 unitNone 0 0x14

/-- R448: a loss. -/
def overlayLoss (s : State) : State :=
  let l := s.job.sheets.filter fun sh => s.sinceLast sh.id && overlayBegun sh
  let t := s.onOvl fun o => { o with lost := true }
  if l.isEmpty then t.errorUnit 0x0F0A .c unitNone 0 0x14 else t.overlayReject l

/-- R445, R448: an item is discarded and counted; that is a loss. -/
def badItem (code : Code) (s : State) : State :=
  ((s.onOvl fun o => { o with bad := satTo 255 (o.bad + 1), part := [], partOk := false }).errorUnit code .c unitNone 0
    0x14).overlayLoss

/-- R448: an intact item ends a loss: the sheets from s_last to its own are marked. -/
def endLoss (id : BitVec 32) (s : State) : State :=
  let l := s.job.sheets.filter fun sh => s.sinceLast sh.id && (decide (sh.id = id) || afterMod 32 id.toNat sh.id.toNat)
  let t := if s.ovl.lost then (s.onOvl fun o => { o with lost := false }).overlayReject l else s
  t.onOvl fun o => { o with lastSheet := some id }

/-! ## Input (R440, R443, R445) -/

/-- The port takes input words: it is enabled, overlay is on, and no flush runs. -/
def overlayOpen (s : State) : Bool := s.up && s.fbit (aOvl 0) 31 && s.ovlOn && !s.ovl.flushing

end State

namespace Overlay

/-- The FIFO word being packed is committed. -/
def commit (last : Bool) (o : Overlay) : Overlay :=
  { o with
    fifo := o.fifo ++ [⟨slice o.inWord 0 32, o.inSoi && decide (o.inItem = some 0), last, some o.inWord.length, none⟩]
    inWord := [], inItem := o.inItem.map (· + 1) }

/-- Change the newest stored word. -/
def onNewest (g : FifoWord → FifoWord) (o : Overlay) : Overlay :=
  { o with fifo := o.fifo.dropLast ++ (o.fifo.getLast?.toList.map g) }

/-- No item is being received. -/
def closed (o : Overlay) : Overlay := { o with inWord := [], inItem := none, inSoi := false, inLeft := none }

/-- R443: the newest item ends: its last FIFO word is padded and tagged LAST. -/
def closeItem (o : Overlay) : Overlay :=
  match o.inItem with
  | none => o
  | some n =>
    if !o.inWord.isEmpty then (o.commit true).closed
    else if 0 < n then (o.onNewest fun w => { w with last := true }).closed
    else o.closed

/-- The words of the newest item that are still in the FIFO, counted from its end. -/
def itemTail (l : List FifoWord) (n : Nat) : Nat :=
  match n, l.reverse with
  | 0, _ => 0
  | n, r => min n (match r.findIdx? fun w => w.soi || w.gap.isSome with
      | some i => if (r[i]?.any fun w => w.gap.isSome) then i else i + 1
      | none => r.length)

/-- R445: the newest item is dropped in compatibility mode, and a gap marker stands for it. -/
def dropNewest (o : Overlay) : Overlay :=
  let kept := o.fifo.take (o.fifo.length - itemTail o.fifo (o.inItem.getD 0))
  let marked := match kept.getLast? with
    | some w => match w.gap with
      | some g => kept.dropLast ++ [{ w with gap := some (g + 1) }]
      | none => kept ++ [⟨[], false, false, none, some 1⟩]
    | none => [⟨[], false, false, none, some 1⟩]
  { o.closed with fifo := marked, gaps := satTo 255 (o.gaps + 1), ignore := true }

/-- R445: the newest item is cut in native mode. -/
def truncate (o : Overlay) : Overlay :=
  let t := if o.inItem.getD 0 = 0 then o else o.onNewest fun w => { w with last := true, valid := none }
  { t.closed with overrun := true, ignore := true }

/-- R445: the FIFO is full. -/
def fullAt (o : Overlay) : Bool := decide ((if o.compat then 2047 else 2048) ≤ o.fifo.length)

/-- R442, R443: a word joins the item being received; the item ends with the last byte that its header declares. -/
def pack (d : BitVec 16) (o : Overlay) : Overlay :=
  let o := { o with inWord := o.inWord ++ leBytes 2 d.toNat, inLeft := o.inLeft.map (· - 2) }
  if o.inLeft = some 0 then (o.commit true).closed
  else if o.inWord.length = 32 then
    let head := o.inSoi && decide (o.inItem = some 0) && itemSound o.inWord
    { o.commit false with inLeft := if head then some (itemRest o.inWord) else o.inLeft }
  else o

/-- A new item begins. -/
def openItem (soi : Bool) (o : Overlay) : Overlay :=
  if o.inItem.isNone then { o with inItem := some 0, inSoi := soi, inWord := [], inLeft := none, ignore := false } else o

end Overlay

namespace State

/-- The reader may take stored words. -/
def overlayReads (s : State) : Bool := s.up && s.ovlOn && !s.ovl.flushing

/-- R440, R443, R445: one input word. -/
def overlayWord (d : BitVec 16) (soi : Bool) (s : State) : State :=
  let t := (s.count (6 * 64 + 34) 1).onOvl fun o => if soi then { o.closeItem with ignore := false } else o
  if t.ovl.ignore then t
  else if t.ovl.fullAt then
    ((t.when (!t.ovl.compat) fun u => u.setW1c (aOvl 8) 28).onOvl fun o =>
      if o.compat then o.dropNewest else o.truncate).overlayLoss.settleHold
  else (t.onOvl fun o => (o.openItem soi).pack d).settleHold

/-! ## Flush (R446, R447) -/

/-- Some word is stored, be it of a partial item. -/
def overlayHolds (s : State) : Bool := !s.ovl.fifo.isEmpty || !s.ovl.inWord.isEmpty || !s.ovl.part.isEmpty

/-- R447: every stored word goes, the counters clear, and a flush runs. -/
def startFlush (s : State) : State :=
  let t := s.onOvl fun o => { o.closed with
    fifo := [], part := [], partOk := false, ignore := true, flushing := true, gaps := 0, bad := 0, hold := false }
  if s.overlayHolds then t.overlayLoss else t

/-- R446: the copies of a pointer disagree: the port's group resets as a flush does, which is a loss. -/
def pointerFault (s : State) : State :=
  let t := (s.errorUnit 0x0F07 .c unitNone 0 0x14).overlayLoss
  t.onOvl fun o => { o.closed with
    fifo := [], part := [], partOk := false, ignore := true, flushing := true, gaps := 0, bad := 0, hold := false }

/-- R407, R418: pending remaps of the overlay FIFO take effect. -/
def overlayRemaps (s : State) : State :=
  s.onSpl fun u => { u with groups := u.groups.map fun g => { g with
    remaps := g.remaps.map fun x => if x.pend && x.owner.isNone then { x with pend := false } else x } }

/-- R447: the SH fields of OVL_CFG are committed, or refused. -/
def commitOverlay (s : State) : State :=
  let high := s.fld (aOvl 0) 26 16
  let low := s.fld (aOvl 0) 10 0
  if 2044 < high ∨ high ≤ low then s.refuseWrite (aOvl 0) (s.rd (aOvl 0))
  else s.onOvl fun o => { o with compat := s.fbit (aOvl 0) 30, high := high, low := low }

/-- R447: a flush ends. -/
def endFlush (s : State) : State :=
  (s.commitOverlay.onOvl fun o => { o with flushing := false }).overlayRemaps

/-! ## The reader (R442, R443) -/

/-- R442, R187, R188: an item that has been read out whole. -/
def finishItem (s : State) : State :=
  let bs := s.ovl.part
  let id : BitVec 32 := BitVec.ofNat 32 (itemHead bs).sheet
  if !s.ovl.partOk || !itemWhole bs then s.badItem 0x0F08
  else if !s.sinceLast id then s.badItem 0x0F09
  else match fin? 8 (itemHead bs).bar with
    | none => s.badItem 0x0F08
    | some k =>
      let q := (itemHead bs).patch k (slice bs 32 (leAt bs 20 4))
      let t := (s.onOvl fun o => { o with part := [], partOk := false }).endLoss id
      if t.patchLate q then t.latePatch q else t.storePatch q

/-- A FIFO word leaves the FIFO for the item being read out. -/
def takeWord (w : FifoWord) (s : State) : State :=
  let t := s.onOvl fun o => { o with
    fifo := o.fifo.drop 1
    partOk := w.valid.isSome && (if o.part.isEmpty then w.soi else o.partOk)
    part := o.part ++ w.bytes.take (w.valid.getD 32) }
  if w.last then t.finishItem else t

/-- R443, R445, R187: the reader takes the oldest FIFO word; a header that finds no room stays. -/
def readWord (s : State) : State :=
  match s.ovl.fifo with
  | [] => s
  | w :: _ =>
    let t := if !s.ovl.part.isEmpty && (w.soi || w.gap.isSome) then s.badItem 0x0F08 else s
    if w.gap.isSome then (t.onOvl fun o => { o with fifo := o.fifo.drop 1 }).settleHold
    else if w.soi && itemSound w.bytes && !t.patchRoom (leAt w.bytes 20 4) then t
    else (t.takeWord w).settleHold

/-- R446: an uncorrectable FIFO word discards its item, which is a loss; which stored word it is, is free. -/
def lostWord (s : State) : State :=
  if s.ovl.fifo.isEmpty then s
  else
    let i := s.freeNat % s.ovl.fifo.length
    (s.useFree.onOvl fun o => { o with fifo := o.fifo.modify i fun w => { w with valid := none } }).overlayLoss

end State

/-! ## The commands -/

/-- R185, R189, R110: the form of an OVERLAY_PATCH entry. -/
def formOverlayPatch (e : Entry) : Bool := fieldsOnly e [(4, 12), (24, 15), (56, 4)] && (entryHead e).sound

/-- R185 to R188, R453: OVERLAY_PATCH. -/
def execOverlayPatch (r : RingIx) (payload : Payload) (s : State) : Result :=
  .next (s.runEntry r (fun e => decide (opcode e = 8)) formOverlayPatch fun e t =>
    t.withPool r e (State.overlayPatch r e payload))

/-- R187: a waiting patch enters the store once there is room, or is discarded as late. -/
def execPatchAccept (src : PatchSource) (s : State) : Result :=
  .next (if !s.up then s
  else match src with
    | .ring r => s.retryPatch r
    | .overlay => if s.overlayReads then s.watchHold State.readWord else s)

/-- R440, R443 to R446: an AUX_CLK sample with AUX_VAL high. -/
def execOverlayInputWord (d : BitVec 16) (soi mismatch : Bool) (s : State) : Result :=
  .next (if !s.overlayOpen then s
  else s.watchHold fun t => if mismatch then t.pointerFault else t.overlayWord d soi)

/-- R442, R443, R446: the reader takes one FIFO word. -/
def execOverlayItemRead (mismatch : Bool) (s : State) : Result :=
  .next (if !s.overlayReads then s
  else s.watchHold fun t => if mismatch then t.pointerFault else t.readWord)

/-- R447: a write of OVL_CTRL. -/
def execOvlFlush (v : Word) (s : State) : Result :=
  .next (if s.hostUp && bit v.toNat 31 && !s.ovl.flushing then (s.hostIn 4).watchHold State.startFlush else s)

/-- R447: a flush ends within 3 µs. -/
def execOvlFlushDone (s : State) : Result :=
  .next (if s.up && s.ovl.flushing then s.endFlush else s)

end Sys2Proof.Machine
end

