-- ==== Sys2Proof/Machine/Pins.lean ====
section
/-!
DEFINITION. The levels at the balls that the device drives, as the state makes them (R51, R54 to R56, R59 to R62, R78, R87,
R252, R328, R333, R348): an output is high-impedance in reset and unpowered, but for AUX_HOLD and XSPI_RESET_n, which a reset
drives, and the pins of Sidereal.
-/
namespace Sys2Proof.Machine

/-- The level at a ball as the device drives it. -/
inductive Level where
  | low | high | z
  deriving DecidableEq, Repr

/-- A driven level. -/
def Level.of (b : Bool) : Level := if b then .high else .low

namespace State

/-- An output that a reset leaves high-impedance (R51, R54, R55). -/
def pin (s : State) (b : Bool) : Level := if s.clear then .of b else .z

/-- An output that a reset drives to a level, unpowered high-impedance (R59). -/
def resetPin (s : State) (inReset b : Bool) : Level :=
  if !s.sys.mainRails then .z else .of (if s.clear then b else inReset)

/-- R51, R78: FIRE_P/N of a head port: high is active, and the pair is inactive between strobes. -/
def firePin (s : State) (p : PortIx) : Level := s.pin s.port[p].pair

/-- R252: HEAD_SAFE_n[k] is asserted. -/
def headSafe (s : State) (k : Fin 4) : Bool :=
  let group := (all 32).filter fun p => decide (p.1 / 8 = k.1)
  !(s.integ.engineOk && !s.integ.estop && (group.any fun p => s.portRuns p && s.inService p)
    && group.all fun p => !s.port[p].trip)

/-- R56: HEAD_SAFE_n[k] is pulled high to negate it, and released to assert it. -/
def headSafePin (s : State) (k : Fin 4) : Level := if s.clear && !s.headSafe k then .high else .z

/-- R57, R78: ENGINE_OK. -/
def engineOkPin (s : State) : Level := s.pin s.integ.engineOk
/-- R55: REJECT. -/
def rejectPin (s : State) : Level := s.pin s.integ.reject
/-- R300: SLOW_REQ. -/
def slowReqPin (s : State) : Level := s.pin (decide (s.slowNow ≠ 0))

/-- R59, R446: AUX_HOLD, high in reset. -/
def auxHoldPin (s : State) : Level := s.resetPin true s.auxHold
/-- R60: XSPI_RESET_n, low in reset. -/
def xspiResetPin (s : State) : Level := s.resetPin false s.sys.xspiHigh
/-- R62, R87: WAKE_OUT, which VBAT powers. -/
def wakeOutPin (s : State) : Level := .of s.wakeOut

/-! ## Cameras (R348) -/

/-- The level of CAM_TRIGc. -/
def trigPin (s : State) (c : CamIx) : Bool :=
  s.camRuns c && if s.fbit aEyeIo (c.1 + 8) then s.mer.level[32 + c.1] else s.fbit aEyeIo c.1

/-- The level of LIGHTc. -/
def lightPin (s : State) (c : CamIx) : Bool :=
  s.camRuns c && if s.fbit aEyeIo (c.1 + 12) then s.mer.level[36 + c.1] else s.fbit aEyeIo (c.1 + 4)

/-- The balls of CAM_TRIGc and LIGHTc. -/
def camTrigPin (s : State) (c : CamIx) : Level := s.pin (s.trigPin c)
def camLightPin (s : State) (c : CamIx) : Level := s.pin (s.lightPin c)

/-! ## Motion (R328, R333, R340) -/

/-- An output of an axis: high-impedance until the first restart after a reset. -/
def axisPin (s : State) (x : AxisIx) (b : Bool) : Level := if s.axis[x].everRun then s.pin b else .z

/-- AXn_STEP: high for STEP_W from the latest rising edge. -/
def stepPin (s : State) (x : AxisIx) : Level :=
  let a := s.axis[x]
  s.axisPin x (decide (a.rise ≠ 0 ∧ s.tick < a.rise - 1 + (s.profile x).w))

/-- AXn_DIR: high for positive motion, or low where DIR_POL is set. -/
def dirPin (s : State) (x : AxisIx) : Level := s.axisPin x (s.axis[x].dir != s.fbit (aMot x.1 0) 30)

/-- The drive is enabled: while the axis runs, and while it is stopped with HOLD_EN, unless a fault disabled it under
FAULT_DIS. -/
def driveEnabled (s : State) (x : AxisIx) : Bool :=
  !s.axis[x].enOff && (s.axisRuns x || s.fbit (aMot x.1 0) 29)

/-- AXn_EN: high enables the drive, or low where EN_POL is set. -/
def enPin (s : State) (x : AxisIx) : Level := s.axisPin x (s.driveEnabled x != s.fbit (aMot x.1 0) 31)

/-! ## GPIO (R61) -/

/-- A GPIO is an output. -/
def gpioDrives (s : State) (n : Fin 32) : Bool := s.fbit (aGpio 0) n.1

/-- The level that an output drives: its GPIO_OUT bit, or Meridian's. -/
def gpioLevel (s : State) (n : Fin 32) : Bool := if s.fbit (aGpio 8) n.1 then s.mer.level[n.1] else s.fbit (aGpio 4) n.1

/-- GPIOn. -/
def gpioPin (s : State) (n : Fin 32) : Level := if s.gpioDrives n then s.pin (s.gpioLevel n) else .z

/-- The GPIO that MER_CAP_SEL names for capture input 2, or 3 (R317). -/
def capturePin (s : State) (second : Bool) : Nat := if second then s.fld (aMer 0x60) 12 8 else s.fld (aMer 0x60) 4 0

/-- The level at an input is one that the commands tell: it is captured, and GPIO_CAPTURE_EDGE tells its edges. -/
def gpioKnown (s : State) (n : Fin 32) : Bool := decide (n.1 = s.capturePin false) || decide (n.1 = s.capturePin true)

/-- GPIO_IN: an output reads its own level, and an input its ball's: as the captured edges leave it, and low where no command
tells it; a read replaces that one by a free level (log entry 94). -/
def gpioSample (s : State) (n : Fin 32) : Bool :=
  if s.gpioDrives n then s.gpioLevel n else s.gpioKnown n && s.gpioIn.getLsbD n.1

end State
end Sys2Proof.Machine
end

