-- ==== Sys2Proof/Machine/SpoolCtl.lean ====
section
/-!
DEFINITION. The spool controller at work: the choice and service of a channel's requests (R412 to R414), HBM
and SRAM scrub (R403, R404), the remapping of SRAM rows and the outcome of uncorrectable SRAM words (R407,
R411, R418), the leaky buckets (R408), self-refresh (R416), command/address parity (R417), and the arming
of error injection (R409).
-/
namespace Sys2Proof.Machine
namespace State

/-! ## The choice of a request (R413, R414) -/

/-- TARGET of a QoS port in units of 2^-24 ns (R413). -/
def qosTarget (s : State) (q : Nat) : Nat := s.fld (aSpl (0x80 + 4 * q)) 23 0 * 10 * 16777216

/-- R413: the urgency of a request: of a QP1 request by its deadline, 0 without one; of any other by its age. -/
def urgency (s : State) (r : SpoolReq) : Nat :=
  let t := s.qosTarget r.port
  if r.port ≠ 1 then min 3 (4 * (s.mer.time - r.since) / t)
  else match r.deadline with
    | none => 0
    | some d =>
      if d ≤ s.mer.time + t then 3 else if d ≤ s.mer.time + 2 * t then 2 else if d ≤ s.mer.time + 3 * t then 1 else 0

/-- R414: the urgency of a request with that of the requests that wait behind it for the same block. -/
def raised (s : State) (l : List SpoolReq) (r : SpoolReq) : Nat :=
  ((l.filter fun x => decide (x.addr / 64 = r.addr / 64)).map s.urgency).foldl max 0

/-- R414: the requests that may be chosen: of those to one block, only the one that arrived first. -/
def heads (l : List SpoolReq) : List SpoolReq :=
  (List.range l.length).filterMap fun i =>
    match l[i]? with
    | some r => if (l.take i).any fun x => decide (x.addr / 64 = r.addr / 64) then none else some r
    | none => none

/-- R414: a QP1 request with a deadline. -/
def SpoolReq.dated (r : SpoolReq) : Bool := decide (r.port = 1) && r.deadline.isSome

/-- R414: request `a` is chosen before request `b`. -/
def sooner (s : State) (l : List SpoolReq) (a b : SpoolReq) : Bool :=
  let u := s.raised l a
  let v := s.raised l b
  if u ≠ v then decide (v < u)
  else if u = 3 ∧ SpoolReq.dated a ≠ SpoolReq.dated b then SpoolReq.dated a
  else if a.age ≠ b.age then decide (a.age < b.age)
  else decide (a.port < b.port)

/-- R414: the channel's next request by urgency, age and port. -/
def chosen (s : State) (c : ChanIx) : Option SpoolReq :=
  let l := s.spl.chans[c].reqs
  (heads l).foldl (fun best r => match best with
    | none => some r
    | some b => if s.sooner l r b then some r else best) none

/-- R414: a request to an open row that may be issued ahead of the chosen one. -/
def openAhead (s : State) (c : ChanIx) (q : SpoolReq) : Option SpoolReq :=
  let l := s.spl.chans[c].reqs
  (heads l).find? fun r => decide (r ≠ q) && s.rowOpen c (s.place r.addr).2.1 && decide (s.raised l q ≤ s.raised l r)

/-! ## SRAM rows (R407, R411, R418) -/

/-- R418: the function whose restart applies a remap of the region; none for the overlay port. -/
def sramOwner : SramRegion → Option FnRef
  | .curves k => some (.bar k)
  | .maps k => some (.bar k)
  | .nozzleOut k => some (.bar k)
  | .trims k _ => some (.bar k)
  | .thresholds k => some (.bar k)
  | .levelTable p => some (.port p)
  | .edRows k => some (.bar k)
  | .checkpoints k => some (.bar k)
  | .portQueue p => some (.port p)
  | .window _ => some .engine
  | .cameraLines c => some (.cam c)
  | .taps k _ => some (.bar k)
  | .overlayFifo => none
  | .cores => some .engine
  | .validMap => some .engine
  | .crcContexts => some .engine
  | .controller => some .engine

/-- The owner of a region runs. -/
def ownerRuns (s : State) (region : SramRegion) : Bool :=
  match sramOwner region with
  | some f => (s.fn f).running
  | none => s.fbit (aOvl 0) 31

/-- R407: a row of a macro group is remapped, or marked PEND while its owner runs. -/
def remapSram (g : GroupIx) (row : Nat) (region : SramRegion) (s : State) : State :=
  let q := s.spl.groups[g]
  if q.remaps.any fun x => decide (x.row = row) then s
  else if q.remaps.length < 16 then
    let runs := s.ownerRuns region
    ((s.onGroup g fun u => { u with
      remaps := u.remaps ++ [⟨false, runs, row, 0, if runs then sramOwner region else none⟩] }).count (4 * 64 + 36) 1).queueRecord
      0x06 g.1 row q.remaps.length
  else s.errorUnit 0x0D03 .c unitNone 0 0x11

/-- An element of a list that nothing determines. -/
def pick {α : Type} (s : State) (l : List α) : Option α := l[s.freeNat % l.length]?

/-- R229: the sheets whose diffusion state the bar still holds: it has begun them, and a row or a slot of them is still to be
computed. -/
def diffusing (s : State) (k : BarIx) : List Sheet :=
  s.job.sheets.filter fun sh => decide (0 < sh.computed[k]) && (decide (sh.computed[k] < sh.rows)
    || s.bar[k].rows.any fun r => decide (r.sheet = sh.id) && !rowComplete r)

/-- R411, R229: a word of the error-diffusion rows is lost: a sheet whose state it was is rejected. -/
def lostDiffusion (k : BarIx) (s : State) : State :=
  if s.retMethod k ≠ 1 then s
  else match s.pick (s.diffusing k) with
    | some sh => s.useFree.sheetError 0x0502 .s sh.id (sh.computed[k] - 1) (unitBar k) 0 9
    | none => s

/-- R411, R229: a word of a checkpoint part is lost: the sheet of the part's row is rejected. -/
def lostCheck (k : BarIx) (s : State) : State :=
  match (s.pick s.bar[k].checks).bind fun c => s.bar[k].rows.find? fun r => decide (r.n = c.row) with
  | some r => s.useFree.sheetError 0x0502 .s r.sheet r.srow (unitBar k) 0 9
  | none => s

/-- R238, R411: a word of a port queue is lost; which held row's slot it lies in is free. -/
def lostSlot (p : PortIx) (s : State) : State :=
  let l := s.port[p].rows
  if l.isEmpty then s
  else match l[s.freeNat % l.length]? with
    | some r => if r.acked then s.useFree else s.useFree.queueData p r
    | none => s

/-- R169, R411: a word of a decompressor window is lost: the lane's slice fails. -/
def lostWindow (l : LaneIx) (s : State) : State :=
  match s.laneSlice l with
  | some (k, w, i) => s.endSlice k w i l (some .stream)
  | none => s

/-- R367, R411: a word of a camera's lines or banks is lost: a frame in hand is void, the open one or the one that the pipeline
processes; with both, which it is is free. -/
def lostLines (c : CamIx) (s : State) : State :=
  let q := s.eye.cam[c]
  let t := (s.useFree.onCam c fun q => match q.raw with
    | f :: rest => if q.fs.isNone || s.freeBool then { q with raw := { f with flags := f.flags ||| flVoid } :: rest }
      else { q with fs := q.fs.map fun f => { f with flags := f.flags ||| flVoid } }
    | [] => { q with fs := q.fs.map fun f => { f with flags := f.flags ||| flVoid } })
  if q.fs.isNone && q.raw.isEmpty then s.camData c else t.camData c

/-- R392, R411: the sum of a tap's cell is cleared; which cell it is, is free. -/
def lostTap (k : BarIx) (c : CamIx) (s : State) : State :=
  let cell := k.1 * 8192 + s.freeNat % 8192
  s.useFree.onCal fun u => { u with
    taps := u.taps.map fun t => if t.cam = c then { t with sums := tput (fun _ => 0) t.sums cell 0 } else t }

/-- R411: how an uncorrectable SRAM word ends by its region; data of a stopped owner is refilled at its restart. -/
def sramLost (region : SramRegion) (s : State) : State :=
  match region with
  | .curves k => if s.barRuns k then s.classD 0x0405 (unitBar k) 0 8 else s
  | .maps k => if s.barRuns k then s.classD 0x0405 (unitBar k) 0 8 else s
  | .nozzleOut k => if s.barRuns k then s.classD 0x0405 (unitBar k) 0 8 else s
  | .trims k j =>
    (s.onBar k fun b => { b with
      trims := { b.trims with bad := if b.trims.bad.contains j.1 then b.trims.bad else b.trims.bad ++ [j.1] } }).when (s.barRuns k)
      (classD 0x0405 (unitBar k) 0 8)
  | .thresholds k => if s.barRuns k then s.classD 0x0501 (unitBar k) 0 9 else s
  | .levelTable p => if s.portRuns p then s.classD 0x0501 (unitPort p) 0 9 else s
  | .edRows k => if s.barRuns k then s.lostDiffusion k else s
  | .checkpoints k => if s.barRuns k then s.lostCheck k else s
  | .portQueue p => if s.portRuns p then s.lostSlot p else s
  | .window l => s.lostWindow l
  | .cameraLines c => if s.camRuns c then s.lostLines c else s
  | .taps k c => if s.barRuns k then s.lostTap k c else s
  | .overlayFifo => s.lostWord
  | .cores => s.classD 0x0D06 unitNone 0 0x11
  | .validMap => s.classD 0x0D06 unitNone 0 0x11
  | .crcContexts => s.classD 0x0D06 unitNone 0 0x11
  | .controller => s.classD 0x0D06 unitNone 0 0x11

/-! ## SRAM scrub (R403, R404, R407) -/

/-- R403, R407, R411: a macro group scrubs its next word, which lies in `region`. -/
def scrubWord (g : GroupIx) (region : SramRegion) (find : EccFind) (s : State) : State :=
  let q := s.spl.groups[g]
  let i := q.scrub
  let t := match find with
    | .clean => s
    | .data => s.correctSram g false
    | .check => s.correctSram g true
    | .uncorrectable =>
      (((s.onGroup g fun u => { u with ecc := { u.ecc with uncorr := satTo 255 (u.ecc.uncorr + 1) } }).count
        (4 * 64 + 35) 1).remapSram g (i / 32) region).sramLost region
  let t := if find = .data ∨ find = .check then
      (if twice q.hist q.passNo i then t.remapSram g (i / 32) region else t).onGroup g fun u =>
        { u with hist := remember u.hist u.passNo i }
    else t
  t.onGroup g fun u => if 8192 ≤ i + 1 then { u with scrub := 0, passNo := u.passNo + 1 } else { u with scrub := i + 1 }

/-! ## Service (R245, R410, R413, R414) -/

/-- R410, R413: a QP1 read is served; an uncorrectable block is lost to its band. -/
def serve (c : ChanIx) (q : SpoolReq) (upset : List (Fin 72 × Byte)) (s : State) : State :=
  let t := s.onChan c fun u => { u with reqs := dropFirst (fun x => decide (x = q)) u.reqs }
  let r := t.readBlock q.port (q.addr / 64) upset
  let late := decide (s.qosTarget q.port ≤ s.mer.time - q.since) || (q.deadline.any fun d => decide (d < s.mer.time))
  let u := if late then
      (r.1.onSpl fun u => { u with
      late := match fin? 8 q.port with
        | some i => upd u.late i fun n => sat32 (n + 1)
        | none => u.late }).count (4 * 64 + 4 * q.port + 2) 1
    else r.1
  if r.2.isNone then u.onWork q.bar q.sheet q.key fun w => { w with lost := w.lost ++ [q.block] } else u

/-- The request that a channel issues next: the chosen one, or one to an open row ahead of it. -/
def issueRead (c : ChanIx) (upset : List (Fin 72 × Byte)) (s : State) : State :=
  match s.chosen c with
  | none => s
  | some q => match s.openAhead c q with
    | none => s.serve c q upset
    | some r => if s.freeBool then s.useFree.serve c r upset else s.useFree.serve c q upset

/-! ## Self-refresh (R416) -/

/-- Some channel is in self-refresh. -/
def anySelfRefresh (s : State) : Bool := (all 64).any fun c => s.spl.chans[c].selfRef

/-- R416: a channel enters self-refresh. -/
def enterSelfRefresh (c : ChanIx) (s : State) : State :=
  if s.spl.chans[c].selfRef || s.spl.chans[c].offline then s
  else ((s.rise (4 * 64 + 40) (!s.anySelfRefresh)).onChan c fun q => { q with selfRef := true }).count (4 * 64 + 38) 1

/-- R409: the patterns of an injection by symbol; patterns of one symbol combine. -/
def flipPats (ctrl pat : Nat) : List (Nat × Byte) :=
  let l := [(bits ctrl 6 0, bits pat 7 0), (bits ctrl 14 8, bits pat 15 8), (bits ctrl 22 16, bits pat 23 16)]
  combineErrors (l.map fun q => (q.1, BitVec.ofNat 8 q.2))

/-- R409: a position of SPL_FLIP_CTRL lies outside the code word. -/
def flipRange (v : Nat) : Bool :=
  let top := if bit v 29 then 34 else 71
  decide (top < bits v 6 0) || decide (top < bits v 14 8) || decide (top < bits v 22 16)

/-- R409: a write of SPL_FLIP_CTRL. -/
def writeFlip (v : Word) (s : State) : State :=
  let n := v.toNat
  if s.engRuns || s.fns.eng.busy then s.refuseWrite (aSpl 0xC) v
  else if bit n 31 && (s.spl.flip.isSome || flipRange n) then s.refuseWrite (aSpl 0xC) v
  else
    let t := s.wrN (aSpl 0xC) (n &&& 0x207F7F7F)
    if bit n 31 then t.onSpl fun u => { u with
      flip := some ⟨bit n 29, s.rd64 (aSpl 0x14), flipPats n (s.rdN (aSpl 0x10))⟩ }
    else t

end State

/-! ## The commands -/

/-- R414: a channel serves its next request; `upset` are erroneous
symbols of this read. -/
def execSpoolRequestServe (c : ChanIx) (upset : List (Fin 72 × Byte)) (s : State) : Result :=
  if !s.up || decide (s.sys.lpCur = 2) || s.spl.chans[c].offline || s.spl.chans[c].reqs.isEmpty then .next s
  else .next (s.issueRead c upset)

/-- R403, R404: a channel's scrub interval elapses. -/
def execHbmScrubRead (c : ChanIx) (upset : List (Fin 72 × Byte)) (writeSince : Bool) (s : State) : Result :=
  if !s.sys.held.isEmpty || !s.sys.hbm || s.spl.chans[c].offline || decide (s.fld (aSpl 4) 31 16 = 0) then .next s
  else if s.spl.chans[c].selfRef then .next (s.onChan c fun q => { q with held := q.held + 1 })
  else .next (s.scrubNext c upset writeSince)

/-- R403, R404: a macro group reads its next word; `find` is what the decoder of R398 finds there. Whether the corrected word
is written back or a newer one stands, it is sound from then on. -/
def execSramScrubRead (g : GroupIx) (region : SramRegion) (find : EccFind) (_writeSince : Bool) (s : State) : Result :=
  if !s.sys.held.isEmpty || decide (s.fld (aSpl 4) 15 8 = 0) then .next s
  else .next (s.scrubWord g region find)

/-- R408: a bucket leaks. -/
def leak (thr : Nat) (e : EccCount) : EccCount :=
  { e with bucket := e.bucket - 1, quiet := e.quiet && decide (thr / 2 < e.bucket - 1) }

/-- R408: LEAK_MS have passed. -/
def execBucketLeak (b : BucketRef) (s : State) : Result :=
  if !s.sys.held.isEmpty then .next s
  else match b with
    | .hbm c => .next (s.onChan c fun q => { q with ecc := leak s.thresh q.ecc })
    | .sram g => .next (s.onGroup g fun q => { q with ecc := leak s.thresh q.ecc })

/-- R416: a channel has had no request for IDLE × 100 ns. -/
def execSelfRefreshEntry (c : ChanIx) (s : State) : Result :=
  .next (if s.up && s.spl.chans[c].reqs.isEmpty && decide (s.fld (aSpl 0) 15 0 ≠ 0) then s.enterSelfRefresh c else s)

/-- R416: SCRUB_WAKE ms have passed in self-refresh; in L2 the channel goes back to it. -/
def execScrubWake (c : ChanIx) (s : State) : Result :=
  .next (if s.up && s.spl.chans[c].selfRef then
    let t := (s.wakeChan c).issueHeld c
    if s.sys.lpCur = 2 then t.enterSelfRefresh c else t
  else s)

/-- R417: a stack raises a parity alert; `failures` of the replays fail, of at most three. -/
def execCaParityAlert (c : ChanIx) (failures : Fin 4) (s : State) : Result :=
  if !s.up || s.spl.chans[c].offline || s.spl.chans[c].selfRef then .next s
  else
    let t := s.count (4 * 64 + 39) (min 3 (failures.1 + 1))
    if failures.1 < 3 then .next (t.errorUnit 0x0D07 .p (unitChan c) 0 0x11)
    else
      let t := (t.onChan c fun q => { q with offline := true }).classD 0x0D08 (unitChan c) 0 0x11
      let free := (all 64).find? fun i => !(List.range 60).any (fun n => decide (t.chmap n = i))
        && !t.spl.chans[i].out && !t.spl.chans[i].offline
      match free with
      | some i => .next (t.queueRecord 0x04 0 c.1 i.1)
      | none => .next (t.queueRecord 0x0B 4 c.1 0)

/-- R409: a write of SPL_FLIP_CTRL. -/
def execFlipArm (v : Word) (s : State) : Result :=
  .next (if s.hostUp then (s.hostIn 4).writeFlip v else s)

end Sys2Proof.Machine
end

