-- ==== Sys2Proof/Machine/Flags.lean ====
section
/-!
DEFINITION. The status flags and counts that software reads: the RO and W1C fields of the register map,
block by block, computed from the state, and the value of every register (R31, R490, R491).
-/
namespace Sys2Proof.Machine

/-- The low or the high half of a 64-bit value: `hi` 0 or 1. -/
def half (v hi : Nat) : Nat := if hi = 0 then v % 2 ^ 32 else v / 2 ^ 32 % 2 ^ 32

/-- A mask of the numbered units for which `p` holds. -/
def mask (n : Nat) (p : Fin n → Bool) : Nat := (all n).foldl (fun m i => m + b2n (p i) * 2 ^ i.1) 0

namespace State

/-! ## System, boot, host and Sidereal -/

/-- Blocks 0x00 and 0x01: SYS_ID, RST_CAUSE, SYS_POWER, CC_STATUS, BOOT_STATUS (R492, R80, R155, R481, R487). -/
def roSys (s : State) (o : Nat) : Nat :=
  let y := s.sys
  if o = 0 then 0x05242100 + b2n y.gradeE * 16
  else if o = 4 then y.warmCount * 2 ^ 24 + y.rail * 2 ^ 12 + 2 ^ y.cause.bit
  else if o = 0xC then y.lpCur * 2 ^ 30
  else if o = 0x10 then
    y.wdogCount * 2 ^ 24 + y.wdogCore * 2 ^ 16 + (all 5).foldl (fun m i => m + (match y.cores[i] with
      | .active => 0 | .spare => 1 | .outOfService => 2 | .failedTest => 3) * 8 ^ i.1) 0
  else 0

/-- Block 0x01 (R487). -/
def roBoot (s : State) (o : Nat) : Nat :=
  if o = 4 then s.sys.stage * 2 ^ 28 + s.sys.src * 2 ^ 26 + s.sys.imgSvn % 256 * 2 ^ 16 + s.sys.bootErr.toNat else 0

/-- R100: STATE of a ring. -/
def ringCode : RingState → Nat
  | .disabled => 0 | .active => 1 | .draining => 2 | .halted => 3

/-- Block 0x02 (R100, R115, R123, R126, R494). -/
def roHif (s : State) (o : Nat) : Nat :=
  let h := s.hif
  match arr 0x10000 0x40 128 o with
  | some (r, 0x20) =>
    match fin? 128 r with
    | some r =>
      let c := h.rings[r]
      let n := s.sqSize r
      ringCode c.state * 2 ^ 30 + c.cause * 2 ^ 24 + c.sqHead / n % 2 * 2 ^ 16 + c.sqHead % n
    | none => 0
  | some _ => 0
  | none =>
    if o = 8 then h.badAccess
    else if o = 0xC then h.lostEvents
    else if o = 0x10 then half h.faultAddr 0
    else if o = 0x14 then half h.faultAddr 1
    else if o = 0x20 then (match h.hb with | .idle => 0 | .armed => 1 | .expired => 2) * 2 ^ 29
    else 0

/-- Block 0x03: the Pending Bit Array (R121). -/
def roMsix (s : State) (o : Nat) : Nat :=
  match arr 0x1000 4 4 o with
  | some (w, 0) => mask 128 (fun v => s.hif.pba[v] && decide (v.1 / 32 = w)) / 2 ^ (32 * w)
  | _ => 0

/-- Block 0x04 (R83, R85, R87, R88). -/
def roSdr (s : State) (o : Nat) : Nat :=
  let d := s.sdr
  if o = 0 then d.sub
  else if o = 4 then half d.secCopy 0
  else if o = 8 then half d.secCopy 1 % 65536
  else if o = 0x20 then b2n d.armed[1] * 128 + b2n d.armed[0] * 64 + b2n d.busy * 32
  else if o = 0x24 then b2n d.timeLost * 256 + mask 2 (fun n => d.alarm[n]) * 16 + mask 4 (fun n => d.event[n])
  else match arr 0x50 8 4 o with
    | some (n, j) => match fin? 4 n with
      | some n => half d.stamp[n] (j / 4)
      | none => 0
    | none => 0

/-! ## Data path -/

/-- Block 0x05 (R133). -/
def roJob (s : State) (o : Nat) : Nat :=
  match arr 0x10 8 10 o with
  | some (0, j) => half s.job.wr (j / 4)
  | some (1, j) => half s.job.tail (j / 4)
  | some (n, j) => match fin? 8 (n - 2) with
    | some k => half (s.readPos k) (j / 4)
    | none => 0
  | none => 0

/-- Block 0x06 (R166, R175). -/
def roDcmp (s : State) (o : Nat) : Nat :=
  if o = 0x200 then mask 4 (fun l => s.exp.cmp[l].isSome) * 256 + s.sys.svc
  else match arr 0x100 4 34 o with
    | some (n, 0) => match fin? 34 n with
      | some l => s.exp.laneFault[l].disagree * 256 + s.exp.laneFault[l].fail
      | none => 0
    | _ => 0

/-- R207: the bar and slot that SE_ASSIGN gives an engine: a running bar's, or else the lowest. -/
def engineSlot (s : State) (e : Nat) : Option (BarIx × SlotIx) :=
  ((all 8).filter s.barRuns ++ all 8).findSome? fun k =>
    ((all 8).find? fun m => decide (s.slotEngine k m = e)).map fun m => (k, m)

/-- R207: SE_STATUSn. -/
def seStatus (s : State) (e : Fin 68) : Nat :=
  let g := s.se.engines[e]
  let low := g.testFail * 256 + g.residue
  match s.engineSlot e.1 with
  | some (k, m) => (if g.out then 3 else if s.barRuns k then 1 else 2) * 2 ^ 30 + k.1 * 2 ^ 27 + m.1 * 2 ^ 24 + low
  | none => (if g.out then 3 else 0) * 2 ^ 30 + low

/-- Block 0x08 (R201, R205, R207). -/
def roSe (s : State) (o : Nat) : Nat :=
  match arr 0x100 8 8 o, arr 0x300 8 8 o, arr 0x400 4 68 o with
  | some (k, 4), _, _ => match fin? 8 k with
    | some k => b2n (s.pendOk k) * 2 ^ 31 + b2n (s.calFrozen k) * 2 ^ 30 + s.epochNow k % 2 ^ 24
    | none => 0
  | _, some (k, j), _ => match fin? 8 k with
    | some k => if j = 0 then s.bar[k].lost else s.bar[k].sat
    | none => 0
  | _, _, some (n, 0) => match fin? 68 n with
    | some e => s.seStatus e
    | none => 0
  | _, _, _ => 0

/-- Block 0x09 (R228). -/
def roRet (s : State) (o : Nat) : Nat :=
  match arr 0x600 4 8 o with
  | some (k, 0) => match fin? 8 k with
    | some k => s.bar[k].edSat * 65536 + s.bar[k].seam * 256 + s.bar[k].residue
    | none => 0
  | _ => 0

/-- R243: PRM_PORTn_STATUS. A port that is both absent and not in service reads absent (DESIGN CHOICE, log entry 89). -/
def portStatus (s : State) (p : PortIx) : Nat :=
  let q := s.port[p]
  let st := if q.link.absent then 3 else if !s.inService p then 2 else if s.portRuns p then 1 else 0
  st * 2 ^ 30 + min 511 (q.wr - q.fire) * 65536 + min 65535 q.replays

/-- Block 0x0A (R243, R250, R251). -/
def roPrm (s : State) (o : Nat) : Nat :=
  if o = 0x2004 then mask 32 fun p => s.port[p].trip
  else if o = 0x2008 then b2n s.integ.estop * 2 ^ 31 + b2n s.integ.latch * 2 ^ 30 + mask 4 s.headSafe
  else match arr 0x1000 32 32 o with
    | some (n, 0xC) => match fin? 32 n with
      | some p => s.portStatus p
      | none => 0
    | _ => 0

/-- A port's link registers (R278, R280). -/
def roLink (l : Link) (j : Nat) : Nat :=
  if j = 8 then
    l.lstate * 2 ^ 28 + l.fault * 2 ^ 24 + l.modCause * 2 ^ 20 + l.preinv.toNat * 2 ^ 17 + b2n l.swapped * 2 ^ 16
      + b2n l.rxInv * 2 ^ 15 + l.caps.rtt % 256
  else if j = 0xC then
    l.caps.rowbuf % 1024 * 2 ^ 22 + l.caps.stage % 256 * 2 ^ 14 + l.caps.widths.toNat * 2 ^ 10
      + l.caps.corr.toNat * 2 ^ 8 + l.caps.nsens % 16 * 16
  else if j = 0x10 then min 65535 l.nak * 65536 + min 255 l.bip * 256 + min 255 l.dup
  else if j = 0x20 then b2n l.scanning * 2 ^ 30
  else if j = 0x24 then l.errors
  else match arr 0x40 4 15 j with
    | some (n, 0) => match fin? 15 n with
      | some k => b2n l.temp[k].1 * 2 ^ 31 + l.temp[k].2.toNat
      | none => 0
    | _ => 0

/-- Block 0x0B. -/
def roAbr (s : State) (o : Nat) : Nat :=
  match arr 0 0x400 32 o with
  | some (n, j) => match fin? 32 n with
    | some p => roLink s.port[p].link j
    | none => 0
  | none => 0

/-! ## Timing and motion -/

/-- R285: the four 64-bit values of an encoder. -/
def encValue (s : State) (m : EncIx) (i : Nat) : Nat :=
  let e := s.hls.enc[m]
  match i with
  | 0 => unsigned 64 e.pos
  | 1 => unsigned 64 (s.high m)
  | 2 => unsigned 64 e.zpos
  | _ => eventTime e.ztime

/-- Block 0x0C (R284, R285, R300). -/
def roHls (s : State) (o : Nat) : Nat :=
  if o = 0x2004 then s.slowNow.toNat
  else match arr 0 0x1000 2 o with
    | some (m, j) => match fin? 2 m with
      | some m =>
        let e := s.hls.enc[m]
        if j = 4 then b2n e.idle * 2 ^ 31 + b2n e.back * 2 ^ 30 + e.qerr % 256 * 65536 + e.zcount % 65536
        else match arr 0x10 8 4 j with
          | some (i, 0) => half (encValue s m i) 0
          | _ => 0
      | none => 0
    | none => 0

/-- R324: HOLD_S, in whole seconds. -/
def holdSeconds (s : State) : Nat :=
  match s.mer.holdSince with
  | some t => min 65535 ((s.mer.time - t) / merSecond)
  | none => 0

/-- R311: STATE, LATE and OVERRUN of a slot's CTRL register. -/
def slotFlags (q : Slot) : Nat :=
  (match q.state with
    | .idle => 0 | .armed => 1 | .done => 2 | .cancelled => 3 | .dropped => 4) * 2 ^ 27 + b2n q.late * 2 ^ 26 + b2n q.overrun * 2 ^ 25

/-- R305, R317: NS, SEC_LO and SEC_HI of a time in units of 2^-24 ns. -/
def timeWord (t i : Nat) : Nat :=
  let ns := t / 16777216
  match i with
  | 0 => ns % 1000000000
  | 1 => half (ns / 1000000000) 0
  | _ => half (ns / 1000000000) 1 % 65536

/-- Block 0x0D (R305, R311, R317, R321, R324). -/
def roMer (s : State) (o : Nat) : Nat :=
  let m := s.mer
  if o = 0 then m.time / 256 % 65536
  else if o = 4 ∨ o = 8 ∨ o = 0xC then timeWord m.copy (o / 4 - 1)
  else if o = 0x14 then
    b2n m.trace * 2 ^ 31 + b2n m.ptpLock * 2 ^ 30 + b2n m.diverged * 2 ^ 29 + b2n m.holdover * 2 ^ 28
      + b2n m.annLost * 2 ^ 27 + m.discards % 256 * 65536 + s.holdSeconds
  else if o = 0x48 then unsigned 32 (m.offset.getD 0)
  else match arr 0x80 16 4 o, arr 0x10000 32 256 o, arr 0x20000 32 128 o with
    | some (k, j), _, _ => match fin? 4 k with
      | some k => if j = 12 then m.cap[k].count % 65536 else timeWord m.cap[k].time (j / 4)
      | none => 0
    | _, some (i, 0x14), _ => match fin? 256 i with
      | some i => slotFlags m.tslot[i]
      | none => 0
    | _, _, some (i, 0x14) => match fin? 128 i with
      | some i => slotFlags m.pslot[i]
      | none => 0
    | _, _, _ => 0

/-- R344: STATE of an axis. -/
def axisState (s : State) (x : AxisIx) : Nat :=
  let a := s.axis[x]
  if !s.axisRuns x then 0
  else if a.fault ≠ 0 then 6
  else if a.hstep ≠ 0 then 4
  else if a.stopReq then 5
  else match a.motion with
    | .rest => 1
    | .gear _ _ => 3
    | .homing => 4
    | _ => 2

/-- R344: SYNC: geared with a lag below one step. -/
def axisSync (s : State) (x : AxisIx) : Bool :=
  match s.gearLag x with
  | some l => decide (absOf l < 1)
  | none => false

/-- R344: MOT_AXn_STATUS. -/
def axisStatus (s : State) (x : AxisIx) : Nat :=
  let a := s.axis[x]
  s.axisState x * 2 ^ 29 + b2n a.homed * 2 ^ 28 + b2n a.queued.isSome * 2 ^ 27 + b2n (s.axisSync x) * 2 ^ 26
    + b2n a.cmd.isSome * 2 ^ 25
    + (b2n a.sw[0] * 4 + b2n a.sw[1] * 2 + b2n a.sw[2]) * 2 ^ 22 + a.hstep % 8 * 2 ^ 19 + a.fault % 16 * 2 ^ 12

/-- R329: the four 64-bit values of an axis. -/
def axisValue (a : Axis) (i : Nat) : Nat :=
  match i with
  | 0 => unsigned 64 a.pos.floor
  | 1 => unsigned 64 a.encpos
  | 2 => unsigned 64 a.remain
  | _ => unsigned 64 a.hlatch

/-- Block 0x0E (R329, R344). -/
def roMot (s : State) (o : Nat) : Nat :=
  match arr 0 0x1000 8 o with
  | some (n, j) => match fin? 8 n with
    | some x =>
      if j = 0x64 then s.axisStatus x
      else match arr 0x70 8 4 j with
        | some (i, 0) => half (axisValue s.axis[x] i) 0
        | _ => 0
    | none => 0
  | none => 0

/-! ## Camera, calibration and memory -/

/-- Block 0x0F (R359, R366). -/
def roEye (s : State) (o : Nat) : Nat :=
  match arr 0 0x10000 4 o with
  | some (n, j) => match fin? 4 n with
    | some c =>
      let q := s.eye.cam[c]
      if j = 0xC then
        (if !s.camRuns c then 0 else if q.noFs then 2 else 1) * 2 ^ 30 + b2n q.commitReq * 2 ^ 29
          + b2n q.captured.isSome * 2 ^ 28 + min 255 q.orphan * 65536 + min 255 q.pkt * 256 + min 255 q.drops
      else if j = 0x154 then
        b2n (q.hostXfer.isSome || q.cciBusy.any fun x => !x.1) * 2 ^ 31 + b2n q.nack * 2 ^ 30 + q.cciData.toNat
      else 0
    | none => 0
  | none => 0

/-- Block 0x10 (R381, R392). -/
def roCal (s : State) (o : Nat) : Nat :=
  if o = 0x208 then min 255 s.cal.skip * 2 ^ 24 + min 255 s.cal.miss * 65536 + min 255 s.cal.void * 256
  else if o = 0x1020 then
    s.occ.state * 2 ^ 30 + min 65535 s.occ.stray * 2 ^ 14 + (if s.occ.state = 0 then 0 else s.occNozzle s.occ.judged % 16384)
  else 0

/-- R408: SPL_HECC and SPL_SECC, or the corrections at + 4. -/
def eccWord (e : EccCount) (remaps j : Nat) : Nat :=
  if j = 0 then e.bucket * 2 ^ 24 + e.uncorr * 65536 + e.chk * 256 + remaps % 64 else e.corr

/-- R406: a remap entry. -/
def remapWord (l : List Remap) (e : Nat) : Nat :=
  match l[e]? with
  | some x => 2 ^ 31 + b2n x.poison * 2 ^ 30 + b2n x.pend * 2 ^ 29 + x.row % 2 ^ 21 * 16 + x.blk % 16
  | none => 0

/-- Block 0x11 (R396, R406, R408, R409, R413). -/
def roSpl (s : State) (o : Nat) : Nat :=
  if o = 0xC then b2n s.spl.flip.isSome * 2 ^ 30
  else if o = 0x20 ∨ o = 0x24 then half (mask 64 fun c => s.spl.chans[c].out) (o / 4 % 2)
  else match arr 0xA0 4 8 o, arr 0x1000 8 64 o, arr 0x2000 8 256 o with
    | some (q, 0), _, _ => match fin? 8 q with
      | some q => s.spl.late[q]
      | none => 0
    | _, some (c, j), _ => match fin? 64 c with
      | some c => eccWord s.spl.chans[c].ecc s.spl.chans[c].remaps.length j
      | none => 0
    | _, _, some (g, j) => match fin? 256 g with
      | some g => eccWord s.spl.groups[g].ecc s.spl.groups[g].remaps.length j
      | none => 0
    | _, _, _ =>
      match arr 0x10000 128 64 o, arr 0x20000 64 256 o with
      | some (c, j), _ => match fin? 64 c with
        | some c => remapWord s.spl.chans[c].remaps (j / 4)
        | none => 0
      | _, some (g, j) => match fin? 256 g with
        | some g => remapWord s.spl.groups[g].remaps (j / 4)
        | none => 0
      | none, none => 0

/-! ## Network, DMA, overlay, integrity and counters -/

/-- R428: ETH_BT_CNTp. -/
def btCount (e : EthPort) : Nat := e.crc * 2 ^ 24 + e.format * 65536 + e.noSpace * 256 + e.dup

/-- Block 0x12 (R428, R430). -/
def roEth (s : State) (o : Nat) : Nat :=
  match arr 0 0x1000 2 o with
  | some (n, j) => match fin? 2 n with
    | some p =>
      let e := s.eth.port[p]
      if j = 0x20 then b2n e.link * 2 ^ 31 + e.modeUp % 8 * 2 ^ 28 + min 65535 e.loss
      else if j = 0x24 then btCount e else 0
    | none => 0
  | none => 0

/-- Block 0x13 (R434, R439). -/
def roDma (s : State) (o : Nat) : Nat :=
  match arr 0x100 32 32 o with
  | some (n, j) => match fin? 32 n with
    | some ch =>
      let c := s.dma.ch[ch]
      if j = 8 then c.state * 2 ^ 29 + c.fault * 2 ^ 24 + min (2 ^ 24 - 1) c.hops
      else if j = 0x18 then half c.faultAddr 0
      else if j = 0x1C then half c.faultAddr 1 else 0
    | none => 0
  | none => 0

/-- Block 0x14 (R449). -/
def roOvl (s : State) (o : Nat) : Nat :=
  let v := s.ovl
  if o = 8 then
    b2n s.auxHold * 2 ^ 31 + b2n v.lost * 2 ^ 30 + b2n v.flushing * 2 ^ 29 + b2n v.overrun * 2 ^ 28
      + v.fifo.length % 4096 * 65536 + v.gaps * 256 + v.bad
  else if o = 0xC then (v.lastSheet.getD 0).toNat
  else 0

/-- Block 0x15 (R467). -/
def roInt (s : State) (o : Nat) : Nat :=
  let i := s.integ
  if o = 0 then
    b2n i.engineOk * 2 ^ 31 + b2n i.dstop * 2 ^ 30 + b2n i.parity * 2 ^ 29 + b2n i.pressRun * 2 ^ 28
      + min 255 i.prSkip * 2 ^ 20 + i.dcode.toNat
  else 0

/-- Block 0x16 (R470, R474, R475). -/
def roPmc (s : State) (o : Nat) : Nat :=
  if o = 4 then s.pmc.lost
  else match arr 0x100 32 64 o, arr 0x1000 16 16 o with
    | some (n, j), _ => match fin? 64 n with
      | some n =>
        if j = 0 then b2n s.pmc.ctr[n].ovf * 2 ^ 26
        else if j = 8 then half (s.counterValue n) 0 else 0
      | none => 0
    | _, some (m, j) => match fin? 16 m with
      | some m => if j = 4 then s.pmc.bw[m].last else if j = 8 then s.pmc.bw[m].peak else 0
      | none => 0
    | _, _ => 0

/-! ## The register file -/

/-- The LO registers of the pairs that are read as R133 states (R133, R285, R329, R470). -/
def snapshotLo (off : Nat) : Bool :=
  let o := off % 0x100000
  match off / 0x100000 with
  | 0x05 => (arr 0x10 8 10 o).any fun q => decide (q.2 = 0)
  | 0x0C => (arr 0 0x1000 2 o).any fun q => (arr 0x10 8 4 q.2).any fun w => decide (w.2 = 0)
  | 0x0E => (arr 0 0x1000 8 o).any fun q => (arr 0x70 8 4 q.2).any fun w => decide (w.2 = 0)
  | 0x16 => (arr 0x100 32 64 o).any fun q => decide (q.2 = 8)
  | _ => false

/-- The HI half, as it is now, of the pair whose LO register lies at an offset. -/
def liveHi (s : State) (off : Nat) : Nat :=
  let o := off % 0x100000
  match off / 0x100000 with
  | 0x05 => s.roJob (o + 4)
  | 0x0C => match fin? 2 (o / 0x1000) with
    | some m => half (encValue s m ((o % 0x1000 - 0x10) / 8)) 1
    | none => 0
  | 0x0E => match fin? 8 (o / 0x1000) with
    | some x => half (axisValue s.axis[x] ((o % 0x1000 - 0x70) / 8)) 1
    | none => 0
  | 0x16 => match fin? 64 ((o - 0x100) / 32) with
    | some n => half (s.counterValue n) 1
    | none => 0
  | _ => 0

/-- The fields of a register that the hardware drives. -/
def roBits (s : State) (off : Nat) : Nat :=
  let o := off % 0x100000
  match off / 0x100000 with
  | 0x00 => s.roSys o | 0x01 => s.roBoot o | 0x02 => s.roHif o | 0x03 => s.roMsix o | 0x04 => s.roSdr o
  | 0x05 => s.roJob o | 0x06 => s.roDcmp o | 0x07 => if o = 0x10 then mask 32 s.gpioSample else 0
  | 0x08 => s.roSe o | 0x09 => s.roRet o | 0x0A => s.roPrm o | 0x0B => s.roAbr o | 0x0C => s.roHls o
  | 0x0D => s.roMer o | 0x0E => s.roMot o | 0x0F => s.roEye o | 0x10 => s.roCal o | 0x11 => s.roSpl o
  | 0x12 => s.roEth o | 0x13 => s.roDma o | 0x14 => s.roOvl o | 0x15 => s.roInt o | 0x16 => s.roPmc o
  | _ => 0

/-- The value that a read of a register returns; an offset that no table lists reads 0 (R491). -/
def readReg (s : State) (off : Nat) : Word :=
  match regInfo off with
  | none => 0
  | some i =>
    if 4 ≤ off ∧ snapshotLo (off - 4) then tget (fun _ => 0) s.hif.hiCopy off
    else (s.rd off &&& BitVec.ofNat 32 i.rw) ||| BitVec.ofNat 32 (s.roBits off)

end State
end Sys2Proof.Machine
end

