-- ==== Sys2Proof/Machine/HostAccess.lean ====
section
/-!
DEFINITION. Host accesses to BAR0 and BAR4: the write of a register, field by field, with the conditions
of the register summary (R31, R490, R491), the refusals that a register's own rule adds, and what the write
starts; reads; the spool window (R95); and the low-power state (R155).
-/
namespace Sys2Proof.Machine
namespace State

/-- A function of R30 is stopped, and no restart of it is in progress. -/
def fnStopped (s : State) (f : FnRef) : Bool := !(s.fn f).running && !(s.fn f).busy

/-- The condition under which a register's fields that are not live are written. -/
def condHolds (s : State) : Cond → Bool
  | .never => false
  | .live => true
  | .engine => s.fnStopped .engine
  | .timebase => s.fnStopped .timebase
  | .bar k => (fin? 8 k).any fun k => s.fnStopped (.bar k)
  | .port p => (fin? 32 p).any fun p => s.fnStopped (.port p)
  | .cam c => (fin? 4 c).any fun c => s.fnStopped (.cam c)
  | .axis x => (fin? 8 x).any fun x => s.fnStopped (.axis x)
  | .stage2 => decide (s.sys.stage = 2)
  | .sdrIdle => !s.sdr.busy
  | .ringDown r => (fin? 128 r).any fun r => decide (s.hif.rings[r].state = .disabled)
  | .tslotIdle i => (fin? 256 i).any fun i => decide (s.mer.tslot[i].state ≠ .armed)
  | .pslotIdle j => (fin? 128 j).any fun j => decide (s.mer.pslot[j].state ≠ .armed)
  | .ptpOff => !s.ptpOn
  | .ethOff p => !s.fbit (aEthPort p 0) 31
  | .btOff => !s.fbit (aEthPort 0 0) 24 && !s.fbit (aEthPort 1 0) 24
  | .dmaDown ch => (fin? 32 ch).any fun ch => decide (s.dma.ch[ch].state ≠ 1 ∧ s.dma.ch[ch].state ≠ 2)
  | .noPrepared => !(all 32).any fun ch => decide (s.dma.ch[ch].state = 2) && s.fbit (aDma ch.1 0) 31
  | .occIdle => decide (s.occ.state ≠ 1)
  | .ctrOff n => !s.fbit (aPmcCtr n 0) 31
  | .bwOff m => !s.fbit (aPmcBw m 0) 31
  | .ffBank c b => (fin? 4 c).any fun c => !s.bankBusy c (setTone c) b

/-! ## Refusals of a register's own rule -/

/-- R472: the event number is reserved. -/
def reservedEvent (e : Nat) : Bool :=
  let n := e % 64
  match e / 64 with
  | 0 | 1 | 2 => false
  | 3 => decide (39 < n)
  | 4 => decide (40 < n)
  | 5 => decide (n = 7 ∨ 24 < n)
  | 6 => decide (36 < n)
  | _ => decide (39 < n) || decide (5 < n % 8)

/-- R473: the unit of a monitor lies outside the range of its kind. -/
def badMonitorUnit (kind unit : Nat) : Bool :=
  match kind with
  | 0 | 5 => decide (31 < unit)
  | 1 => decide (7 < unit)
  | 4 => decide (1 < unit)
  | 2 | 3 => decide (unit ≠ 0)
  | _ => true

/-- The value is one that the register's own rule refuses: `old` and `new` are its stored values. A WD_MAX of 0, outside the
range that R250 states, is refused by no rule, and is stored (DESIGN CHOICE, log entry 89). -/
def valueRefused (s : State) (off old new : Nat) : Bool :=
  let o := off % 0x100000
  match off / 0x100000 with
  | 0x00 => decide (o = 0xC ∧ new = 3)
  | 0x02 => decide (o = 0x20) && bit new 31 && decide (new % 65536 = 0)
  | 0x07 =>
    if o = 0 then decide ((old &&& s.rdN (aGpio 8)) &&& (new ^^^ full) ≠ 0)
    else if o = 8 then decide ((new &&& (old ^^^ full)) &&& (s.rdN (aGpio 0) ^^^ full) ≠ 0) else false
  | 0x0C => (arr 0x3000 16 8 o).any fun q => decide (q.2 = 4 ∧ old ≠ new) && s.fbit (aCal 0x200) 31
  | 0x0D => decide (o = 0x40) && bit new 31 && !bit old 31 && (decide (bits new 28 27 = 3) || decide (new % 65536 = 0))
  | 0x11 => decide (o = 8) && (decide (bits new 31 24 = 0) || decide (new % 65536 = 0))
  | 0x12 =>
    if o = 0x2000 then decide (bits new 15 8 = 0) || decide (bits new 7 4 = 0)
    else decide (o % 0x1000 = 0) && bit new 31 &&
      (decide (3 < bits new 30 28) || (!bit new 26 && decide (bits new 30 28 ≤ 1)) || (bit new 27 && decide (bits new 30 28 = 2)))
  | 0x13 => decide (o = 0) && decide (bits new 31 12 = 0)
  | 0x16 =>
    match arr 0x100 32 64 o, arr 0x1000 16 16 o with
    | some (n, 0), _ => bit new 31 &&
      (reservedEvent (new % 512) || (bit new 29 && decide (2 ^ 48 - s.rd64 (aPmcCtr n 0x10) < 4096)))
    | _, some (_, 0) => bit new 31 &&
      (badMonitorUnit (bits new 30 28) (bits new 27 22) || decide (bits new 19 0 = 0 ∨ 1000000 < bits new 19 0))
    | _, _ => false
  | _ => false

/-- R165: lanes out of service read 0 and cannot be set. -/
def settable (s : State) (off new : Nat) : Nat :=
  if off = aDcmp 0 then new - (new &&& mask 34 (fun l => s.exp.laneOut.contains l.1) % 2 ^ 32)
  else if off = aDcmp 4 then new - (new &&& mask 34 (fun l => s.exp.laneOut.contains l.1) / 2 ^ 32)
  else new

/-! ## BAR4 and the low-power state (R95, R155) -/

/-- R189: what is staged may change at a write of the staging area, whose arrangement is undefined. -/
def scrambleStaged (s : State) : State :=
  let n := s.free
  let f (d : Nat → Nat) (i : Nat) (t : Table Nat) : Table Nat :=
    (Config.stagedTable (n + i) t).foldl (fun u q => tput d u q.1 q.2) []
  let bars (k : Nat) (b : Bar) : Bar := { b with staged := ⟨f mapDefault (5 * k) b.staged.map,
    f curveDefault (5 * k + 1) b.staged.curve, f outDefault (5 * k + 2) b.staged.out,
    f arrayDefault (5 * k + 3) b.staged.array, f maskDefault (5 * k + 4) b.staged.mask⟩ }
  ((s.onBars fun v => v.mapFinIdx fun k b _ => bars k b).onSe fun u =>
    { u with stagedLevels := u.stagedLevels.mapFinIdx fun i t _ => f levelDefault (40 + i) t }).onFree (· + 72)

/-- R95, R410: a BAR4 write that is permitted is performed on QP2. -/
def bar4Store (a : Nat) (bs : List Byte) (s : State) : State :=
  let r := s.spoolPut 2 a bs
  let t := if r.2 then r.1 else r.1.errorUnit 0x0D05 .c unitNone 0 0x11
  if deviceArea < a + bs.length then t.scrambleStaged.onSpl fun u => { u with devHost := (a, bs.length) :: u.devHost } else t

/-- R155: the low-power state takes effect. -/
def setPower (n : Nat) (s : State) : State :=
  let t := s.onSys fun y => { y with lpCur := n }
  if n = 2 then t.forEach (all 64) enterSelfRefresh
  else if n = 0 then
    let t := t.takeCmpLanes
    (t.onHif fun h => { h with bar4 := [] }).forEach t.hif.bar4 fun w => bar4Store w.1 w.2
  else t

/-! ## What a write starts -/

/-- R362: a trigger output that rises at a host write. -/
def trigRises (s t : State) (c : CamIx) (u : State) : State :=
  if !s.trigPin c && t.trigPin c then u.onMer fun m => { m with trigRise := m.trigRise.set c.1 u.mer.time c.2 } else u

/-- R61: a GPIO whose MER bit is set holds the level of its GPIO_OUT bit. -/
def gpioHeld (s : State) (set : Nat) : State :=
  s.onMer fun m => { m with level := m.level.mapFinIdx fun i l _ => if bit set i then s.fbit (aGpio 4) i else l }

/-- What follows the store of a register: `old` and `new` are its stored values. -/
def afterWrite (off old new : Nat) (s : State) (t : State) : State :=
  let o := off % 0x100000
  let risen := !bit old 31 && bit new 31
  match off / 0x100000 with
  | 0x00 => if o = 0xC then t.setPower (new % 4) else t
  | 0x02 =>
    if o = 0x20 then (if bit new 31 then t else t.onHif fun h => { h with hb := .idle })
    else match arr 0x10000 0x40 128 o with
      | some (r, 0x18) => match fin? 128 r with
        | some r => (t.onRing r fun c => { c with unsig := if bit new 12 then c.unsig else 0 }).moderate r
        | none => t
      | _ => t
  | 0x03 => match arr 0 16 128 o with
    | some (v, 12) => match fin? 128 v with
      | some v => if bit new 0 then t else t.unmask v
      | none => t
    | _ => t
  | 0x07 => if o = 8 then t.gpioHeld (new &&& (old ^^^ full)) else t
  | 0x0D =>
    if o = 0x40 ∧ !bit old 31 then t.onMer fun m => { m with
      policy := bit new 30, offset := if risen then none else m.offset, good := if risen then 0 else m.good }
    else t
  | 0x0F => if o = 0x50000 then t.forEach (all 4) (trigRises s t) else t
  | 0x12 => match arr 0 0x1000 2 o with
    | some (p, 0) => match fin? 2 p with
      | some p => if bit new 31 then t else t.onEthPort p fun e => { e with link := false, modeUp := 0 }
      | none => t
    | _ => t
  | 0x14 => if o = 0 then t.rise (6 * 64 + 35) (!s.auxHold && t.auxHold) else t
  | 0x16 => match arr 0x1000 16 16 o with
    | some (m, 0) => match fin? 16 m with
      | some m => if risen then t.onMonitor m fun _ => ⟨0, 0, 0⟩ else t
      | none => t
    | _ => t
  | _ => t

/-- The stored fields that a write leaves. -/
def newValue (s : State) (off : Nat) (i : RegInfo) (v : Word) : Nat := s.settable off (v.toNat &&& i.rw)

/-- R31: a write, judged field by field, is refused: it changes a field that is not live while the register's condition
does not hold, or the register's own rule refuses the value. -/
def storeRefused (s : State) (off : Nat) (i : RegInfo) (v : Word) : Bool :=
  (decide ((s.rdN off ^^^ s.newValue off i v) &&& (i.rw ^^^ i.live) ≠ 0) && !s.condHolds i.cond)
    || s.valueRefused off (s.rdN off) (s.newValue off i v)

/-! ## Registers whose writes act -/

/-- R14: a write of `v` to the W1C register at `off` clears its bit `i`, which hardware has not set in this tick. -/
def clears (s : State) (off i : Nat) (v : Word) : Bool := v.getLsbD i && !s.heldW1c off i

/-- R87: SDR_STATUS. -/
def writeSdrStatus (v : Word) (s : State) : State :=
  s.onSdr fun d => { d with
    alarm := d.alarm.mapFinIdx fun n x _ => x && !s.clears (aSdr 0x24) (4 + n) v
    event := d.event.mapFinIdx fun n x _ => x && !s.clears (aSdr 0x24) n v }

/-- R250: PRM_WDOG_TRIP. -/
def writeTrip (v : Word) (s : State) : State :=
  if v ≠ 0 ∧ !s.fnStopped .engine then s.refuseWrite aPrmTrip v
  else s.onPorts fun l => l.mapFinIdx fun p q _ => { q with trip := q.trip && !s.clears aPrmTrip p v }

/-- R251: PRM_SAFE_STATUS: ESTOP_LATCH clears once ESTOP_n has been released for 10 ms. -/
def writeSafe (v : Word) (s : State) : State :=
  if s.clears aPrmSafe 30 v then s.onInteg fun i => { i with latch := i.latch && (i.estop || i.holdoff) } else s

/-- R449: OVL_STATUS. -/
def writeOvlStatus (v : Word) (s : State) : State :=
  if s.clears (aOvl 8) 28 v then s.onOvl fun o => { o with overrun := false } else s

/-- R447: OVL_CTRL. -/
def writeOvlCtrl (v : Word) (s : State) : State :=
  if v.getLsbD 31 && !s.ovl.flushing then s.watchHold State.startFlush else s

/-- R470: PMC_CTRn_LO or _HI, while EN reads 0. -/
def writeCounter (n : Fin 64) (hi : Bool) (v : Word) (s : State) : State :=
  let old := s.counterValue n
  let new := if hi then old % 2 ^ 32 + v.toNat % 65536 * 2 ^ 32 else old / 2 ^ 32 * 2 ^ 32 + v.toNat
  if old = new then s
  else if s.condHolds (.ctrOff n.1) then s.onCounter n fun c => { c with value := new }
  else s.refuseWrite (aPmcCtr n.1 (if hi then 12 else 8)) v

/-- R470: OVF of PMC_CTRn_CFG. -/
def clearOvf (n : Fin 64) (v : Word) (s : State) : State :=
  if s.clears (aPmcCtr n.1 0) 26 v then s.onCounter n fun c => { c with ovf := false } else s

/-- R493: RST_CTRL. -/
def writeRstCtrl (v : Word) (s : State) : State := if v.getLsbD 31 then s.warmReset .host .warm else s

/-- The registers whose writes are no plain stores. -/
def specialWrite (off : Nat) (v : Word) (s : State) : Option State :=
  let o := off % 0x100000
  match off / 0x100000 with
  | 0x00 => if o = 8 then some (s.writeRstCtrl v) else none
  | 0x01 => if o = 0 then some (s.writeBootCtrl v) else none
  | 0x02 =>
    if o = 0x24 then some s.heartbeat
    else (arr 0x10000 0x40 128 o).bind fun q =>
      if q.1 = 0 then some s.badAccess
      else if q.2 = 8 then (fin? 128 q.1).map fun r => s.writeSqCfg r v else none
  | 0x04 => if o = 0x20 then some (s.sdrCtrl v) else if o = 0x24 then some (s.writeSdrStatus v) else none
  | 0x0A => if o = 0x2004 then some (s.writeTrip v) else if o = 0x2008 then some (s.writeSafe v) else none
  | 0x0B => (arr 0 0x400 32 o).bind fun q => if q.2 = 0x20 then (fin? 32 q.1).map fun p => s.writeEyeCtrl p v else none
  | 0x0D =>
    if o = 0x10 then some (s.writeInc v) else if o = 0x44 then some (s.writePtpCtrl v)
    else match arr 0x10000 32 256 o, arr 0x20000 32 128 o with
      | some (i, 0x14), _ => (fin? 256 i).map fun i => s.writeSlotCtrl (.time i) v
      | _, some (j, 0x14) => (fin? 128 j).map fun j => s.writeSlotCtrl (.pos j) v
      | _, _ => none
  | 0x0E => (arr 0 0x1000 8 o).bind fun q => if q.2 = 0x60 then (fin? 8 q.1).map fun x => s.writeAxisCmd x v else none
  | 0x0F => (arr 0 0x10000 4 o).bind fun q => (fin? 4 q.1).bind fun c =>
    if q.2 = 0x10 then some (s.writePset c v) else if q.2 = 0x150 then some (s.writeXfer c v)
    else if q.2 = 0x144 then some (s.writeFf c v) else none
  | 0x10 => if o = 0x101C then some (s.writeOccCtrl v) else none
  | 0x11 => if o = 0xC then some (s.writeFlip v) else none
  | 0x13 => (arr 0x100 32 32 o).bind fun q => if q.2 = 4 then (fin? 32 q.1).map fun ch => s.writeDmaCtrl ch v else none
  | 0x14 => if o = 4 then some (s.writeOvlCtrl v) else if o = 8 then some (s.writeOvlStatus v) else none
  | 0x16 => (arr 0x100 32 64 o).bind fun q => (fin? 64 q.1).bind fun n =>
    if q.2 = 8 then some (s.writeCounter n false v) else if q.2 = 12 then some (s.writeCounter n true v) else none
  | _ => none

/-- The W1C field that stands beside stored fields. -/
def sideClear (off : Nat) (v : Word) (s : State) : State :=
  match off / 0x100000, arr 0x100 32 64 (off % 0x100000) with
  | 0x16, some (n, 0) => match fin? 64 n with
    | some n => s.clearOvf n v
    | none => s
  | _, _ => s

/-- R31: a write of stored fields: the register keeps its old value, or takes the new one. -/
def storeReg (off : Nat) (i : RegInfo) (v : Word) (s : State) : State :=
  if s.storeRefused off i v then s.refuseWrite off v
  else sideClear off v (afterWrite off (s.rdN off) (s.newValue off i v) s (s.wrN off (s.newValue off i v)))

/-- A write of one register that meets R93. -/
def writeReg (off : Nat) (v : Word) (s : State) : State :=
  match regInfo off with
  | none => s.badAccess
  | some i => match s.specialWrite off v with
    | some t => t
    | none => storeReg off i v s

/-! ## BAR0 -/

/-- The last reset was a warm one (R80). -/
def afterWarm (s : State) : Bool := decide (s.sys.cause = .sysrst ∨ s.sys.cause = .host ∨ s.sys.cause = .wdog)

/-- R79, R487: the device completes memory accesses: throughout what follows a warm reset, which leaves the PCIe group
running; after a cold reset, once the boot ROM awaits the host or firmware runs, since until then the endpoint answers
configuration requests with Request Retry Status; and not in D3hot (R91). -/
def bar0Up (s : State) : Bool :=
  s.clear && s.hif.linkUp && !s.hif.pcie.d3hot && (s.afterWarm || decide (2 ≤ s.sys.stage))

/-- R487: before firmware is ready BAR0 answers only the boot registers. -/
def bootOnly (s : State) (off : Nat) : Bool := !s.sys.fwReady && ((regInfo off).isNone || decide (off / 0x100000 ≠ 1))

/-- R92, R93: an access of BAR0 of one double word, or of two, is naturally aligned. -/
def aligned (off : Nat) (two : Bool) : Bool := decide (off % (if two then 8 else 4) = 0)

/-- A 1 DW write in BAR0. -/
def bar0Write (off : Nat) (v : Word) (s : State) : State :=
  if s.bootOnly off then s.hostIn 4 else (s.hostIn 4).writeReg off v

/-- R79, R93: a write in BAR0 that is not naturally aligned is discarded, and counted once firmware is ready. -/
def badBar0 (s : State) : State := if s.sys.fwReady then s.badAccess else s

/-- R61: what a read of GPIO_IN finds at a ball: a free level at an input whose level no command tells (log entry 94). -/
def gpioRead (s : State) (n : Fin 32) : Bool :=
  if s.gpioDrives n || s.gpioKnown n then s.gpioSample n else bit s.freeNat n.1

/-- The value of a 1 DW read in BAR0, and the state after its side effects (R83, R93, R133, R305, R428, R491). -/
def bar0Read (off : Nat) (s : State) : State × Word :=
  if s.bootOnly off then (s, 0xFFFFFFFF)
  else if (regInfo off).isNone then (s.badAccess, 0)
  else
    let v := s.readReg off
    if snapshotLo off then
      (s.onHif fun h => { h with hiCopy := tput (fun _ => 0) h.hiCopy (off + 4) (BitVec.ofNat 32 (s.liveHi off)) }, v)
    else if off = aSdr 0 then (s.onSdr fun d => { d with secCopy := d.sec }, v)
    else if off = aGpio 0x10 then (s.useFree, BitVec.ofNat 32 (mask 32 s.gpioRead))
    else if off = aMer 0 then (s.onMer fun m => { m with copy := m.time }, v)
    else if off = aEthPort 0 0x24 then (s.onEthPort 0 fun e => { e with crc := 0, format := 0, noSpace := 0, dup := 0 }, v)
    else if off = aEthPort 1 0x24 then (s.onEthPort 1 fun e => { e with crc := 0, format := 0, noSpace := 0, dup := 0 }, v)
    else (s, v)

/-! ## BAR4 -/

/-- R95, R494: the usable spool address of an offset in BAR4. -/
def bar4Addr (s : State) (o : Nat) : Nat := s.fld aHifDbg 4 0 * 2 ^ 32 + o

/-- R95, R155: a read of BAR4. -/
def bar4Get (o len : Nat) (s : State) : State :=
  let a := s.bar4Addr o
  if s.sys.lpCur = 2 then s.badAccess.replyData (List.replicate len 0xFF)
  else
    let n := min len (spoolSize - a)
    let t := if spoolSize < a + len then s.badAccess else s
    let r := if n = 0 then (t, some []) else t.spoolGet 2 a n
    match r.2 with
    | none => ((r.1.errorUnit 0x0D05 .c unitNone 0 0x11).hostOut len).emit .poisonedReply
    | some bs => r.1.replyData (bs ++ List.replicate (len - n) 0)

/-- R189: where the 512 MB that only the device uses begin. -/
def deviceOnly : Nat := deviceArea + 268435456

/-- R95, R155: a write of BAR4. -/
def bar4Put (o : Nat) (bs : List Byte) (s : State) : State :=
  let a := s.bar4Addr o
  if !s.fbit aHifDbg 31 || !s.fnStopped .engine || decide (deviceOnly < a + bs.length) then s.badAccess
  else if s.sys.lpCur = 2 then s.onHif fun h => { h with bar4 := h.bar4 ++ [(a, bs)] }
  else s.bar4Store a bs

end State

/-! ## The commands -/

/-- R155: a write of SYS_POWER. -/
def execLpsWrite (v : Word) (s : State) : Result := .next (if s.hostUp then (s.hostIn 4).writeReg aSysPower v else s)

/-- R31, R93: a write to a register of BAR0, or to two that follow one another, lower address first. -/
def execRegisterWrite (off : BitVec 26) (data : WriteData) (s : State) : Result :=
  .next (if !s.bar0Up then s
    else if !State.aligned off.toNat data.second.isSome then s.badBar0
    else
      let t := s.bar0Write off.toNat data.first
      match data.second with
      | some w => if t.bar0Up then t.bar0Write (off.toNat + 4) w else t
      | none => t)

/-- R93, R133: a read of a LO register, or of any other register of BAR0, or of two that follow one another, lower address
first. -/
def execSnapshotLoRead (read : ReadRequest) (s : State) : Result :=
  .next (if !s.bar0Up then s
    else if !State.aligned read.off.toNat read.two then s.badBar0.replyData (List.replicate (if read.two then 8 else 4) 0xFF)
    else
      let r := s.bar0Read read.off.toNat
      if read.two then
        let q := r.1.bar0Read (read.off.toNat + 4)
        q.1.replyData (leBytes 4 r.2.toNat ++ leBytes 4 q.2.toNat)
      else r.1.reply r.2)

/-- R79, R93, R94: an access of BAR0 of the wrong size, alignment or byte enables, and one of BAR2 outside the doorbells: a
read of BAR0 is answered with all bytes 0xFF and one of BAR2 with 0; a write is discarded; and all but a read of BAR2 are
counted, once firmware is ready. -/
def execBarBadAccess (a : BadAccess) (s : State) : Result :=
  .next (if !s.bar0Up then s
    else match a with
    | .bar0Read len => s.badBar0.replyData (List.replicate len 0xFF)
    | .bar2Read len => s.replyData (List.replicate len 0)
    | .bar0Write | .bar2Write => s.badBar0)

/-- R79, R95: a read of BAR4; until firmware is ready it returns ones. A request never runs past the end of the window. -/
def execBar4Read (addr : BitVec 32) (len : Nat) (s : State) : Result :=
  let n := min len (2 ^ 32 - addr.toNat)
  .next (if !s.bar0Up then s
    else if !s.sys.fwReady then s.replyData (List.replicate n 0xFF)
    else s.bar4Get addr.toNat n)

/-- R79, R95: a write of BAR4; until firmware is ready it is discarded. -/
def execBar4Write (addr : BitVec 32) (data : List Byte) (s : State) : Result :=
  let bs := data.take (2 ^ 32 - addr.toNat)
  .next (if s.hostUp then (s.hostIn bs.length).bar4Put addr.toNat bs else s)

end Sys2Proof.Machine
end

