-- ==== Sys2Proof/Machine/HostLink.lean ====
section
/-!
DEFINITION. Loss and return of the PCIe link (R76, R125), and failed host-memory accesses (R126, R439).
-/
namespace Sys2Proof.Machine
namespace State

/-! ## What a failure ends -/

/-- A landing of an entry, reserved or waiting: the source names the ring and the entry. -/
def landOwner : LandSource → Option (RingIx × Entry)
  | .entry r e => some (r, e)
  | .gather r e _ => some (r, e)
  | .transport => none

/-- The position of the reservation of an entry's landing. -/
def landSpan (s : State) (r : RingIx) (e : Entry) : Option Span :=
  s.job.spans.find? fun x => match x.use with
    | .landing src => decide (landOwner src = some (r, e))
    | _ => false

/-- A COMPRESS entry leaves its lane, or those that wait for one. -/
def dropCompress (r : RingIx) (e : Entry) (s : State) : State :=
  let mine := fun (j : CmpJob) => decide (j.ring = r) && decide (j.entry = e)
  s.onExp fun x => { x with
    cmp := x.cmp.map fun o => o.filter fun j => !mine j
    cmpWait := x.cmpWait.filter fun j => !mine j }

/-- R126: a running entry whose bulk access fails: nothing of it is staged, queued or published. -/
def abortEntry (r : RingIx) (e : Entry) (code : Code) (s : State) : State :=
  let t := match s.landSpan r e with
    | some x => s.setSpan x.pos .dead
    | none => s
  (t.dropCompress r e).failBulk r e code 2

/-! ## Link loss (R125) -/

/-- The entries whose transfers to or from host memory are under way: landings, and COMPRESS entries that write to a host
buffer. -/
def hostEntries (s : State) : List (RingIx × Entry) :=
  (s.job.spans.filterMap fun x => match x.use with
    | .landing src => landOwner src
    | _ => none)
  ++ ((s.exp.cmp.toList.filterMap id ++ s.exp.cmpWait).filter fun j => !cmpOutSpool j.entry).map fun j => (j.ring, j.entry)

/-- R125, R512: a host ring goes to HALTED with cause 5, a DISABLED one too, since the rule says every host ring: events due on it, and the message that it owes, are discarded
and counted. -/
def loseRing (r : RingIx) (s : State) : State :=
  let n := s.hif.rings[r].due.length + b2n (decide (0 < s.hif.rings[r].unsig))
  let t := s.onHif fun h => { h with lostEvents := sat32 (h.lostEvents + n) }
  (t.onRing r fun c => { c with due := [], unsig := 0, bells := [] }).haltRing r 5

/-- A prepared channel has host memory in hand: its descriptor, or an end of its transfer. -/
def dmaOnHost (s : State) (ch : DmaIx) : Bool :=
  let c := s.dma.ch[ch]
  s.prepared ch && decide (c.state = 2) && match c.xfer with
    | none => !c.descSpool
    | some x => !x.dstSpool || x.runs.any fun q => !q.2.2

/-- R41, R125: the link is lost. The MSI-X table and its PBA stay (DESIGN CHOICE, log entry 89). -/
def loseLink (s : State) : State :=
  let t := s.onHif fun h => { h with linkUp := false }
  let t := t.forEach ((all 128).filter fun r => decide (r.1 ≠ 0)) loseRing
  let t := t.forEach s.hostEntries fun q => abortEntry q.1 q.2 0x0104
  let t := t.forEach ((all 32).filter s.dmaOnHost) fun ch u => u.dmaHalt ch 3 (s.dma.ch[ch].desc)
  t.orderlyStop

/-! ## Failed accesses (R126, R439) -/

/-- R126: the code of a failed access. -/
def accessCode (timeout : Bool) : Code := if timeout then 0x0105 else 0x0104

/-- R472: a completion timeout. -/
def countTimeout (timeout : Bool) (s : State) : State := if timeout then s.count (5 * 64 + 6) 1 else s

/-- An entry reads or writes host memory beside itself. -/
def hasBulk (e : Entry) : Bool :=
  decide (opcode e = 1 ∨ opcode e = 2 ∨ (7 ≤ opcode e ∧ opcode e ≤ 0x0A)) || (decide (opcode e = 0x0B) && decide (fieldAt e 4 4 ≠ 0))

/-- R126: the bulk access of an entry fails: one that runs, or the next one of its ring as it starts. -/
def failAccess (r : RingIx) (tag : BitVec 16) (timeout : Bool) (s : State) : State :=
  match s.hif.rings[r].running.find? fun x => decide (entryTag x.1 = tag) && hasBulk x.1 with
  | some x => (s.countTimeout timeout).abortEntry r x.1 (accessCode timeout)
  | none => match s.entry? r with
    | none => s
    | some e =>
      if entryTag e = tag && hasBulk e && s.commonForm r e then
        if opcode e = 0x0B then ((s.countTimeout timeout).begin r).fail r e (accessCode timeout) 2
        else (s.countTimeout timeout).withPool r e fun t => t.failBulk r e (accessCode timeout) 2
      else s

/-- R126, R439: what a failed access does. -/
def accessFails (a : HostAccess) (s : State) : State :=
  match a with
  | .entryFetch r addr =>
    if s.fetchable r then (s.onHif fun h => { h with faultAddr := addr.toNat }).haltRing r 3 else s
  | .eventWrite r =>
    if s.hif.rings[r].state ≠ .disabled ∧ s.hif.rings[r].lostHalt = false then s.haltRing r 4 else s
  | .bulk r tag timeout => s.failAccess r tag timeout
  | .descriptor ch timeout =>
    if s.dmaOnHost ch then (s.countTimeout timeout).dmaHalt ch (if timeout then 2 else 3) s.dma.ch[ch].desc else s

end State

/-! ## The commands -/

/-- R125: the link is lost, by any of its causes. -/
def execLinkLoss (_cause : LinkCause) (s : State) : Result :=
  .next (if !s.hif.linkUp then s else if s.up then s.loseLink else s.onHif fun h => { h with linkUp := false })

/-- R125: the Data Link Layer reports DL_Active, and a Function Level Reset has completed. -/
def execLinkReturn (s : State) : Result :=
  .next (if s.clear && s.sys.pll then s.onHif fun h => { h with linkUp := true } else s)

/-- R126: a host-memory access fails. -/
def execHostAccessFail (a : HostAccess) (s : State) : Result :=
  .next (if s.hostUp then s.accessFails a else s)

end Sys2Proof.Machine
end

