-- ==== Sys2Proof/Machine/Dispatch.lean ====
section
/-!
DEFINITION. The dispatch of the commands: one arm per row of the table of operations and events.
-/
namespace Sys2Proof.Machine
open Sys2Proof

/-- The effect of one command on everything but the queue. -/
def exec (i : Instr) (s : State) : Host.Outcome State Fault Refusal :=
  match i with
  | .porstNAssert suppliesUp => Sys2Proof.Machine.execPorstNAssert suppliesUp s
  | .porstNRelease => Sys2Proof.Machine.execPorstNRelease s
  | .supplyMonitorTrip rail => Sys2Proof.Machine.execSupplyMonitorTrip rail s
  | .refclkLoss => Sys2Proof.Machine.execRefclkLoss s
  | .overtempWarning sensor => Sys2Proof.Machine.execOvertempWarning sensor s
  | .overtempStop sensor => Sys2Proof.Machine.execOvertempStop sensor s
  | .overtempRecovered => Sys2Proof.Machine.execOvertempRecovered s
  | .sysrstNAssert ns => Sys2Proof.Machine.execSysrstNAssert ns s
  | .rstCtrlWarm v => Sys2Proof.Machine.execRstCtrlWarm v s
  | .coreWatchdogExpiry core => Sys2Proof.Machine.execCoreWatchdogExpiry core s
  | .mainPllLock => Sys2Proof.Machine.execMainPllLock s
  | .otpReadDone => Sys2Proof.Machine.execOtpReadDone s
  | .meridianSeed => Sys2Proof.Machine.execMeridianSeed s
  | .hbmTrainingDone => Sys2Proof.Machine.execHbmTrainingDone s
  | .bootSlotVerifyDone a b bad => Sys2Proof.Machine.execBootSlotVerifyDone a b bad s
  | .bootAwaitHost => Sys2Proof.Machine.execBootAwaitHost s
  | .bootGo v => Sys2Proof.Machine.execBootGo v s
  | .hostImageVerifyDone image bad => Sys2Proof.Machine.execHostImageVerifyDone image bad s
  | .bootPortProbe found => Sys2Proof.Machine.execBootPortProbe found s
  | .firmwareReady => Sys2Proof.Machine.execFirmwareReady s
  | .siderealPowerOnReset => Sys2Proof.Machine.execSiderealPowerOnReset s
  | .siderealTick => Sys2Proof.Machine.execSiderealTick s
  | .sdrLoad v => Sys2Proof.Machine.execSdrLoad v s
  | .sdrArm n v => Sys2Proof.Machine.execSdrArm n v s
  | .sdrDisarm n v => Sys2Proof.Machine.execSdrDisarm n v s
  | .sdrSubRead => Sys2Proof.Machine.execSdrSubRead s
  | .comparatorSample n level => Sys2Proof.Machine.execComparatorSample n level s
  | .linkLoss cause => Sys2Proof.Machine.execLinkLoss cause s
  | .linkReturn => Sys2Proof.Machine.execLinkReturn s
  | .sqDoorbell r v => Sys2Proof.Machine.execSqDoorbell r v s
  | .eqDoorbell r v => Sys2Proof.Machine.execEqDoorbell r v s
  | .ringEnable r v => Sys2Proof.Machine.execRingEnable r v s
  | .ringDisable r v => Sys2Proof.Machine.execRingDisable r v s
  | .ringDrainComplete r => Sys2Proof.Machine.execRingDrainComplete r s
  | .entryFetch entries => Sys2Proof.Machine.execEntryFetch entries s
  | .hostAccessFail a => Sys2Proof.Machine.execHostAccessFail a s
  | .nop r => Sys2Proof.Machine.execNop r s
  | .bandWrite r => Sys2Proof.Machine.execBandWrite r s
  | .bandGather r table => Sys2Proof.Machine.execBandGather r table s
  | .jobOpen r => Sys2Proof.Machine.execJobOpen r s
  | .jobClose r => Sys2Proof.Machine.execJobClose r s
  | .sheet r => Sys2Proof.Machine.execSheet r s
  | .functionStop r => Sys2Proof.Machine.execFunctionStop r s
  | .functionRestart r => Sys2Proof.Machine.execFunctionRestart r s
  | .functionGapEffect f => Sys2Proof.Machine.execFunctionGapEffect f s
  | .functionStopComplete f => Sys2Proof.Machine.execFunctionStopComplete f s
  | .functionRestartComplete f finds => Sys2Proof.Machine.execFunctionRestartComplete f finds s
  | .tableLoad r payload => Sys2Proof.Machine.execTableLoad r payload s
  | .overlayPatch r payload => Sys2Proof.Machine.execOverlayPatch r payload s
  | .spoolRead r => Sys2Proof.Machine.execSpoolRead r s
  | .compress r input chain => Sys2Proof.Machine.execCompress r input chain s
  | .compressLaneDone lane => Sys2Proof.Machine.execCompressLaneDone lane s
  | .version r => Sys2Proof.Machine.execVersion r s
  | .ledgerClear r => Sys2Proof.Machine.execLedgerClear r s
  | .ledgerRead r => Sys2Proof.Machine.execLedgerRead r s
  | .healthSnapshot r => Sys2Proof.Machine.execHealthSnapshot r s
  | .serviceState r => Sys2Proof.Machine.execServiceState r s
  | .rollbackCommit r => Sys2Proof.Machine.execRollbackCommit r s
  | .echo r => Sys2Proof.Machine.execEcho r s
  | .eventPost t => Sys2Proof.Machine.execEventPost t s
  | .msixModerationTimeout r => Sys2Proof.Machine.execMsixModerationTimeout r s
  | .msixUnmask vector => Sys2Proof.Machine.execMsixUnmask vector s
  | .hifHb v => Sys2Proof.Machine.execHifHb v s
  | .heartbeatTimeout => Sys2Proof.Machine.execHeartbeatTimeout s
  | .bar4Read addr len => Sys2Proof.Machine.execBar4Read addr len s
  | .bar4Write addr data => Sys2Proof.Machine.execBar4Write addr data s
  | .barBadAccess a => Sys2Proof.Machine.execBarBadAccess a s
  | .registerWrite off data => Sys2Proof.Machine.execRegisterWrite off data s
  | .snapshotLoRead read => Sys2Proof.Machine.execSnapshotLoRead read s
  | .merTimeFracRead => Sys2Proof.Machine.execMerTimeFracRead s
  | .ethBtCntRead p => Sys2Proof.Machine.execEthBtCntRead p s
  | .lpsWrite v => Sys2Proof.Machine.execLpsWrite v s
  | .spoolReservation => Sys2Proof.Machine.execSpoolReservation s
  | .containerLanded pos host => Sys2Proof.Machine.execContainerLanded pos host s
  | .sheetEdge edge => Sys2Proof.Machine.execSheetEdge edge s
  | .pressRunChange level => Sys2Proof.Machine.execPressRunChange level s
  | .bandFetchRequest k => Sys2Proof.Machine.execBandFetchRequest k s
  | .laneGrant => Sys2Proof.Machine.execLaneGrant s
  | .sliceEnd lane upset => Sys2Proof.Machine.execSliceEnd lane upset s
  | .spoolRequestServe c upset => Sys2Proof.Machine.execSpoolRequestServe c upset s
  | .hbmScrubRead c upset writeSince => Sys2Proof.Machine.execHbmScrubRead c upset writeSince s
  | .sramScrubRead g region find writeSince => Sys2Proof.Machine.execSramScrubRead g region find writeSince s
  | .bucketLeak b => Sys2Proof.Machine.execBucketLeak b s
  | .selfRefreshEntry c => Sys2Proof.Machine.execSelfRefreshEntry c s
  | .scrubWake c => Sys2Proof.Machine.execScrubWake c s
  | .caParityAlert c failures => Sys2Proof.Machine.execCaParityAlert c failures s
  | .flipArm v => Sys2Proof.Machine.execFlipArm v s
  | .rowCompute k m fault => Sys2Proof.Machine.execRowCompute k m fault s
  | .trimEpochBoundary k => Sys2Proof.Machine.execTrimEpochBoundary k s
  | .trimTargetCommit k epoch => Sys2Proof.Machine.execTrimTargetCommit k epoch s
  | .calBatch k => Sys2Proof.Machine.execCalBatch k s
  | .patchAccept src => Sys2Proof.Machine.execPatchAccept src s
  | .rowWrite k => Sys2Proof.Machine.execRowWrite k s
  | .rowTransmit p badWord => Sys2Proof.Machine.execRowTransmit p badWord s
  | .rowReplay p badWord => Sys2Proof.Machine.execRowReplay p badWord s
  | .rowFrameEnd p => Sys2Proof.Machine.execRowFrameEnd p s
  | .respRx p row code => Sys2Proof.Machine.execRespRx p row code s
  | .ackTimeout p row => Sys2Proof.Machine.execAckTimeout p row s
  | .deliveryDeadline k row => Sys2Proof.Machine.execDeliveryDeadline k row s
  | .ackDeadline p row => Sys2Proof.Machine.execAckDeadline p row s
  | .fireCommit p => Sys2Proof.Machine.execFireCommit p s
  | .strobeLeadingEdge p => Sys2Proof.Machine.execStrobeLeadingEdge p s
  | .strobeTrailingEdge p => Sys2Proof.Machine.execStrobeTrailingEdge p s
  | .strobeWatchdogTrip p => Sys2Proof.Machine.execStrobeWatchdogTrip p s
  | .estopAssert => Sys2Proof.Machine.execEstopAssert s
  | .estopRelease => Sys2Proof.Machine.execEstopRelease s
  | .estopHoldoffExpiry => Sys2Proof.Machine.execEstopHoldoffExpiry s
  | .trainT0Elapsed p => Sys2Proof.Machine.execTrainT0Elapsed p s
  | .trainRx p inverted step sub data => Sys2Proof.Machine.execTrainRx p inverted step sub data s
  | .trainTimeout p => Sys2Proof.Machine.execTrainTimeout p s
  | .pongRx p seq trip => Sys2Proof.Machine.execPongRx p seq trip s
  | .configEchoRx p fields reserved => Sys2Proof.Machine.execConfigEchoRx p fields reserved s
  | .configEchoTimeout p => Sys2Proof.Machine.execConfigEchoTimeout p s
  | .heartbeatTx p => Sys2Proof.Machine.execHeartbeatTx p s
  | .moduleHeartbeatRx p modState strobes seq free => Sys2Proof.Machine.execModuleHeartbeatRx p modState strobes seq free s
  | .moduleHeartbeatLoss p => Sys2Proof.Machine.execModuleHeartbeatLoss p s
  | .rxBlockLockLoss p => Sys2Proof.Machine.execRxBlockLockLoss p s
  | .rxBlockLockAcquire p => Sys2Proof.Machine.execRxBlockLockAcquire p s
  | .linkFaultRx p cause => Sys2Proof.Machine.execLinkFaultRx p cause s
  | .invalidBlockRx block => Sys2Proof.Machine.execInvalidBlockRx block s
  | .alignRx p bip carried => Sys2Proof.Machine.execAlignRx p bip carried s
  | .alignTx p => Sys2Proof.Machine.execAlignTx p s
  | .tempRx p sensor temp => Sys2Proof.Machine.execTempRx p sensor temp s
  | .tempStale p sensor => Sys2Proof.Machine.execTempStale p sensor s
  | .nozzleRx p reports => Sys2Proof.Machine.execNozzleRx p reports s
  | .refreshTx p => Sys2Proof.Machine.execRefreshTx p s
  | .refreshRx p => Sys2Proof.Machine.execRefreshRx p s
  | .adaptationFreeze p => Sys2Proof.Machine.execAdaptationFreeze p s
  | .adaptationResume p => Sys2Proof.Machine.execAdaptationResume p s
  | .portFaultBurstEnd p => Sys2Proof.Machine.execPortFaultBurstEnd p s
  | .eyeScanStart p v => Sys2Proof.Machine.execEyeScanStart p v s
  | .eyeScanDone p errors => Sys2Proof.Machine.execEyeScanDone p errors s
  | .encoderTransition m levels disagree => Sys2Proof.Machine.execEncoderTransition m levels disagree s
  | .encoderZEdge m => Sys2Proof.Machine.execEncoderZEdge m s
  | .encoderIdleTimeout m => Sys2Proof.Machine.execEncoderIdleTimeout m s
  | .estimatorRecord m disagree => Sys2Proof.Machine.execEstimatorRecord m disagree s
  | .estimatorHistoryClear m => Sys2Proof.Machine.execEstimatorHistoryClear m s
  | .feedStart => Sys2Proof.Machine.execFeedStart s
  | .feedComplete => Sys2Proof.Machine.execFeedComplete s
  | .timeSlotDue slot disagree => Sys2Proof.Machine.execTimeSlotDue slot disagree s
  | .outputPulseEnd o => Sys2Proof.Machine.execOutputPulseEnd o s
  | .predictedSlotDue j => Sys2Proof.Machine.execPredictedSlotDue j s
  | .dispatchIssue => Sys2Proof.Machine.execDispatchIssue s
  | .slotArm slot v => Sys2Proof.Machine.execSlotArm slot v s
  | .slotDisarm slot v => Sys2Proof.Machine.execSlotDisarm slot v s
  | .merIncWrite v => Sys2Proof.Machine.execMerIncWrite v s
  | .gpioCaptureEdge second rising => Sys2Proof.Machine.execGpioCaptureEdge second rising s
  | .ptpEventRx p latency len => Sys2Proof.Machine.execPtpEventRx p latency len s
  | .ptpEventTx p sent => Sys2Proof.Machine.execPtpEventTx p sent s
  | .ptpOffsetSample offset => Sys2Proof.Machine.execPtpOffsetSample offset s
  | .announceLoss => Sys2Proof.Machine.execAnnounceLoss s
  | .ptpMasterChange => Sys2Proof.Machine.execPtpMasterChange s
  | .ptpResume v => Sys2Proof.Machine.execPtpResume v s
  | .moveAbs x => Sys2Proof.Machine.execMoveAbs x s
  | .moveRel x => Sys2Proof.Machine.execMoveRel x s
  | .jog x => Sys2Proof.Machine.execJog x s
  | .gear x => Sys2Proof.Machine.execGear x s
  | .stop x => Sys2Proof.Machine.execStop x s
  | .resume x => Sys2Proof.Machine.execResume x s
  | .home x => Sys2Proof.Machine.execHome x s
  | .setPos x => Sys2Proof.Machine.execSetPos x s
  | .quickStop x => Sys2Proof.Machine.execQuickStop x s
  | .clear x => Sys2Proof.Machine.execClear x s
  | .queueMove x v => Sys2Proof.Machine.execQueueMove x v s
  | .axisAtRest x => Sys2Proof.Machine.execAxisAtRest x s
  | .axisEncoderTransition x a b => Sys2Proof.Machine.execAxisEncoderTransition x a b s
  | .axisEncoderZEdge x => Sys2Proof.Machine.execAxisEncoderZEdge x s
  | .stallDetect x => Sys2Proof.Machine.execStallDetect x s
  | .switchChange x sw level held => Sys2Proof.Machine.execSwitchChange x sw level held s
  | .csiFrameStart c h => Sys2Proof.Machine.execCsiFrameStart c h s
  | .csiLine c h pixels fate => Sys2Proof.Machine.execCsiLine c h pixels fate s
  | .csiFrameEnd c h => Sys2Proof.Machine.execCsiFrameEnd c h s
  | .memorySliceProcess => Sys2Proof.Machine.execMemorySliceProcess s
  | .recordWritten record => Sys2Proof.Machine.execRecordWritten record s
  | .cameraNoFsTimeout c => Sys2Proof.Machine.execCameraNoFsTimeout c s
  | .psetCommit c v => Sys2Proof.Machine.execPsetCommit c v s
  | .cciHostTransfer c v => Sys2Proof.Machine.execCciHostTransfer c v s
  | .cciTransferDone c acked data => Sys2Proof.Machine.execCciTransferDone c acked data s
  | .ffDataWrite c v => Sys2Proof.Machine.execFfDataWrite c v s
  | .occStart v => Sys2Proof.Machine.execOccStart v s
  | .occAbort v => Sys2Proof.Machine.execOccAbort v s
  | .occGateEdge g rising => Sys2Proof.Machine.execOccGateEdge g rising s
  | .occWindowEnd => Sys2Proof.Machine.execOccWindowEnd s
  | .ledgerAppend hung reads => Sys2Proof.Machine.execLedgerAppend hung reads s
  | .btDataRx p source msg => Sys2Proof.Machine.execBtDataRx p source msg s
  | .btGapTimeout job plane band => Sys2Proof.Machine.execBtGapTimeout job plane band s
  | .firmwareFrameRx p withinRate len => Sys2Proof.Machine.execFirmwareFrameRx p withinRate len s
  | .ethLinkLoss p => Sys2Proof.Machine.execEthLinkLoss p s
  | .ethLinkUp p => Sys2Proof.Machine.execEthLinkUp p s
  | .dmaGo ch v => Sys2Proof.Machine.execDmaGo ch v s
  | .dmaReady ch v => Sys2Proof.Machine.execDmaReady ch v s
  | .dmaAbort ch v => Sys2Proof.Machine.execDmaAbort ch v s
  | .dmaClear ch v => Sys2Proof.Machine.execDmaClear ch v s
  | .descriptorFetch ch d table => Sys2Proof.Machine.execDescriptorFetch ch d table s
  | .dmaBeat host => Sys2Proof.Machine.execDmaBeat host s
  | .dmaChainDone ch => Sys2Proof.Machine.execDmaChainDone ch s
  | .overlayInputWord d soi mismatch => Sys2Proof.Machine.execOverlayInputWord d soi mismatch s
  | .overlayItemRead mismatch => Sys2Proof.Machine.execOverlayItemRead mismatch s
  | .ovlFlush v => Sys2Proof.Machine.execOvlFlush v s
  | .ovlFlushDone => Sys2Proof.Machine.execOvlFlushDone s
  | .rejectPulseEnd => Sys2Proof.Machine.execRejectPulseEnd s
  | .pinCheckFault pin => Sys2Proof.Machine.execPinCheckFault pin s
  | .pmcCounterWrap n => Sys2Proof.Machine.execPmcCounterWrap n s
  | .pmcSampleTaken n offset task skid => Sys2Proof.Machine.execPmcSampleTaken n offset task skid s
  | .bwWindowEnd m => Sys2Proof.Machine.execBwWindowEnd m s
  | .sysrstNRelease => Sys2Proof.Machine.execSysrstNRelease s
  | .warmResetEnd => Sys2Proof.Machine.execWarmResetEnd s
  | .refclkReturn => Sys2Proof.Machine.execRefclkReturn s
  | .supplyRecovered => Sys2Proof.Machine.execSupplyRecovered s
  | .mainRailsOff => Sys2Proof.Machine.execMainRailsOff s
  | .announceRx => Sys2Proof.Machine.execAnnounceRx s
  | .sheetEdgeCapture input => Sys2Proof.Machine.execSheetEdgeCapture input s
  | .nozzleStopHoldoffExpiry k => Sys2Proof.Machine.execNozzleStopHoldoffExpiry k s

end Sys2Proof.Machine
end

