-- ==== Sys2Proof/Machine/Tick.lean ====
section
/-!
DEFINITION. One CLK_TIME tick of 2.5 ns in which no command comes: Meridian's time advances (R306), the axes
that move follow their profiles (R333, R334), and the counters in level mode count (R469). The tick is what a
step on an empty queue does (DESIGN CHOICE).
-/
namespace Sys2Proof.Machine
namespace State

/-- R472: the level-type condition of an event number; `none` where the condition is one that the state does not
tell (a control core at work, engines awaiting input), or the event is edge-type. -/
def levelHolds (s : State) (e : Nat) : Option Bool :=
  let n := e % 64
  match e / 64 with
  | 1 => if n % 2 = 1 then (fin? 32 (n / 2)).map fun p => decide (s.port[p].link.lstate ≠ 6) else none
  | 3 => match fin? 34 n, fin? 4 (n - 34) with
    | some l, _ => some (s.laneBusy l)
    | none, some c => if n < 38 then some s.exp.cmp[c].isSome else none
    | none, none => none
  | 4 =>
    if n = 40 then some s.anySelfRefresh
    else if n < 32 ∧ n % 4 = 1 then some ((all 64).any fun c => s.spl.chans[c].reqs.any fun r =>
      decide (r.port = n / 4) && decide (s.urgency r = 3))
    else if n < 32 ∧ n % 4 = 3 then some ((all 64).any fun c => s.spl.chans[c].reqs.any fun r => decide (r.port = n / 4))
    else none
  | 6 =>
    if n = 32 then some (decide (s.hls.slow ≠ 0)) else if n = 35 then some s.auxHold else if n = 36 then some true else none
  | _ => none

/-- R472: a level-type event whose condition the state does not tell. -/
def levelOpen (e : Nat) : Bool :=
  (decide (e / 64 = 2) && decide (e % 8 = 3)) || (decide (e / 64 = 7) && decide (e % 64 < 40) && decide (e % 8 = 1))

/-- R472: an edge-type event of a control core whose occurrences the state does not tell: instructions retired, local-memory
corrections and interrupts taken. -/
def edgeOpen (e : Nat) : Bool := decide (e / 64 = 7) && decide (e % 64 < 40) && [0, 2, 4].contains (e % 8)

/-- R472: urgency 3 at a QoS port, the level-type condition that rises as time passes. -/
def urgent (e : Nat) : Bool := decide (e / 64 = 4) && decide (e % 64 < 32) && decide (e % 4 = 1)

/-- R469: a counter in level mode counts the two CLK_FAB cycles of the tick in which its condition holds, and one in edge
mode counts the rise of a condition that time raises; `old` is the state before the tick. What the state does not tell is
a free number (log entry 75). -/
def levelTick (old : State) (n : Fin 64) (s : State) : State :=
  let cfg := s.rdN (aPmcCtr n.1 0)
  let ev := bits cfg 8 0
  let add := fun (v : Nat) (t : State) => t.onCounter n fun c => { c with value := c.value + v }
  if !bit cfg 31 || s.fbit (aPmc 0) 31 then s
  else if levelOpen ev || edgeOpen ev && bit cfg 30 then add (s.freeNat % 3) s.useFree
  else if edgeOpen ev then add s.freeNat s.useFree
  else if bit cfg 30 then if s.levelHolds ev = some true then add 2 s else s
  else if urgent ev && decide (old.levelHolds ev = some false) && decide (s.levelHolds ev = some true) then add 1 s
  else s

/-- R85, R306, R333, R469: one tick of CLK_TIME. Device time and motion advance, and counters count, while the device runs
from its PLL; the tick itself passes always, and what was set in it (R14) is no longer of the present one. -/
def clockTick (s : State) : State :=
  let t :=
    if s.clear && s.sys.pll then
      let t := if s.sys.seeded then s.merTick else s
      (t.forEach (all 8) axisStep).forEach (all 64) (levelTick s)
    else s
  (t.onTick (· + 1)).onSetNow fun _ => []

end State
end Sys2Proof.Machine
end

