-- ==== Sys2Proof/Safety.lean ====
section
/-!
DEFINITION. What a safe step is, and the few predicates on states that the statements share.
-/
namespace Sys2Proof.Machine
open Sys2Proof

/-- The outcome is a next state. -/
def Goes (o : Host.Outcome State Fault Refusal) : Prop := ∃ t, o = .next t

/-- The invariant of the spool: its bytes are listed in canonical form (R400). -/
def SpoolForm (s : State) : Prop := Memory.wf s.mem = true

/-- The canonical form of a sparse table: keys from `lo` on ascend strictly, and no element is listed that reads so anyway. -/
def tableWf {α : Type} [DecidableEq α] (d : Nat → α) : Nat → Table α → Bool
  | _, [] => true
  | lo, (k, v) :: t => decide (lo ≤ k) && decide (v ≠ d k) && tableWf d (k + 1) t

/-- The invariant of the stored registers: a register is listed when it holds another value than its reset value. -/
def CfgForm (s : State) : Prop := tableWf regReset 0 s.cfg = true

/-- R115: the device queue has room for an event tied to no ring. -/
def AsyncRoom (s : State) : Prop := s.hif.async.length < 256

/-- `t` is `s` with one more event waiting in the device queue (R115), and nothing else changed. -/
def Posted (e : Event) (s t : State) : Prop := t = { s with hif := { s.hif with async := s.hif.async ++ [e] } }

/-- The ERROR event of a code and class for a unit, in the layout of R457, as of the state's time (R112). -/
def State.unitEvent (s : State) (code : Code) (cls : Cls) (unit det src : Nat) : Event :=
  s.asyncEvent .error code cls (infoUnit unit) (detail det) src

/-- Every ring but one is as it was. -/
def OtherRings (r : RingIx) (s t : State) : Prop := ∀ q : RingIx, q ≠ r → t.hif.rings[q] = s.hif.rings[q]

/-- What has left the device in between: one event write on ring `r`, and at most its MSI-X message after it. -/
def Written (r : RingIx) (index : Nat) (bytes : BitVec 256) (s t : State) : Prop :=
  ∃ l, t.out = s.out ++ .eventWrite r index bytes :: l ∧ (l = [] ∨ ∃ v, l = [.msix v])

/-- R117, R436: what has left the device in between are reads of host memory, with No-Snoop as `ns` says. -/
def ReadsHost (ns : Bool) (s t : State) : Prop :=
  ∃ outs, t.out = s.out ++ outs ∧ ∀ x ∈ outs, ∃ a n, x = Output.hostRead a n ns

/-- Every head port but one is as it was. -/
def OtherPorts (p : PortIx) (s t : State) : Prop := ∀ q : PortIx, q ≠ p → t.port[q] = s.port[q]

/-- What has left the device in between went onto the lanes of one head port. -/
def LanesOnly (p : PortIx) (s t : State) : Prop :=
  ∃ outs, t.out = s.out ++ outs ∧ ∀ x ∈ outs, ∃ lane line, x = Output.laneBlock p lane line

/-- Only the link state of one head port has changed, and nothing has left the device. -/
def LinkOnly (p : PortIx) (l : Link) (s t : State) : Prop :=
  t.port[p] = { s.port[p] with link := l } ∧ OtherPorts p s t ∧ { t with port := s.port } = s

/-- Only the link state of one head port has changed, to `l` where the stream on its lanes is left aside, and only its lanes
have carried something. -/
def LinkSends (p : PortIx) (l : Link) (s t : State) : Prop :=
  { t.port[p] with link := s.port[p].link } = s.port[p] ∧
  { t.port[p].link with coder := l.coder, sent := l.sent, since := l.since, queue := l.queue } = l ∧
  OtherPorts p s t ∧ { t with port := s.port, out := s.out } = s ∧ LanesOnly p s t

/-- R255, R256, R259, R262: the last that has left the device is block `b`, on the next lane of a link with the stream lanes
and the pre-inversion of port `p`, as that lane codes it. -/
def SentLast (p : PortIx) (b : LinkBlock) (s t : State) : Prop :=
  ∃ l : Link, l.lanes = s.port[p].link.lanes ∧ l.preinv = s.port[p].link.preinv ∧
    t.port[p].link.coder = (l.code l.nextLane b).1.coder ∧
    t.out.getLast? = some (.laneBlock p l.nextLane (l.code l.nextLane b).2)

/-- R273, R33: the port has taken a port-level fault with a cause: it is stopped on its own, its queue is clear, its FIRE pair
is inactive, its link sends PORT_FAULT, and one class S event waits; no register, memory, sheet or other port has changed. -/
def PortStopped (p : PortIx) (cause : Nat) (s t : State) : Prop :=
  t.port[p].link.lstate = 7 ∧ t.port[p].link.fault = cause ∧ t.port[p].link.bursting = true ∧
  t.port[p].rows = [] ∧ t.port[p].commit = none ∧ t.port[p].pair = false ∧
  t.fns.port[p] = { s.fns.port[p] with running := false, own := true } ∧ OtherPorts p s t ∧
  (∀ q : PortIx, q ≠ p → t.fns.port[q] = s.fns.port[q]) ∧ t.fns.bar = s.fns.bar ∧ t.fns.eng = s.fns.eng ∧
  LanesOnly p s t ∧
  (s.port[p].link.idle = false → SentLast p (.of false (ctrlBlock 0xC3 [BitVec.ofNat 8 cause])) s t) ∧
  (AsyncRoom s → t.hif = { s.hif with async := s.hif.async ++ [s.unitEvent 0x0702 .s (unitPort p) 0 0x0B] }) ∧
  { t with port := s.port, fns := s.fns, hif := s.hif, hls := s.hls, out := s.out, pmc := s.pmc, free := s.free } = s

/-- R108: `e` is the entry of a host's ring that starts next; its common fields are well formed, the ring takes events, and
no running entry of the ring has the same 64 bytes. -/
def AtHead (s : State) (r : RingIx) (e : Entry) : Prop :=
  s.entry? r = some e ∧ s.commonForm r e = true ∧ r.1 ≠ 0 ∧ s.ringDead r = false ∧ ∀ x ∈ s.hif.rings[r].running, x.1 ≠ e

/-- R107, R108: the entry at the head of the ring has left it, and a COMPLETION event waits when it failed or asks for one;
nothing else of the host interface has changed. -/
def Completes (r : RingIx) (e : Entry) (code : Code) (info0 : BitVec 64) (info1 : BitVec 48) (src : Nat) (s t : State) : Prop :=
  t.hif.rings[r] = { s.hif.rings[r] with
    fetched := s.hif.rings[r].fetched.drop 1
    due := s.hif.rings[r].due ++
      if code ≠ 0 ∨ bit (fieldAt e 1 1) 1 = true then [s.completionEvent r e code info0 info1 src] else [] } ∧
  OtherRings r s t ∧ { t.hif with rings := s.hif.rings } = s.hif

/-- The entry at the head of the ring runs. -/
def Begun (r : RingIx) (s t : State) : Prop :=
  t.hif.rings[r] = { s.hif.rings[r] with
    fetched := s.hif.rings[r].fetched.drop 1
    running := s.hif.rings[r].running ++ s.hif.rings[r].fetched.take 1 } ∧
  OtherRings r s t ∧ { t.hif with rings := s.hif.rings } = s.hif

/-- R431, R155, R125: an entry with bulk data can start: a pool channel is free, the spool is not in L2, the link is up. -/
def BulkOk (s : State) : Prop := s.poolFree.isSome = true ∧ s.sys.lpCur ≠ 2 ∧ s.hif.linkUp = true

/-- A spool without a fault: no erroneous symbol stored, none injected, no block remapped, every channel online, no channel
named twice (R396), and its bytes in canonical form. -/
def SoundSpool (s : State) : Prop :=
  SpoolForm s ∧ s.chmapList.Nodup ∧ s.spl.errs = [] ∧ s.spl.flip = none ∧
    ∀ c : ChanIx, s.spl.chans[c].offline = false ∧ s.spl.chans[c].remaps = []

/-- The bytes `bs` stand at the places of spool addresses from `a` on (R395), and every other byte reads as before. -/
def Stored (a : Nat) (bs : List Byte) (s t : State) : Prop :=
  (∀ i, i < bs.length → memRead t.mem (s.physAddr (a + i)) = bs.getD i 0) ∧
  ∀ x, (∀ i, i < bs.length → x ≠ s.physAddr (a + i)) → memRead t.mem x = memRead s.mem x

/-- R77: what a cold reset leaves: every register and engine at its reset value, the spool empty, and of the state before
only Sidereal's registers, the flash-held ledger and the commands that wait. -/
def ColdState (s t : State) : Prop :=
  (∀ e ∈ t.cfg, e.1 / 0x100000 = 4 ∧ e ∈ s.cfg) ∧ t.sys.held ≠ [] ∧ t.sys.stage = 0 ∧ t.sys.fwReady = false ∧
  t.fns = Fns.reset ∧ t.hif = Hif.reset ∧ t.job = JobState.reset ∧ t.exp = Expand.reset ∧ t.se = Stripe.reset ∧
  t.bar = Vector.replicate 8 Bar.reset ∧ t.port = Vector.replicate 32 Port.reset ∧ t.mer = Meridian.reset ∧
  t.eye = Eyepiece.reset ∧ t.occ = Occulter.reset ∧ t.spl = Spool.reset ∧ t.mem = [] ∧ t.eth = Ethernet.reset ∧
  t.dma = Dma.reset ∧ t.ovl = Overlay.reset ∧ t.pmc = Pmc.reset ∧ t.integ.dcode = 0 ∧ t.sdr = s.sdr ∧
  t.cal.ledger = s.cal.ledger ∧ t.pending = s.pending

/-- R77, R402: what a warm reset leaves: registers and engines at their reset values; kept are the spool with its valid
map and its error counters, the staged tables, the counters of lanes and engines, D_CODE, and Sidereal. -/
def WarmState (s t : State) : Prop :=
  t.fns = Fns.reset ∧ t.hif = { Hif.reset with linkUp := s.hif.linkUp, pcie := s.hif.pcie } ∧ t.job = JobState.reset ∧
  t.mer = Meridian.reset ∧ t.eye = Eyepiece.reset ∧ t.occ = Occulter.reset ∧ t.dma = Dma.reset ∧ t.ovl = Overlay.reset ∧
  t.port = Vector.replicate 32 Port.reset ∧ t.pmc = Pmc.reset ∧ t.mem = s.mem ∧ t.spl.valid = s.spl.valid ∧
  t.spl.errs = s.spl.errs ∧ (∀ c : ChanIx, t.spl.chans[c].ecc = s.spl.chans[c].ecc ∧ t.spl.chans[c].selfRef = true) ∧
  (∀ g : GroupIx, t.spl.groups[g].ecc = s.spl.groups[g].ecc) ∧ (∀ k : BarIx, t.bar[k].staged = s.bar[k].staged) ∧
  t.se.stagedLevels = s.se.stagedLevels ∧ t.se.engines = s.se.engines ∧ t.exp.laneFault = s.exp.laneFault ∧
  t.integ.dcode = s.integ.dcode ∧ t.sdr = s.sdr ∧ t.cal.ledger = s.cal.ledger ∧ t.sys.fwReady = false ∧ t.sys.stage = 0 ∧
  t.sys.warmCount = satTo 255 (s.sys.warmCount + 1) ∧ t.pending = s.pending

end Sys2Proof.Machine
end

