-- ==== Sys2Proof/Certificates/Slice0/Obligations.lean ====
section
/-!
DEFINITION. The statements about the SH524 model, family by family: what each command does where its rule says it takes
effect, what it leaves, and what holds of every step.
-/

open Sys2Proof Sys2Proof.Machine

/-! ## Reset, clocks and boot -/

/-- R77, R78, R80, R402, R480: each cause of a cold reset completes, and nothing but Sidereal, the ledger and the waiting
commands outlasts it; each cause of a warm reset completes, and the spool, the staged tables and the counters that the rules
name are kept; RST_CAUSE records every cause, and of two in one cycle the one that takes precedence; a second warm cause in
one cycle begins no second reset. -/
def Obligations.ResetsLeaveWhatTheirKindLeaves : Prop :=
  ((∀ (s : State) (b : Bool), ∃ t, exec (.porstNAssert b) s = .next t ∧ ColdState s t ∧ Hold.porst ∈ t.sys.held ∧
      (s.sys.rstTick ≠ s.tick + 1 →
        t.sys.cause = if b && s.sys.mainRails then ResetCause.porst else ResetCause.powerOn)) ∧
    (∀ (s : State) (r : Fin 6), s.sys.mainRails = true → ∃ t, exec (.supplyMonitorTrip r) s = .next t ∧ ColdState s t ∧
      Hold.supply ∈ t.sys.held ∧ (s.sys.rstTick ≠ s.tick + 1 → t.sys.cause = ResetCause.supply ∧ t.sys.rail = r.1)) ∧
    (∀ s : State, s.sys.mainRails = true → ∃ t, exec .refclkLoss s = .next t ∧ ColdState s t ∧
      Hold.refclk ∈ t.sys.held ∧ (s.sys.rstTick ≠ s.tick + 1 → t.sys.cause = ResetCause.refclk) ∧
      (s.sys.rstTick = s.tick + 1 → s.sys.cause = ResetCause.supply →
        t.sys.cause = ResetCause.supply ∧ t.sys.rail = s.sys.rail)) ∧
    (∀ (s : State) (i : Fin 8), s.sys.mainRails = true → ∃ t, exec (.overtempStop i) s = .next t ∧ ColdState s t ∧
      Hold.overtemp ∈ t.sys.held ∧ (s.sys.rstTick ≠ s.tick + 1 → t.sys.cause = ResetCause.overtemp)) ∧
    (∀ s : State, ∃ t, exec .mainRailsOff s = .next t ∧ ColdState s t ∧ t.sys.mainRails = false)) ∧
  ((∀ (s : State) (ns : Nat), 1000 ≤ ns → s.sys.mainRails = true → (∀ h ∈ s.sys.held, h.cold = false) →
      (s.sys.rstTick ≠ s.tick + 1 → ∃ t, exec (.sysrstNAssert ns) s = .next t ∧ WarmState s t ∧
        t.sys.cause = ResetCause.sysrst ∧ t.sys.held = [Hold.sysrst] ∧ t.sys.wdogCount = s.sys.wdogCount) ∧
      (s.sys.rstTick = s.tick + 1 → ∃ t, exec (.sysrstNAssert ns) s = .next t ∧ Hold.sysrst ∈ t.sys.held ∧
        t.sys.warmCount = s.sys.warmCount ∧ { t with sys := s.sys } = s)) ∧
    (∀ (s : State) (v : Word), s.hostUp = true → v.getLsbD 31 = true → s.sys.rstTick ≠ s.tick + 1 →
      ∃ t, exec (.rstCtrlWarm v) s = .next t ∧ WarmState s t ∧ t.sys.cause = ResetCause.host ∧ t.sys.held = [Hold.warm]) ∧
    (∀ (s : State) (c : Fin 5), s.clear = true → s.sys.stage = 4 → s.sys.cores[c] = CoreState.active →
      s.sys.rstTick ≠ s.tick + 1 → ∃ t, exec (.coreWatchdogExpiry c) s = .next t ∧ WarmState s t ∧ t.sys.cause = ResetCause.wdog ∧
        t.sys.held = [Hold.warm] ∧ t.sys.wdogCount = satTo 255 (s.sys.wdogCount + 1) ∧ t.sys.wdogCore = c.1))

/-- R60, R68 to R70, R79, R89, R90, R487: what held the device in reset ends, and nothing else changes; then the PLL locks, the
OTP array is read, Meridian takes Sidereal's time, the HBM is trained, and with no accepted slot the boot ROM awaits the host. -/
def Obligations.BootStepsInOrder : Prop :=
  (∀ s : State,
      let without (h : Hold) : State := { s with sys := { s.sys with held := s.sys.held.filter fun x => decide (x ≠ h) } }
      (s.sys.mainRails = true → exec .porstNRelease s = .next (without .porst)) ∧
      exec .overtempRecovered s = .next (without .overtemp) ∧
      exec .refclkReturn s = .next (without .refclk) ∧
      exec .supplyRecovered s = .next (without .supply) ∧
      exec .sysrstNRelease s = .next (without .sysrst) ∧
      exec .warmResetEnd s = .next (without .warm)) ∧
  ((∀ s : State, s.clear = true → exec .mainPllLock s = .next { s with sys := { s.sys with pll := true } }) ∧
    (∀ s : State, CfgForm s → s.clear = true → s.sys.pll = true → ∃ t, exec .otpReadDone s = .next t ∧
      t.sys = { s.sys with otpRead := true } ∧
      (∀ p : EthIx, t.rdN (aEthPort p.1 4) = s.sys.mac[p].toNat % 2 ^ 32 ∧
        t.rdN (aEthPort p.1 8) = s.sys.mac[p].toNat / 2 ^ 32) ∧
      { t with cfg := s.cfg, sys := s.sys } = s) ∧
    (∀ s : State, s.clear = true → s.sys.pll = true → s.sys.seeded = false → ∃ t, exec .meridianSeed s = .next t ∧
      t.mer = { s.mer with
        time := s.sdr.sec * (1000000000 * 2 ^ 24) + s.sdr.sub * (1000000000 * 2 ^ 9)
        copy := s.sdr.sec * (1000000000 * 2 ^ 24) + s.sdr.sub * (1000000000 * 2 ^ 9), trace := !s.sdr.timeLost } ∧
      t.sys = { s.sys with seeded := true, xspiHigh := true } ∧ t.out = s.out ++ [.xspiReset true] ∧
      { t with mer := s.mer, sys := s.sys, hif := s.hif, out := s.out } = s) ∧
    (∀ s : State, s.clear = true → s.sys.pll = true → s.sys.otpRead = true → s.sys.seeded = true →
      ∃ t, exec .hbmTrainingDone s = .next t ∧ t.sys = { s.sys with hbm := true } ∧
        (∀ c : ChanIx, t.spl.chans[c] = { s.spl.chans[c] with selfRef := false }) ∧
        { t with sys := s.sys, spl := s.spl } = s) ∧
    (∀ s : State, s.clear = true → s.sys.pll = true → s.sys.seeded = true → s.sys.stage < 2 →
      exec .bootAwaitHost s = .next { s with sys := { s.sys with stage := 2 } }) ∧
    (∀ (s : State) (v : Word), s.clear = true → s.hif.linkUp = true → v.getLsbD 31 = true → s.sys.stage = 2 →
      exec (.bootGo v) s = .next { s with sys := { s.sys with stage := 3, src := 2 } }))

/-- R485 to R487, R510: which image runs, what a rejected host image leaves, and what the port probe finds. -/
def Obligations.ImagesAndPortProbe : Prop :=
  (∀ (s : State) (a b : List Byte) (bad : List (Fin 5)), s.clear = true → s.sys.pll = true → s.sys.hbm = true →
    s.sys.stage < 2 → ∃ t, exec (.bootSlotVerifyDone a b bad) s = .next t ∧
      (s.imgVerdict a = 0 → (s.imgVerdict b ≠ 0 ∨ State.imgBefore b a = false) →
        t.sys.stage = 4 ∧ t.sys.src = 0 ∧ t.sys.imgSvn = imgSvn a) ∧
      (s.imgVerdict b = 0 → (s.imgVerdict a ≠ 0 ∨ State.imgBefore b a = true) →
        t.sys.stage = 4 ∧ t.sys.src = 1 ∧ t.sys.imgSvn = imgSvn b) ∧
      (s.imgVerdict a ≠ 0 → s.imgVerdict b ≠ 0 → t.sys.stage = 1 ∧ t.sys.bootErr = s.imgVerdict b) ∧
      t.mem = s.mem ∧ t.hif = s.hif ∧ t.fns = s.fns) ∧
  (∀ (s : State) (image : List Byte) (bad : List (Fin 5)), s.clear = true → s.sys.stage = 3 →
    512 + imgBodyLen (slice image 0 (s.rdN aBootLen)) = s.rdN aBootLen →
    ∃ t, exec (.hostImageVerifyDone image bad) s = .next t ∧
      (if s.imgVerdict (slice image 0 (s.rdN aBootLen)) = 0 then t.sys.stage = 4 ∧ t.sys.src = 2
       else t.sys.stage = 2 ∧ t.sys.bootErr = s.imgVerdict (slice image 0 (s.rdN aBootLen))) ∧
      t.mem = s.mem ∧ t.hif = s.hif ∧ t.fns = s.fns) ∧
  (∀ (s : State) (found : List (PortIx × ModCaps)), s.clear = true → s.sys.stage = 4 → s.sys.probed = false →
    ∃ t, exec (.bootPortProbe found) s = .next t ∧
      t.sys = { s.sys with probed := true } ∧
      (∀ (p : PortIx) (q : PortIx × ModCaps), found.find? (fun q => decide (q.1 = p)) = some q →
        t.port[p].link.lstate = 6 ∧ t.port[p].link.absent = false ∧
        t.port[p].link.caps = { q.2 with
          rowbuf := q.2.rowbuf % 2 ^ 12, stage := q.2.stage % 2 ^ 8, nsens := q.2.nsens % 2 ^ 4, rtt := q.2.rtt % 2 ^ 16 }) ∧
      (∀ p : PortIx, (∀ q ∈ found, q.1 ≠ p) → t.port[p].link.lstate = 7 ∧ t.port[p].link.fault = 6 ∧
        t.port[p].link.absent = true) ∧
      { t with sys := s.sys, port := s.port } = s)

/-- R79, R165, R488: firmware reports ready once HBM, Meridian, the image and the port probe are done and four cores serve: the
mailbox is in service and the recorded boot failures are handed over; with no ledger slot corrupt and none recorded, the
event queue stays as it is; of the registers only the lane enables can change. -/
def Obligations.FirmwareReadyOpensService : Prop :=
  (∀ s : State, s.clear = true → s.sys.hbm = true → s.sys.seeded = true → s.sys.stage = 4 → s.sys.probed = true →
    s.sys.fwReady = false → 4 ≤ s.activeCores → ∃ t, exec .firmwareReady s = .next t ∧
      t.sys = { s.sys with fwReady := true, svc := 1, bootErrs := [] } ∧
      (s.corruptSlots = 0 → s.sys.bootErrs = [] → t.hif = s.hif) ∧
      (∀ off, off ≠ aDcmp 0 → off ≠ aDcmp 4 → t.rd off = s.rd off) ∧
      { t with sys := s.sys, hif := s.hif, se := s.se, exp := s.exp, spl := s.spl, cal := s.cal, cfg := s.cfg } = s) ∧
  (∀ (s : State) (i : Fin 8), s.up = true → AsyncRoom s → ∃ t, exec (.overtempWarning i) s = .next t ∧
    Posted (s.unitEvent 0x1007 .c 0xFF 0 0) s t)

/-! ## Sidereal -/

/-- R82 to R88, R14: the island counts a tick of XTAL32 or takes a pending load, an armed alarm that is reached is flagged and
disarmed; it loads and arms as SDR_CTRL says, copies the seconds on a read of SDR_SUB, and a comparator's crossing is recorded
once, its flag outlasting a clear in the same tick; its power-on reset clears it. -/
def Obligations.SiderealCountsLoadsAndRecords : Prop :=
  (∀ s : State, s.sys.mainRails = false ∨ Hold.porst ∈ s.sys.held → ∃ t, exec .siderealPowerOnReset s = .next t ∧
    t.sdr = Sidereal.reset ∧ (∀ e, e ∈ t.cfg ↔ e ∈ s.cfg ∧ e.1 / 0x100000 ≠ 4) ∧
    { t with sdr := s.sdr, cfg := s.cfg } = s) ∧
  (∀ s : State, s.sdr.armed = #v[false, false] → ∃ t, exec .siderealTick s = .next t ∧
    (s.sdr.busy = false → s.sdr.sub < 32767 → t.sdr = { s.sdr with sub := s.sdr.sub + 1 }) ∧
    (s.sdr.busy = false → s.sdr.sub = 32767 → t.sdr = { s.sdr with sub := 0, sec := (s.sdr.sec + 1) % 2 ^ 48 }) ∧
    (s.sdr.busy = true → t.sdr = { s.sdr with
      sec := s.sdrPair 0x14, sub := s.fld (aSdr 0x10) 14 0, busy := false, timeLost := false }) ∧
    { t with sdr := s.sdr } = s) ∧
  (∀ (s : State) (n : Fin 2), s.sdr.busy = false → s.sdr.sub < 32767 → s.sdr.armed[n] = true →
    s.sdrPair (0x30 + 8 * n.1) ≤ s.sdr.sec → ∃ t, exec .siderealTick s = .next t ∧
      t.sdr.alarm[n] = true ∧ t.sdr.armed[n] = false ∧ t.sdr.sec = s.sdr.sec ∧ t.sdr.sub = s.sdr.sub + 1) ∧
  (∀ s : State, s.sdrReach = true → s.sdr.busy = false →
    exec (.sdrLoad 1) s = .next { s.hostIn 4 with sdr := { s.sdr with busy := true } }) ∧
  (∀ (s : State) (n : Fin 2), s.sdrReach = true →
    exec (.sdrArm n (BitVec.ofNat 32 (2 ^ (1 + n.1)))) s = .next { s.hostIn 4 with sdr := { s.sdr with armed := s.sdr.armed.set n.1 true } } ∧
    exec (.sdrDisarm n (BitVec.ofNat 32 (2 ^ (3 + n.1)))) s =
      .next { s.hostIn 4 with sdr := { s.sdr with armed := s.sdr.armed.set n.1 false } }) ∧
  (∀ s : State, s.sdrReach = true → exec .sdrSubRead s =
    .next { s.hostOut 4 with sdr := { s.sdr with secCopy := s.sdr.sec }, out := s.out ++ [.readReply (BitVec.ofNat 32 s.sdr.sub)] }) ∧
  (∀ (s : State) (n : Fin 4) (level : Nat), s.fbit (aSdr (0x40 + 4 * n.1)) 15 = true →
    s.fbit (aSdr (0x40 + 4 * n.1)) 11 = false → s.sdr.high[n] = false → s.sdr.event[n] = false →
    75 * s.fld (aSdr (0x40 + 4 * n.1)) 7 0 + 160 ≤ level →
    ∃ t, exec (.comparatorSample n level) s = .next t ∧ t.sdr = { s.sdr with
      high := s.sdr.high.set n.1 true, event := s.sdr.event.set n.1 true, stamp := s.sdr.stamp.set n.1 s.sdr.sec } ∧
      { t with sdr := s.sdr, setNow := s.setNow } = s ∧
      (t.writeSdrStatus 0xFFFFFFFF).sdr.event[n] = true)

/-! ## Rings and doorbells -/

/-- R102 to R104: a doorbell on an ACTIVE ring of the host moves the tail or the head that it names; one that it cannot
name halts the ring with its cause, and an invalid submission doorbell is reported on the ring. -/
def Obligations.DoorbellsMoveOrHalt : Prop :=
  ∀ (s : State) (r : RingIx) (v : Word), s.hostUp = true → r.1 ≠ 0 → s.hif.rings[r].state = .active →
  (∀ p, State.bellPos v (s.sqSize r) = some p → s.sqBellOk r p = true → p ≠ s.hif.rings[r].sqTail →
    ∃ t, exec (.sqDoorbell r v) s = .next t ∧
      t.hif.rings[r] = { s.hif.rings[r] with
        sqTail := p, bells := s.hif.rings[r].bells ++ [(p, s.tick)] } ∧
      OtherRings r s t ∧ { t with hif := s.hif, pmc := s.pmc } = s) ∧
  ((State.bellPos v (s.sqSize r)).filter (s.sqBellOk r) = none → s.hif.rings[r].lostHalt = false →
    ∃ t, exec (.sqDoorbell r v) s = .next t ∧
      t.hif.rings[r] = { s.hif.rings[r] with
        state := .halted, cause := 1, due := s.hif.rings[r].due ++ [s.bellEvent r] } ∧
      OtherRings r s t ∧ { t with hif := s.hif, pmc := s.pmc } = s) ∧
  (∀ p, State.bellPos v (s.eqSize r) = some p → s.eqBellOk r p = true →
    ∃ t, exec (.eqDoorbell r v) s = .next t ∧ t.hif.rings[r] = { s.hif.rings[r] with eqHead := p } ∧
      OtherRings r s t ∧ { t with hif := s.hif, pmc := s.pmc } = s) ∧
  ((State.bellPos v (s.eqSize r)).filter (s.eqBellOk r) = none →
    ∃ t, exec (.eqDoorbell r v) s = .next t ∧ t.hif.rings[r].state = .halted ∧ t.hif.rings[r].cause = 2 ∧
      OtherRings r s t ∧ { t with hif := s.hif, pmc := s.pmc } = s)

/-- R99, R101, R512: a DISABLED ring whose settings are in range is enabled with both rings empty, an ACTIVE or HALTED one whose
other fields are written back unchanged drains, also one whose EN reads 0 already, and a drained one is DISABLED with what is
still due discarded. -/
def Obligations.RingsEnableDrainAndDisable : Prop :=
  (∀ (s : State) (r : RingIx) (v : Word), s.hostUp = true → r.1 ≠ 0 → s.hif.rings[r].state = .disabled →
    s.fbit (aRing r 8) 31 = false → v.getLsbD 31 = true → s.ringSettings r v = true →
    ∃ t, exec (.ringEnable r v) s = .next t ∧ t.hif.rings[r].state = .active ∧
      t.hif.rings[r].sqHead = 0 ∧ t.hif.rings[r].sqTail = 0 ∧ t.hif.rings[r].eqHead = 0 ∧ t.hif.rings[r].eqTail = 0 ∧
      t.hif.rings[r].cause = 0 ∧ t.rd (aRing r 8) = v &&& 0xF000001F ∧
      OtherRings r s t ∧ { t with hif := s.hif, pmc := s.pmc, cfg := s.cfg } = s) ∧
  (∀ (s : State) (r : RingIx) (v : Word), CfgForm s → s.hostUp = true → r.1 ≠ 0 →
    (s.hif.rings[r].state = .active ∨ s.hif.rings[r].state = .halted) → v.getLsbD 31 = false → (v &&& 0xF000001F).toNat = s.rdN (aRing r 8) % 2 ^ 31 →
    ∃ t, exec (.ringDisable r v) s = .next t ∧
      t.hif.rings[r] = { s.hif.rings[r] with state := .draining, bells := [] } ∧
      t.rd (aRing r 8) = v &&& 0xF000001F ∧ OtherRings r s t ∧
      { t with hif := s.hif, pmc := s.pmc, cfg := s.cfg } = s) ∧
  (∀ (s : State) (r : RingIx), s.hif.rings[r].state = .draining → State.drained s.hif.rings[r] = true →
    ∃ t, exec (.ringDrainComplete r) s = .next t ∧ t.hif.rings[r].state = .disabled ∧ t.hif.rings[r].due = [] ∧
      t.hif.lostEvents = sat32 (s.hif.lostEvents + s.hif.rings[r].due.length) ∧ OtherRings r s t ∧
      { t with hif := s.hif } = s)

/-- R27, R106, R114, R117: entries are read, without No-Snoop, for the ring that the arbiter chooses, in order, up to the tail,
Max Read Request Size and the ring's end, and none that would report while the event ring is full is taken. -/
def Obligations.EntriesAreFetchedInOrder : Prop :=
  ∀ (s : State) (r : RingIx) (entries : List Entry), s.hostUp = true → s.fetchRing = some r →
    s.fetchCount r entries ≠ 0 → ∃ t, exec (.entryFetch entries) s = .next t ∧
      t.hif.rings[r].sqHead = (s.hif.rings[r].sqHead + s.fetchCount r entries) % (2 * s.sqSize r) ∧
      t.hif.rings[r].fetched.map (·.1) =
        s.hif.rings[r].fetched.map (·.1) ++ entries.take (s.fetchCount r entries) ∧
      t.hif.rings[r].running = s.hif.rings[r].running ∧ t.hif.rings[r].sqTail = s.hif.rings[r].sqTail ∧
      s.fetchCount r entries ≤ s.hif.pcie.maxRead / 64 ∧
      (s.eqFull r = true → ∀ e ∈ entries.take (s.fetchCount r entries), State.entryHeld e = false) ∧
      (∃ n, t.out = s.out ++
        [.hostRead (s.rd64 (aRing r 0) + 64 * (s.hif.rings[r].sqHead % s.sqSize r)) (64 * n) false]) ∧
      OtherRings r s t ∧ { t with hif := s.hif, pmc := s.pmc, out := s.out } = s

/-- R112 to R115, R121, R122: the oldest event due is written into the next slot of its event ring, with the phase of the
pass; one due on a dead ring is discarded and counted; a message owed is sent, or marked pending on a masked vector. -/
def Obligations.EventsAreWrittenAndSignalled : Prop :=
  (∀ (s : State) (r : RingIx) (e : Event) (rest : List Event), s.up = true → s.hif.rings[r].due = e :: rest →
    s.ringDead r = false → s.eqFull r = false → ∃ t, exec (.eventPost (.ring r)) s = .next t ∧
      t.hif.rings[r].due = rest ∧
      t.hif.rings[r].eqTail = (s.hif.rings[r].eqTail + 1) % (2 * s.eqSize r) ∧
      Written r (s.hif.rings[r].eqTail % s.eqSize r)
        (eventBytes (s.withMark e) (if s.hif.rings[r].eqTail < s.eqSize r then 1 else 0)
          (s.hif.rings[(s.withMark e).ring].sqHead % s.sqSize (s.withMark e).ring)) s t ∧
      OtherRings r s t ∧ { t with hif := s.hif, pmc := s.pmc, out := s.out } = s) ∧
  (∀ (s : State) (r : RingIx) (e : Event) (rest : List Event), s.up = true → s.hif.rings[r].due = e :: rest →
    s.ringDead r = true → ∃ t, exec (.eventPost (.ring r)) s = .next t ∧
      t.hif.rings[r] = { s.hif.rings[r] with due := rest } ∧ t.hif.lostEvents = sat32 (s.hif.lostEvents + 1) ∧
      OtherRings r s t ∧ { t with hif := s.hif } = s) ∧
  (∀ (s : State) (r : RingIx) (e : Event) (rest : List Event), s.up = true → s.asyncRing = some r →
    s.asyncBlocked = false → s.hif.lost = 0 → s.hif.async = e :: rest →
    ∃ t, exec (.eventPost .async) s = .next t ∧ t.hif.async = rest ∧
      Written r (s.hif.rings[r].eqTail % s.eqSize r)
        (eventBytes e (if s.hif.rings[r].eqTail < s.eqSize r then 1 else 0)
          (s.hif.rings[e.ring].sqHead % s.sqSize e.ring)) s t ∧
      OtherRings r s t ∧ { t with hif := s.hif, pmc := s.pmc, out := s.out } = s) ∧
  (∀ (s : State) (r : RingIx), s.hostUp = true → s.irqEn r = true → s.modTime r ≠ 0 → 0 < s.hif.rings[r].unsig →
    ∃ t, exec (.msixModerationTimeout r) s = .next t ∧ t.hif.rings[r] = { s.hif.rings[r] with unsig := 0 } ∧
      (s.fbit (aMsix (s.fld (aRing r 0x18) 11 5)) 0 = false → s.hif.pcie.msixEnable = true → s.hif.pcie.funcMask = false →
        t.out = s.out ++ [.msix (s.fld (aRing r 0x18) 11 5)]) ∧
      (s.fbit (aMsix (s.fld (aRing r 0x18) 11 5)) 0 = true ∨ s.hif.pcie.msixEnable = false ∨ s.hif.pcie.funcMask = true →
        t.out = s.out ∧ t.hif.pba.toList.getD (s.fld (aRing r 0x18) 11 5) false = true) ∧
      OtherRings r s t ∧ { t with hif := s.hif, pmc := s.pmc, out := s.out } = s) ∧
  (∀ (s : State) (v : Fin 128), s.hostUp = true → s.hif.pba[v] = true →
    ∃ t, exec (.msixUnmask v) s = .next t ∧ t.fbit (aMsix v.1) 0 = false ∧
      (s.hif.pcie.msixEnable = true → s.hif.pcie.funcMask = false →
        t.hif.pba[v] = false ∧ t.out = s.out ++ [.msix v.1]) ∧
      (s.hif.pcie.msixEnable = false ∨ s.hif.pcie.funcMask = true → t.hif = s.hif ∧ t.out = s.out) ∧
      { t with hif := s.hif, pmc := s.pmc, cfg := s.cfg, out := s.out } = s)

/-- R123, R124: the first write of HIF_HB arms the timer; when it runs out while the engine is stopped, E_HOST_LOST is
posted and the timer has expired.
R125, R126, R512: the link's loss halts every ring of the host with cause 5 and discards what is due on it; its return is noted; a failed entry fetch halts its ring with cause 3 and a failed event write with cause 4. -/
def Obligations.HostLossIsHandled : Prop :=
  ((∀ (s : State) (v : Word), s.hostUp = true → s.fbit aHifHbCfg 31 = true → s.hif.hb = .idle →
      ∃ t, exec (.hifHb v) s = .next t ∧ t.hif = { s.hif with hb := .armed } ∧ { t with hif := s.hif, pmc := s.pmc } = s) ∧
    (∀ s : State, s.up = true → s.hif.hb = .armed → s.engRuns = false → AsyncRoom s →
      ∃ t, exec .heartbeatTimeout s = .next t ∧
        t.hif = { s.hif with
          hb := .expired, async := s.hif.async ++ [s.asyncEvent .status 0x0106 .none (infoUnit 0xFF) 0 2] } ∧
        { t with hif := s.hif } = s)) ∧
  ((∀ (s : State) (c : LinkCause), s.hostUp = true → ∃ t, exec (.linkLoss c) s = .next t ∧ t.hif.linkUp = false ∧
      (∀ r : RingIx, r.1 ≠ 0 → t.hif.rings[r].state = .halted ∧ t.hif.rings[r].cause = 5 ∧
        t.hif.rings[r].lostHalt = true ∧ t.hif.rings[r].due = [] ∧ t.hif.rings[r].bells = []) ∧
      t.hif.rings[0].state = s.hif.rings[0].state ∧
      t.mem = s.mem ∧ t.mer = s.mer ∧ t.axis = s.axis ∧ t.fns = s.fns) ∧
    (∀ s : State, s.clear = true → s.sys.pll = true →
      exec .linkReturn s = .next { s with hif := { s.hif with linkUp := true } }) ∧
    (∀ (s : State) (r : RingIx) (a : BitVec 64), s.hostUp = true → s.fetchable r = true →
      ∃ t, exec (.hostAccessFail (.entryFetch r a)) s = .next t ∧ t.hif.faultAddr = a.toNat ∧
        t.hif.rings[r] = { s.hif.rings[r] with state := .halted, cause := 3 } ∧ OtherRings r s t ∧
        { t with hif := s.hif } = s) ∧
    (∀ (s : State) (r : RingIx), s.hostUp = true → s.hif.rings[r].state ≠ .disabled → s.hif.rings[r].lostHalt = false →
      ∃ t, exec (.hostAccessFail (.eventWrite r)) s = .next t ∧
        t.hif.rings[r] = { s.hif.rings[r] with state := .halted, cause := 4, lostHalt := true } ∧ OtherRings r s t ∧
        { t with hif := s.hif } = s))

/-! ## BAR0 and BAR4 -/

/-- R31, R93, R490, R491: a write of a plainly stored register keeps its listed bits or is refused whole, counted and
reported; an offset that no table lists is counted and changes no register; a write of two double words is one of each, the
lower address first. -/
def Obligations.RegisterWritesStoreOrAreRefused : Prop :=
  ∀ (s : State) (off : BitVec 26) (v : Word), off.toNat % 4 = 0 → s.bar0Up = true → s.sys.fwReady = true →
  (∀ i, regInfo off.toNat = some i → (s.hostIn 4).specialWrite off.toNat v = none →
    (s.hostIn 4).storeRefused off.toNat i v = true → AsyncRoom s →
    ∃ t, exec (.registerWrite off ⟨v, none⟩) s = .next t ∧ t.cfg = s.cfg ∧ t.hif.refused = s.hif.refused + 1 ∧
      t.hif.async = s.hif.async ++
        [s.asyncEvent .configRefused 0x1001 .c (BitVec.ofNat 64 off.toNat) (detail v.toNat) (off.toNat / 0x100000)] ∧
      { t with hif := s.hif, pmc := s.pmc } = s) ∧
  (∀ i, regInfo off.toNat = some i → (s.hostIn 4).specialWrite off.toNat v = none →
    (s.hostIn 4).storeRefused off.toNat i v = false →
    off.toNat / 0x100000 ∈ [0x01, 0x04, 0x05, 0x06, 0x08, 0x09, 0x0A, 0x0B, 0x0C, 0x0E, 0x10, 0x11, 0x13, 0x15] →
    exec (.registerWrite off ⟨v, none⟩) s = .next ((s.hostIn 4).wrN off.toNat (s.newValue off.toNat i v))) ∧
  (regInfo off.toNat = none → ∃ t, exec (.registerWrite off ⟨v, none⟩) s = .next t ∧
    t.hif = { s.hif with badAccess := sat32 (s.hif.badAccess + 1) } ∧ { t with hif := s.hif, pmc := s.pmc } = s) ∧
  (∀ w : Word, off.toNat % 8 = 0 → ∃ t u, exec (.registerWrite off ⟨v, none⟩) s = .next t ∧
    exec (.registerWrite (off + 4) ⟨w, none⟩) t = .next u ∧ exec (.registerWrite off ⟨v, some w⟩) s = .next u)

/-- R83, R93, R94, R133, R305, R428, R491: a read returns the register's value; a read of a LO register holds its HI register,
one of MER_TIME_FRAC the time, one of ETH_BT_CNT clears it; an access of the wrong form is counted and a read of it returns
ones, and a read of the doorbell BAR returns 0. -/
def Obligations.ReadsReturnAndHold : Prop :=
  (∀ (s : State) (off : BitVec 26), off.toNat % 4 = 0 → s.bar0Up = true → s.sys.fwReady = true →
    (regInfo off.toNat).isSome = true → State.snapshotLo off.toNat = true → tableWf (fun _ => (0 : Word)) 0 s.hif.hiCopy = true →
    ∃ t, exec (.snapshotLoRead ⟨off, false⟩) s = .next t ∧
      t.out = s.out ++ [.readReply (s.readReg off.toNat)] ∧
      tget (fun _ => 0) t.hif.hiCopy (off.toNat + 4) = BitVec.ofNat 32 (s.liveHi off.toNat) ∧
      { t with hif := s.hif, out := s.out, pmc := s.pmc } = s) ∧
  (∀ s : State, s.hostUp = true → exec .merTimeFracRead s =
    .next { s.hostOut 4 with
      mer := { s.mer with copy := s.mer.time }, out := s.out ++ [.readReply (BitVec.ofNat 32 (s.mer.time / 256 % 65536))] }) ∧
  (∀ (s : State) (p : EthIx), s.hostUp = true → ∃ t, exec (.ethBtCntRead p) s = .next t ∧
    t.out = s.out ++ [.readReply (BitVec.ofNat 32 (s.eth.port[p].crc * 2 ^ 24 + s.eth.port[p].format * 2 ^ 16 +
      s.eth.port[p].noSpace * 2 ^ 8 + s.eth.port[p].dup))] ∧
    t.eth.port[p] = { s.eth.port[p] with crc := 0, format := 0, noSpace := 0, dup := 0 } ∧
    (∀ q : EthIx, q ≠ p → t.eth.port[q] = s.eth.port[q]) ∧ { t with eth := s.eth, out := s.out, pmc := s.pmc } = s) ∧
  (∀ (s : State) (n : Nat), s.bar0Up = true → s.sys.fwReady = true →
    exec (.barBadAccess (.bar0Read n)) s = .next { s.hostOut n with
      hif := { s.hif with badAccess := sat32 (s.hif.badAccess + 1) }, out := s.out ++ [.dataReply (List.replicate n 0xFF)] } ∧
    exec (.barBadAccess .bar0Write) s = .next { s with hif := { s.hif with badAccess := sat32 (s.hif.badAccess + 1) } } ∧
    exec (.barBadAccess .bar2Write) s = .next { s with hif := { s.hif with badAccess := sat32 (s.hif.badAccess + 1) } } ∧
    exec (.barBadAccess (.bar2Read n)) s = .next { s.hostOut n with out := s.out ++ [.dataReply (List.replicate n 0)] })

/-- R95, R395, R400: bytes written to a sound spool stand at their places and every other byte reads as before; below the device
area, whose arrangement the spec leaves open, they read back as written. -/
def Obligations.SpoolWriteThenRead : Prop :=
  ∀ (s : State) (port a : Nat) (bs : List Byte), SoundSpool s → port < 8 → bs ≠ [] → a + bs.length ≤ spoolSize →
    (s.spoolPut port a bs).2 = true ∧
    Stored a bs s (s.spoolPut port a bs).1 ∧
    (a + bs.length ≤ deviceArea → ((s.spoolPut port a bs).1.spoolGet port a bs.length).2 = some bs)

/-- R95, R155, R189, R494: a BAR4 read returns what the spool holds, or a poisoned completion and E_SPOOL_DATA; a write
is discarded and counted while it is not enabled or the engine runs, and stored where it is, to read back as written. -/
def Obligations.Bar4ReadsAndWritesTheSpool : Prop :=
  (∀ (s : State) (o : BitVec 32) (len : Nat), s.bar0Up = true → s.sys.fwReady = true → o.toNat + len ≤ 2 ^ 32 → 1 ≤ len →
    s.sys.lpCur ≠ 2 → s.bar4Addr o.toNat + len ≤ spoolSize →
    ∃ t, exec (.bar4Read o len) s = .next t ∧ t.mem = s.mem ∧ t.cfg = s.cfg ∧ t.fns = s.fns ∧
      (∀ bs, (s.spoolGet 2 (s.bar4Addr o.toNat) len).2 = some bs → t.out = s.out ++ [.dataReply bs]) ∧
      ((s.spoolGet 2 (s.bar4Addr o.toNat) len).2 = none → t.out = s.out ++ [.poisonedReply])) ∧
  (∀ (s : State) (o : BitVec 32) (bs : List Byte), s.hostUp = true → s.bar0Up = true → o.toNat + bs.length ≤ 2 ^ 32 →
    bs ≠ [] → s.sys.lpCur ≠ 2 → s.fbit aHifDbg 31 = true → s.fnStopped .engine = true →
    s.bar4Addr o.toNat + bs.length ≤ State.deviceOnly → SoundSpool s →
    ∃ t u, exec (.bar4Write o bs) s = .next t ∧ Stored (s.bar4Addr o.toNat) bs s t ∧ t.cfg = s.cfg ∧ t.fns = s.fns ∧
      t.out = s.out ∧ exec (.bar4Read o bs.length) t = .next u ∧ u.out = t.out ++ [.dataReply bs]) ∧
  (∀ (s : State) (o : BitVec 32) (bs : List Byte), s.hostUp = true → o.toNat + bs.length ≤ 2 ^ 32 → bs ≠ [] →
    (s.fbit aHifDbg 31 = false ∨ s.fnStopped .engine = false) → ∃ t, exec (.bar4Write o bs) s = .next t ∧
      t.hif = { s.hif with badAccess := sat32 (s.hif.badAccess + 1) } ∧ { t with hif := s.hif, pmc := s.pmc } = s)

/-- R155, R409, R31: while the engine is stopped, a write of SYS_POWER stores LPS, which takes effect, L1, or L2 with every
online channel in self-refresh, and a write of SPL_FLIP_CTRL arms the injection it describes; while it runs, the latter is
refused. -/
def Obligations.SettingsNeedAStoppedEngine : Prop :=
  (∀ (s : State) (v : Word), s.hostUp = true → s.fnStopped .engine = true → (v &&& 3 = 1 ∨ v &&& 3 = 2) →
      ∃ t, exec (.lpsWrite v) s = .next t ∧ t.sys = { s.sys with lpCur := (v &&& 3).toNat } ∧
        t.rd aSysPower = v &&& 3 ∧ t.mem = s.mem ∧ t.hif = s.hif ∧ t.fns = s.fns ∧ t.out = s.out ∧
        (v &&& 3 = 2 → ∀ c : ChanIx, s.spl.chans[c].offline = false → t.spl.chans[c].selfRef = true)) ∧
  ((∀ (s : State) (v : Word), s.hostUp = true → s.engRuns = false → s.fns.eng.busy = false → v.getLsbD 31 = true →
      s.spl.flip = none → State.flipRange v.toNat = false → ∃ t, exec (.flipArm v) s = .next t ∧
        t.spl = { s.spl with
          flip := some ⟨v.getLsbD 29, s.rd64 (aSpl 0x14), State.flipPats v.toNat (s.rdN (aSpl 0x10))⟩ } ∧
        { t with spl := s.spl, cfg := s.cfg, pmc := s.pmc } = s) ∧
    (∀ (s : State) (v : Word), s.hostUp = true → s.engRuns = true → AsyncRoom s → ∃ t, exec (.flipArm v) s = .next t ∧
      t.hif.refused = s.hif.refused + 1 ∧ { t with hif := s.hif, pmc := s.pmc } = s))

/-! ## Ring entries -/

/-- R108 to R110: NOP completes and does nothing else; an entry whose opcode no rule lists ends as malformed, and so does
a NOP with a byte set that it does not use. -/
def Obligations.NopCompletesAndMalformedEntriesFail : Prop :=
  (∀ (s : State) (r : RingIx) (e : Entry), AtHead s r e → opcode e = 0 → fieldsOnly e [] = true →
    ∃ t, exec (.nop r) s = .next t ∧ Completes r e 0 0 0 2 s t ∧ { t with hif := s.hif } = s) ∧
  (∀ (s : State) (r : RingIx) (e : Entry), s.entry? r = some e → r.1 ≠ 0 → s.ringDead r = false →
    (∀ x ∈ s.hif.rings[r].running, x.1 ≠ e) → (0x0B < opcode e ∨ opcode e = 0 ∧ fieldsOnly e [] = false) →
    ∃ t, exec (.nop r) s = .next t ∧ Completes r e 0x0102 (infoUnit 0xFF) 0 2 s t ∧ { t with hif := s.hif } = s)

/-- R127, R128, R149: JOB_OPEN opens a job with its plane map while fewer than sixteen are open and its ID is not, and fails
otherwise; JOB_CLOSE closes an open job, and its RELEASE takes exactly the bands of the job that no queued sheet uses.
R138 to R140, R188: SHEET queues its sheet at the end, as its entry or, for a REPRINT, the kept record describes it; it is
refused for a job that is not open, a plane that is not bound, a record that is not kept and an ID that is not after the last
queued one; and it waits at the head of its ring while 64 sheets are queued. -/
def Obligations.JobsAndSheetsQueue : Prop :=
  ((∀ (s : State) (r : RingIx) (e : Entry), AtHead s r e → opcode e = 3 → formJobOpen e = true →
      s.job.jobs.length < 16 →
      (s.job? (fieldAt e 24 2) = none → ∃ t, exec (.jobOpen r) s = .next t ∧ Completes r e 0 0 0 5 s t ∧
        t.job = { s.job with jobs := s.job.jobs ++
          [⟨fieldAt e 24 2, Vector.ofFn fun p : Fin 16 => BitVec.ofNat 8 (fieldAt e (28 + p.1) 1)⟩] } ∧
        { t with hif := s.hif, job := s.job } = s) ∧
      ((s.job? (fieldAt e 24 2)).isSome = true → ∃ t, exec (.jobOpen r) s = .next t ∧
        Completes r e 0x0202 (infoUnit 0xFF) 0 5 s t ∧ { t with hif := s.hif } = s)) ∧
    (∀ (s : State) (r : RingIx) (e : Entry), AtHead s r e → opcode e = 3 → formJobOpen e = true →
      16 ≤ s.job.jobs.length → ∃ t, exec (.jobOpen r) s = .next t ∧
        Completes r e 0x0201 (infoUnit 0xFF) 0 5 s t ∧ { t with hif := s.hif } = s) ∧
    (∀ (s : State) (r : RingIx) (e : Entry), AtHead s r e → opcode e = 4 → formJobClose e = true →
      (s.job? (fieldAt e 24 2)).isSome = true → ∃ t, exec (.jobClose r) s = .next t ∧ Completes r e 0 0 0 5 s t ∧
        t.job.jobs = s.job.jobs.filter (fun q => decide (q.id ≠ fieldAt e 24 2)) ∧
        t.job.sheets = s.job.sheets.map (fun q => if q.job = fieldAt e 24 2 then { q with jobOpen := false } else q) ∧
        t.job.records = s.job.records.map (fun q => if q.sheet.job = fieldAt e 24 2 then { q with jobUid := false } else q) ∧
        (fieldAt e 26 1 = 0 → t.job.bands = s.job.bands ∧ t.job.spans = s.job.spans) ∧
        (fieldAt e 26 1 = 1 → t.job.bands = s.job.bands.filter fun b =>
          decide (b.key.job ≠ fieldAt e 24 2) || s.job.sheets.any fun sh => s.sheetUses sh b) ∧
        { t.job with
          jobs := s.job.jobs, sheets := s.job.sheets, records := s.job.records, bands := s.job.bands
          spans := s.job.spans } = s.job ∧
        { t with hif := s.hif, job := s.job } = s) ∧
    (∀ (s : State) (r : RingIx) (e : Entry), AtHead s r e → opcode e = 4 → formJobClose e = true →
      s.job? (fieldAt e 24 2) = none → ∃ t, exec (.jobClose r) s = .next t ∧
        Completes r e 0x0203 (infoUnit 0xFF) 0 5 s t ∧ { t with hif := s.hif } = s)) ∧
  (∀ (s : State) (r : RingIx) (e : Entry), AtHead s r e → opcode e = 5 → formSheet e = true →
    let inOrder := ∀ l, s.job.lastId = some l → afterMod 32 (fieldAt e 24 4) l.toNat = true
    let queues (sh : Sheet) (t : State) : Prop :=
      t.job = { s.job with sheets := s.job.sheets ++ [sh], lastId := some sh.id } ∧
      sh.id = BitVec.ofNat 32 (fieldAt e 24 4) ∧ sh.ring = r ∧ sh.tag = BitVec.ofNat 16 (fieldAt e 2 2) ∧
      sh.cls = .none ∧ sh.code = 0 ∧ sh.seen = [] ∧ sh.anchored = false ∧ sh.started = false ∧ sh.jobOpen = true ∧
      sh.computed = Vector.replicate 8 0 ∧ sh.fired = Vector.replicate 8 0 ∧
      t.se.clipped = s.se.clipped + s.se.patches.countP (fun q =>
        decide (q.sheet = sh.id) && decide (sh.rows < q.firstRow + q.rows)) ∧
      { t with hif := s.hif, job := s.job, se := { t.se with clipped := s.se.clipped } } = s
    (64 ≤ s.job.sheets.length → exec (.sheet r) s = .next s) ∧
    (s.job.sheets.length < 64 → fieldAt e 43 1 = 0 →
      (∀ j, s.job? (fieldAt e 28 2) = some j →
        (∀ p : Fin 16, bit (fieldAt e 30 2) p.1 = true → j.planeMap[p].toNat / 64 ≠ 0) →
        (inOrder → ∃ t sh, exec (.sheet r) s = .next t ∧ Completes r e 0 0 0 5 s t ∧ queues sh t ∧
          sh.phase = BitVec.ofNat 32 (fieldAt e 24 4) ∧ sh.job = fieldAt e 28 2 ∧ sh.planeMap = j.planeMap ∧
          sh.mask = BitVec.ofNat 16 (fieldAt e 30 2) ∧ sh.rows = fieldAt e 32 4 ∧ sh.firstBand = fieldAt e 36 4 ∧
          sh.firstRow = fieldAt e 40 3) ∧
        (¬inOrder → ∃ t, exec (.sheet r) s = .next t ∧ Completes r e 0x0205 (infoUnit 0xFF) 0 5 s t ∧
          { t with hif := s.hif } = s)) ∧
      (∀ (j : Job) (p : Fin 16), s.job? (fieldAt e 28 2) = some j → bit (fieldAt e 30 2) p.1 = true →
        j.planeMap[p].toNat / 64 = 0 → ∃ t, exec (.sheet r) s = .next t ∧
          Completes r e 0x020C (infoUnit 0xFF) 0 5 s t ∧ { t with hif := s.hif } = s) ∧
      (s.job? (fieldAt e 28 2) = none → ∃ t, exec (.sheet r) s = .next t ∧
        Completes r e 0x0203 (infoUnit 0xFF) 0 5 s t ∧ { t with hif := s.hif } = s)) ∧
    (s.job.sheets.length < 64 → fieldAt e 43 1 = 1 →
      (∀ m, s.record? (BitVec.ofNat 32 (fieldAt e 44 4)) = some m → m.jobUid = true → m.valid s.job.tail = true →
        (inOrder → ∃ t sh, exec (.sheet r) s = .next t ∧ Completes r e 0 0 0 5 s t ∧ queues sh t ∧
          sh.phase = m.sheet.phase ∧ sh.job = m.sheet.job ∧ sh.planeMap = m.sheet.planeMap ∧ sh.mask = m.sheet.mask ∧
          sh.rows = m.sheet.rows ∧ sh.firstBand = m.sheet.firstBand ∧ sh.firstRow = m.sheet.firstRow) ∧
        (¬inOrder → ∃ t, exec (.sheet r) s = .next t ∧ Completes r e 0x0205 (infoUnit 0xFF) 0 5 s t ∧
          { t with hif := s.hif } = s)) ∧
      ((∀ m, s.record? (BitVec.ofNat 32 (fieldAt e 44 4)) = some m → m.jobUid = false ∨ m.valid s.job.tail = false) →
        ∃ t, exec (.sheet r) s = .next t ∧ Completes r e 0x0206 (infoUnit 0xFF) 0 5 s t ∧ { t with hif := s.hif } = s)))

/-- R130, R134, R160, R431, R437: BAND_WRITE and BAND_GATHER start, with a pool channel and a reservation at the write pointer,
when their container fits; with nothing free or soft they wait, not started; a landing that waits starts once it fits; and a
container that lands sound is written to its place and published. -/
def Obligations.ContainersLandAndArePublished : Prop :=
  (∀ (s : State) (r : RingIx) (e : Entry), AtHead s r e → BulkOk s → opcode e = 1 → formBandWrite e = true →
    s.job.waiting = [] → (fieldAt e 4 4 + 63) / 64 ≤ s.ringFree → ∃ t, exec (.bandWrite r) s = .next t ∧ Begun r s t ∧
      t.job = { s.job with
        spans := s.job.spans ++ [⟨s.job.wr, (fieldAt e 4 4 + 63) / 64, .landing (.entry r e)⟩]
        wr := s.job.wr + (fieldAt e 4 4 + 63) / 64 } ∧
      (∃ ch : DmaIx, s.poolFree = some ch ∧ t.dma.ch[ch].owner = some (r, e) ∧
        ∀ d : DmaIx, d ≠ ch → t.dma.ch[d] = s.dma.ch[d]) ∧
      { t with hif := s.hif, job := s.job, dma := s.dma } = s) ∧
  (∀ (s : State) (r : RingIx) (e : Entry), AtHead s r e → s.sys.lpCur ≠ 2 → opcode e = 1 → formBandWrite e = true →
    s.ringFree < (fieldAt e 4 4 + 63) / 64 → (∀ x ∈ s.job.spans, s.spanSoft x = false) →
    exec (.bandWrite r) s = .next { s with
      job := { s.job with waiting := s.job.waiting ++ [⟨.entry r e, fieldAt e 4 4⟩] } }) ∧
  (∀ (s : State) (r : RingIx) (e : Entry) (table : List IndexEntry), AtHead s r e → BulkOk s → opcode e = 2 →
    formBandGather e = true → fieldAt e 28 1 = 0 → s.job.waiting = [] → (fieldAt e 4 4 + 63) / 64 ≤ s.ringFree →
    ∃ t, exec (.bandGather r table) s = .next t ∧ Begun r s t ∧
      t.job = { s.job with
        spans := s.job.spans ++ [⟨s.job.wr, (fieldAt e 4 4 + 63) / 64,
          .landing (.gather r e ((List.range (fieldAt e 24 4)).map fun i => table.getD i 0))⟩]
        wr := s.job.wr + (fieldAt e 4 4 + 63) / 64 } ∧
      ReadsHost (State.entryNs e) s t ∧
      { t with hif := s.hif, job := s.job, dma := s.dma, pmc := s.pmc, out := s.out } = s) ∧
  (∀ (s : State) (r : RingIx) (e : Entry) (len : Nat) (rest : List WaitingLand), s.up = true → BulkOk s →
    s.job.waiting = ⟨.entry r e, len⟩ :: rest → (len + 63) / 64 ≤ s.ringFree →
    ∃ t, exec .spoolReservation s = .next t ∧ Begun r s t ∧
      t.job = { s.job with
        waiting := rest, spans := s.job.spans ++ [⟨s.job.wr, (len + 63) / 64, .landing (.entry r e)⟩]
        wr := s.job.wr + (len + 63) / 64 } ∧
      { t with hif := s.hif, job := s.job, dma := s.dma } = s) ∧
  (∀ (s : State) (pos u : Nat) (host : List Byte) (r : RingIx) (e : Entry), SoundSpool s → s.up = true →
    s.sys.lpCur ≠ 2 → s.hif.linkUp = true → 0 < s.ringUnits → s.ringBase + 64 * s.ringUnits ≤ spoolSize →
    fieldAt e 4 4 ≤ 64 * s.ringUnits →
    s.job.spans.find? (fun x => decide (x.pos = pos)) = some ⟨pos, u, .landing (.entry r e)⟩ →
    containerSound (slice host 0 (fieldAt e 4 4)) = true →
    s.planeOpen (cJob (slice host 0 (fieldAt e 4 4))) (cPlane (slice host 0 (fieldAt e 4 4))) = true →
    s.band? (containerBand (slice host 0 (fieldAt e 4 4)) pos).key = none → s.job.bands.length < 262144 →
    ∃ t, exec (.containerLanded pos host) s = .next t ∧
      t.job.bands = s.job.bands ++ [containerBand (slice host 0 (fieldAt e 4 4)) pos] ∧
      t.job.sheets = s.job.sheets ∧ t.job.jobs = s.job.jobs ∧ t.job.wr = s.job.wr ∧ t.job.tail = s.job.tail ∧
      t.ringPeek pos (fieldAt e 4 4) = slice host 0 (fieldAt e 4 4) ∧ t.cfg = s.cfg ∧ t.fns = s.fns ∧
      ReadsHost (State.entryNs e) s t)

/-- R186 to R191, R453: a checked TABLE_LOAD stages its elements and its check and touches no table in force; a failed payload
check changes nothing but the completion; a CRC unit that disagrees with its copy is a class D stop; a checked patch that
comes in time enters the store while there is room. -/
def Obligations.TablesAreStagedAndPatchesStored : Prop :=
  (∀ (s : State) (r : RingIx) (e : Entry) (payload : List Byte), AtHead s r e → BulkOk s → opcode e = 7 →
    formTableLoad e = true → tlTable e ≤ 4 →
    foldedCrc (tlContext e) (slice payload 0 (fieldAt e 4 4)) = BitVec.ofNat 32 (fieldAt e 56 4) →
    ∃ t, exec (.tableLoad r ⟨payload, false⟩) s = .next t ∧ Completes r e 0 0 0 8 s t ∧
      (∀ k : BarIx, k.1 = tlUnit e → t.bar[k] = { s.bar[k] with
        staged := (s.bar[k].staged.put (tlTable e) (tlSub e) (tlFirst e)
          (leWords (elemBytes (tlTable e)) (fieldAt e 4 4 / elemBytes (tlTable e)) (slice payload 0 (fieldAt e 4 4)))) }) ∧
      (∀ k : BarIx, k.1 ≠ tlUnit e → t.bar[k] = s.bar[k]) ∧
      tget (fun _ => none) t.se.checks (State.checkKey (tlTable e) (tlUnit e) (tlSub e)) =
        some (BitVec.ofNat 32 (fieldAt e 32 4)) ∧
      { t.se with checks := s.se.checks } = s.se ∧
      t.spl = { s.spl with dev := s.spl.dev + 1, devHost := [] } ∧ ReadsHost (State.entryNs e) s t ∧
      { t with hif := s.hif, bar := s.bar, se := s.se, spl := s.spl, dma := s.dma, pmc := s.pmc, out := s.out } = s) ∧
  (∀ (s : State) (r : RingIx) (e : Entry) (payload : List Byte), AtHead s r e → BulkOk s → opcode e = 7 →
    formTableLoad e = true →
    foldedCrc (tlContext e) (slice payload 0 (fieldAt e 4 4)) ≠ BitVec.ofNat 32 (fieldAt e 56 4) →
    ∃ t, exec (.tableLoad r ⟨payload, false⟩) s = .next t ∧ Completes r e 0x0103 (infoUnit 0xFF) 0 8 s t ∧
      ReadsHost (State.entryNs e) s t ∧
      { t with hif := s.hif, dma := s.dma, pmc := s.pmc, out := s.out } = s) ∧
  (∀ (s : State) (r : RingIx) (e : Entry) (payload : List Byte), AtHead s r e → BulkOk s → opcode e = 7 →
    formTableLoad e = true → ∃ t, exec (.tableLoad r ⟨payload, true⟩) s = .next t ∧ t.integ.dstop = true ∧
      t.integ.engineOk = false ∧ (s.integ.dstop = false → t.integ.dcode = 0x1006)) ∧
  (∀ (s : State) (r : RingIx) (e : Entry) (payload : List Byte) (k : BarIx), AtHead s r e → BulkOk s → opcode e = 8 →
    formOverlayPatch e = true → s.ovlOn = true → (entryHead e).bar = k.1 →
    foldedCrc ((entryHead e).context 0x22) (slice payload 0 (entryHead e).length) = BitVec.ofNat 32 (fieldAt e 56 4) →
    s.patchLate ((entryHead e).patch k (slice payload 0 (entryHead e).length)) = false →
    s.patchRoom ((entryHead e).patch k (slice payload 0 (entryHead e).length)).bytes = true →
    ∃ t, exec (.overlayPatch r ⟨payload, false⟩) s = .next t ∧ Completes r e 0 0 0 8 s t ∧
      t.se.patches = s.se.patches ++ [(entryHead e).patch k (slice payload 0 (entryHead e).length)] ∧
      ReadsHost (State.entryNs e) s t ∧
      { t with hif := s.hif, se := s.se, dma := s.dma, pmc := s.pmc, out := s.out } = s) ∧
  (∀ (s : State) (r : RingIx) (e : Entry) (q : Patch), s.up = true → s.ovlOn = true →
    s.se.ringPatch.find? (fun w => decide (w.1 = r)) = some (r, e, q) → s.patchLate q = false →
    s.patchRoom q.bytes = true → ∃ t, exec (.patchAccept (.ring r)) s = .next t ∧
      t.se.patches = s.se.patches ++ [q] ∧
      t.se.ringPatch = dropFirst (fun w => decide (w = (r, e, q))) s.se.ringPatch ∧
      t.mem = s.mem ∧ t.job = s.job ∧ t.bar = s.bar ∧ t.port = s.port ∧ t.out = s.out)

/-- R116, R117, R173 to R178, R438: SPOOL_READ moves spool bytes into host memory, with the attributes its entry and RO_EN ask
for; a COMPRESS entry that finds a free lane is taken by
it; a lane whose output fits and is smaller writes it and reports its length and the input's CRC, and one whose output has
no room, or is no smaller, reports that. -/
def Obligations.SpoolReadAndCompress : Prop :=
  (∀ (s : State) (r : RingIx) (e : Entry) (bs : List Byte), AtHead s r e → BulkOk s → opcode e = 9 →
    formSpoolRead e = true → (s.spoolGet 2 (fieldAt e 16 8) (fieldAt e 4 4)).2 = some bs → SoundSpool s →
    ∃ t, exec (.spoolRead r) s = .next t ∧ Completes r e 0 0 0 0x13 s t ∧
      t.out = s.out ++ [.hostWrite (fieldAt e 8 8) bs (State.entryNs e) (s.fbit aHifCtrl 15)] ∧ t.mem = s.mem ∧
      { t with hif := s.hif, out := s.out, spl := s.spl, dma := s.dma, pmc := s.pmc } = s) ∧
  (∀ (s : State) (r : RingIx) (e : Entry) (input : List Byte), AtHead s r e → BulkOk s → s.sys.lpCur = 0 →
    opcode e = 0x0A → s.formCompress e = true → cmpInSpool e = false → cmpChainCount e = 0 →
    s.exp.cmp = #v[none, none, none, none] → s.exp.cmpWait = [] →
    ∃ t, exec (.compress r input []) s = .next t ∧ Begun r s t ∧
      t.exp = { s.exp with cmp := #v[some ⟨r, e, slice input 0 (cmpLen e), [], decide (s.sys.svc ≠ 1)⟩, none, none, none] } ∧
      ReadsHost (State.entryNs e) s t ∧
      { t with hif := s.hif, exp := s.exp, dma := s.dma, pmc := s.pmc, out := s.out } = s) ∧
  (∀ (s : State) (lane : Fin 4) (j : CmpJob), s.exp.cmp[lane] = some j → s.up = true → s.sys.lpCur = 0 →
    s.exp.cmpWait = [] → cmpOutSpool j.entry = false → j.chain = [] → s.ringDead j.ring = false → j.ring.1 ≠ 0 →
    ∃ t, exec (.compressLaneDone lane) s = .next t ∧
      t.exp = { s.exp with cmp := s.exp.cmp.set lane.1 none } ∧
      (j.ends = .good → j.out ≠ [] → t.out = s.out ++
        [.hostWrite (fieldAt j.entry 16 8) j.out (State.entryNs j.entry) (s.fbit aHifCtrl 15)]) ∧
      (j.ends = .good → bit (fieldAt j.entry 1 1) 1 = true →
        t.hif.rings[j.ring].due = s.hif.rings[j.ring].due ++ [s.completionEvent j.ring j.entry 0
          (BitVec.ofNat 64 j.out.length) ((crc32c (leBytes 8 0) j.input).setWidth 48) 6]) ∧
      (j.ends = .noSpace → t.hif.rings[j.ring].due = s.hif.rings[j.ring].due ++
        [s.completionEvent j.ring j.entry 0x0307 (infoUnit unitNone) 0 6]) ∧
      (j.ends = .notSmaller → t.hif.rings[j.ring].due = s.hif.rings[j.ring].due ++
        [s.completionEvent j.ring j.entry 0x0308 (infoUnit unitNone) 0 6]) ∧
      { t with hif := s.hif, exp := s.exp, out := s.out, dma := s.dma, pmc := s.pmc } = s)

/-- R391, R482 to R485, R489: each MAILBOX message with its arguments in range, and with the engine stopped where it
must be, completes with its value: VERSION, LEDGER_CLEAR, LEDGER_READ, HEALTH_SNAPSHOT (which fails with cause 3 when the snapshot
is longer than LENGTH), SERVICE_STATE, ROLLBACK_COMMIT and ECHO. -/
def Obligations.MailboxMessagesAnswer : Prop :=
  ∀ (s : State) (r : RingIx) (e : Entry), AtHead s r e → opcode e = 0x0B → State.formMailbox e = true →
  (State.mbMsg e = 1 → State.mbArg0 e = 0 → State.mbArg1 e = 0 → ∃ t, exec (.version r) s = .next t ∧
    Completes r e 0 (BitVec.ofNat 64 s.versionInfo) 0 0x16 s t ∧ { t with hif := s.hif, pmc := s.pmc } = s) ∧
  (State.mbMsg e = 2 → State.clearArgs e = true → s.engStopped = true → 4 * (s.cal.slots + 1) < 3 * s.halfSlots →
    ∃ t, exec (.ledgerClear r) s = .next t ∧ Completes r e 0 0 0 0x16 s t ∧
      t.cal.ledger = s.cal.ledger ++ [⟨s.cal.seq, s.mer.time / 16777216 / 1000000000 % 2 ^ 48, 0x0D, s.mer.trace,
        BitVec.ofNat 32 (State.mbArg0 e), BitVec.ofNat 32 (State.mbArg1 e), 0⟩] ∧
      t.cal.seq = s.cal.seq + 1 ∧ { t with hif := s.hif, cal := s.cal, pmc := s.pmc } = s) ∧
  (State.mbMsg e = 3 → State.mbArg0 e = 0 → State.mbArg1 e = 0 → s.cal.ledger ≠ [] → 32 * s.cal.ledger.length ≤ State.mbLen e →
    s.hif.linkUp = true → ∃ t, exec (.ledgerRead r) s = .next t ∧
      Completes r e 0 0 (BitVec.ofNat 48 (32 * s.cal.ledger.length)) 0x16 s t ∧
      t.out = s.out ++ [.hostWrite (fieldAt e 8 8) (s.cal.ledger.flatMap Record.bytes) (State.entryNs e)
        (s.fbit aHifCtrl 15)] ∧
      { t with hif := s.hif, out := s.out, pmc := s.pmc } = s) ∧
  (State.mbMsg e = 4 → 1 ≤ State.mbArg0 e → State.mbArg0 e ≤ 9 → State.mbArg1 e = 0 → s.hif.linkUp = true →
    let reply := deflate (Config.snapshotBytes s.free) (State.mbArg0 e) (decide (s.sys.svc ≠ 1))
    ∃ t, exec (.healthSnapshot r) s = .next t ∧
      (reply.length ≤ State.mbLen e → Completes r e 0 0 (BitVec.ofNat 48 reply.length) 0x16 s t ∧
        (reply ≠ [] → t.out = s.out ++ [.hostWrite (fieldAt e 8 8) reply (State.entryNs e) (s.fbit aHifCtrl 15)])) ∧
      (State.mbLen e < reply.length →
        Completes r e 0x1103 (infoUnit unitNone) (BitVec.ofNat 48 (3 * 2 ^ 32)) 0x16 s t ∧ t.out = s.out) ∧
      { t with hif := s.hif, out := s.out, pmc := s.pmc, free := s.free } = s) ∧
  (State.mbMsg e = 5 → (State.mbArg0 e = 1 ∨ State.mbArg0 e = 2) → State.mbArg1 e = 0 → s.engStopped = true →
    ∃ t, exec (.serviceState r) s = .next t ∧ Completes r e 0 0 0 0x16 s t ∧
      t.sys = { s.sys with svc := State.mbArg0 e } ∧ { t with hif := s.hif, sys := s.sys, pmc := s.pmc } = s) ∧
  (State.mbMsg e = 6 → State.mbArg0 e = 0 → State.mbArg1 e = 0 → s.engStopped = true →
    ∃ t, exec (.rollbackCommit r) s = .next t ∧
      Completes r e 0 (BitVec.ofNat 64 (max s.sys.fuses s.sys.imgSvn)) 0 0x16 s t ∧
      t.sys = { s.sys with fuses := max s.sys.fuses s.sys.imgSvn } ∧
      { t with hif := s.hif, sys := s.sys, pmc := s.pmc } = s) ∧
  (State.mbMsg e = 7 → State.mbArg0 e = 0 → ∃ t, exec (.echo r) s = .next t ∧
    Completes r e 0 (BitVec.ofNat 64 (State.mbArg1 e)) 0 0x16 s t ∧ { t with hif := s.hif, pmc := s.pmc } = s)

/-! ## Functions -/

/-- R30, R32, R149, R150: a stop of a running camera port or head port takes effect at once and completes when posted; a stop of
a stopped function completes at once; a stop placed in a gap waits, and takes effect there.
R30, R32, R36: a restart that its checks pass marks its functions and waits for its links, or, where it puts a spare into use,
for the record of the swap; when it completes, each of its functions runs under its next generation. -/
def Obligations.FunctionsStopAndRestart : Prop :=
  ((∀ (s : State) (r : RingIx) (e : Entry) (f : FnRef), AtHead s r e → opcode e = 6 → formFunction e = true →
      fnRestarts e = false → fnOf e = some f → (s.fn f).running = false → s.restarting f = false →
      ∃ t, exec (.functionStop r) s = .next t ∧
        Completes r e 0 0 0 5 s t ∧ t.fn f = { s.fn f with own := true } ∧ (∀ g, g ≠ f → t.fn g = s.fn g) ∧
        t.fns.reqs = s.fns.reqs ∧ { t with hif := s.hif, fns := s.fns } = s) ∧
    (∀ (s : State) (r : RingIx) (e : Entry) (c : CamIx), AtHead s r e → opcode e = 6 → formFunction e = true →
      fnRestarts e = false → fnInGap e = false → fnOf e = some (.cam c) → s.fns.cam[c].running = true →
      s.fns.cam[c].busy = false → s.restarting (.cam c) = false → ∃ t, exec (.functionStop r) s = .next t ∧ Begun r s t ∧
        t.fns.cam[c].running = false ∧ t.fns.cam[c].own = true ∧ (∀ g, g ≠ .cam c → t.fn g = s.fn g) ∧
        t.fns.reqs = s.fns.reqs ++ [⟨.cam c, false, r, e, none, [.cam c], false⟩] ∧ t.mem = s.mem ∧ t.cfg = s.cfg ∧
        t.job = s.job ∧ t.port = s.port ∧ t.bar = s.bar) ∧
    (∀ (s : State) (r : RingIx) (e : Entry) (f : FnRef), AtHead s r e → opcode e = 6 → formFunction e = true →
      fnRestarts e = false → fnInGap e = true → fnOf e = some f → (s.fn f).running = true → s.restarting f = false →
      s.gapReached f (fnAtSheet e) = false → ∃ t, exec (.functionStop r) s = .next t ∧ Begun r s t ∧
        t.fns = { s.fns with reqs := s.fns.reqs ++ [⟨f, false, r, e, some (fnAtSheet e), [], false⟩] } ∧
        { t with hif := s.hif, fns := s.fns } = s) ∧
    (∀ (s : State) (p : PortIx) (q : FnReq), s.up = true → s.gapRequest (.port p) = some q → q.restart = false →
      s.fns.port[p].running = true → s.fns.port[p].busy = false → s.restarting (.port p) = false → s.testing p = false →
      ∃ t, exec (.functionGapEffect (.port p)) s = .next t ∧ t.fns.port[p].running = false ∧ t.fns.port[p].own = true ∧
        (∀ g, g ≠ .port p → t.fn g = s.fn g) ∧ t.port[p].rows = [] ∧ t.port[p].fire = s.barWr (barOf p) ∧
        t.port[p].wr = s.barWr (barOf p) ∧ t.mem = s.mem ∧ t.cfg = s.cfg ∧ t.job = s.job ∧ t.bar = s.bar) ∧
    (∀ (s : State) (f : FnRef) (q : FnReq), s.up = true → s.openRequest f false = some q → s.stopDone q = true →
      s.ringDead q.ring = false → q.ring.1 ≠ 0 → bit (fieldAt q.entry 1 1) 1 = true →
      ∃ t, exec (.functionStopComplete f) s = .next t ∧
        t.fns.reqs = dropFirst (fun x => decide (x = q)) s.fns.reqs ∧
        (∀ x : AxisIx, FnRef.axis x ∈ q.set → t.fns.axis[x].running = false ∧
          (s.inRestart (.axis x) = false → t.fns.axis[x].busy = false)) ∧
        t.hif.rings[q.ring].due = s.hif.rings[q.ring].due ++ [s.completionEvent q.ring q.entry 0 0 0 5] ∧
        { t with hif := s.hif, fns := s.fns } = s)) ∧
  ((∀ (s : State) (r : RingIx) (e : Entry) (f : FnRef), AtHead s r e → opcode e = 6 → formFunction e = true →
      fnRestarts e = true → fnInGap e = false → fnOf e = some f → s.restartBarred f = true →
      ∃ t, exec (.functionRestart r) s = .next t ∧ (∀ g, t.fn g = s.fn g) ∧ t.hif.refused = s.hif.refused + 1 ∧
        t.hif.rings[r].due = s.hif.rings[r].due ++ [s.completionEvent r e 0x1001 (infoUnit 0xFF) 0 5] ∧
        { t with hif := s.hif, fns := s.fns } = s) ∧
    (∀ (s : State) (r : RingIx) (e : Entry) (c : CamIx), AtHead s r e → opcode e = 6 → formFunction e = true →
      fnRestarts e = true → fnInGap e = false → fnOf e = some (.cam c) → s.fns.cam[c].running = false →
      s.fns.cam[c].busy = false → s.engRuns = true → (s.begin r).effectFail [.cam c] true = none →
      ∃ t, exec (.functionRestart r) s = .next t ∧ Begun r s t ∧ t.fns.cam[c] = { s.fns.cam[c] with busy := true } ∧
        (∀ g, g ≠ .cam c → t.fn g = s.fn g) ∧
        t.fns.reqs = s.fns.reqs ++ [⟨.cam c, true, r, e, none, [.cam c], false⟩] ∧
        { t with hif := s.hif, fns := s.fns } = s) ∧
    (∀ (s : State) (r : RingIx) (e : Entry) (f : FnRef), AtHead s r e → opcode e = 6 → formFunction e = true →
      fnRestarts e = true → fnInGap e = false → fnOf e = some f → f ≠ .engine → s.restartBarred f = false →
      (s.begin r).effectFail (s.restartSet f) true = none → s.newSwaps (s.restartSet f) ≠ [] →
      ∃ t, exec (.functionRestart r) s = .next t ∧ Begun r s t ∧
        t.fns = { s.fns with reqs := s.fns.reqs ++ [⟨f, true, r, e, none, [], true⟩] } ∧
        t.cal.pending = s.cal.pending ++ (s.newSwaps (s.restartSet f)).map (fun w => ⟨0, 0, w.1, false,
          BitVec.ofNat 32 w.2.1, BitVec.ofNat 32 w.2.2.1, BitVec.ofNat 32 w.2.2.2⟩) ∧
        { t with hif := s.hif, fns := s.fns, cal := s.cal } = s) ∧
    (∀ (s : State) (f : FnRef) (q : FnReq) (bad : List Nat), s.up = true → s.openRequest f true = some q →
      q.ref ≠ .engine → .engine ∉ q.set → q.set.Nodup → s.restartDone q = true →
      s.finalFail (s.stillIn q) bad [] = none → ∃ t, exec (.functionRestartComplete f ⟨bad, []⟩) s = .next t ∧
        (∀ g ∈ s.stillIn q, (t.fn g).running = true ∧ (t.fn g).own = false ∧ (t.fn g).busy = false ∧
          (t.fn g).gen = (s.fn g).gen + 1) ∧
        t.fns.reqs = dropFirst (fun x => decide (x = q)) s.fns.reqs ∧ t.mem = s.mem))

/-! ## Fetch, lanes and the spool controller -/

/-- R164, R166 to R170, R244: the bar asks for the lanes of its next band, with the present cycle as the requests' age, a
granted lane takes the first slice asked for, and the last slice that passes verifies its band; a slice that fails for its
lane's data is counted against the lane. -/
def Obligations.BandsAreFetchedGrantedAndVerified : Prop :=
  (∀ (s : State) (k : BarIx) (u : BandUse), s.up = true → s.barRuns k = true → s.fetchNext k = some u →
    s.fetchRefused k u = none → s.sheet? u.sheet.id = some u.sheet → ∃ t, exec (.bandFetchRequest k) s = .next t ∧
      State.newWork u s.tick (s.bandDeadline k u) none ∈ t.bar[k].works ∧
      t.exp = s.exp ∧ t.mem = s.mem ∧ t.cfg = s.cfg ∧ t.spl = s.spl) ∧
  (∀ (s : State) (k : BarIx) (w : Work) (l : LaneIx), s.up = true → s.grantBar = some k → s.barRequest k = some w →
    s.laneFor w = some l → s.work? k w.sheet w.band.key = some w → ∃ t, exec .laneGrant s = .next t ∧
      t.work? k w.sheet w.band.key = some { w with
        slices := w.slices.set (w.slices.findIdx fun x => decide (x = .requested)) (.onLane l) } ∧
      t.exp = { s.exp with lanePtr := (k.1 + 1) % 8 } ∧
      { t with bar := s.bar, exp := s.exp, spl := s.spl, pmc := s.pmc } = s) ∧
  (∀ (s : State) (k : BarIx) (l : LaneIx) (w : Work) (i : Nat), s.up = true → s.laneSlice l = some (k, w, i) →
    s.readsOutstanding k w.sheet w.band.key (fun b => (State.sliceBlocks w.band i).contains b) = false →
    s.sliceFailure w i none = none → w.ended = none → i < w.slices.length →
    (∀ j, j ≠ i → j < w.slices.length → ∃ x, w.slices[j]? = some (.passed x)) →
    s.bar[k].works.filter (fun x => decide (x.sheet = w.sheet) && decide (x.band.key = w.band.key)) = [w] →
    ∃ t, exec (.sliceEnd l none) s = .next t ∧
      (∀ x, t.work? k w.sheet w.band.key = some x → x.verified = true) ∧ t.exp = s.exp ∧ t.mem = s.mem ∧ t.cfg = s.cfg) ∧
  (∀ (s : State) (k : BarIx) (l : LaneIx) (w : Work) (i : Nat) (code : Code) (crc : Word), s.up = true →
    s.laneSlice l = some (k, w, i) →
    s.readsOutstanding k w.sheet w.band.key (fun b => (State.sliceBlocks w.band i).contains b) = false →
    s.sliceFailure w i none = some (code, crc) → code ≠ 0x0D05 → ∃ t, exec (.sliceEnd l none) s = .next t ∧
      t.exp.laneFault[l].fail = satTo 255 (s.exp.laneFault[l].fail + 1) ∧ t.mem = s.mem)

/-- R400, R403, R404, R408, R410, R414, R416, R417: on a sound spool a channel serves its request, which wakes it where it reaches
DRAM, and scrub moves on; buckets leak; a channel enters and leaves self-refresh; and a parity alert is reported, or takes the
channel offline as class D. -/
def Obligations.ChannelsServeScrubAndSleep : Prop :=
  (∀ (s : State) (c : ChanIx) (q : SpoolReq), SoundSpool s → s.up = true → s.sys.lpCur ≠ 2 → s.spl.chans[c].held = 0 →
    s.spl.chans[c].reqs = [q] → (s.place (64 * (q.addr / 64))).1 = c →
    ∃ t, exec (.spoolRequestServe c []) s = .next t ∧ t.spl.chans[c].reqs = [] ∧
      (s.spl.valid.contains (State.granule c (s.place (64 * (q.addr / 64))).2.1) = true → t.spl.chans[c].selfRef = false) ∧
      (s.spl.valid.contains (State.granule c (s.place (64 * (q.addr / 64))).2.1) = false →
        t.spl.chans[c] = { s.spl.chans[c] with reqs := [] }) ∧
      (∀ d : ChanIx, d ≠ c → t.spl.chans[d] = s.spl.chans[d]) ∧
      { t with spl := s.spl, pmc := s.pmc, free := s.free } = s) ∧
  (∀ (s : State) (c : ChanIx) (w : Bool), SoundSpool s → s.sys.held = [] → s.sys.hbm = true → s.fld (aSpl 4) 31 16 ≠ 0 →
    s.spl.chans[c].selfRef = false → s.spl.chans[c].held = 0 → s.spl.chans[c].scrub + 1 < 22020096 →
    ∃ t, exec (.hbmScrubRead c [] w) s = .next t ∧
      t.spl.chans[c] = { s.spl.chans[c] with scrub := s.spl.chans[c].scrub + 1 } ∧
      { t with spl := s.spl, pmc := s.pmc } = s) ∧
  (∀ (s : State) (c : ChanIx) (w : Bool), s.sys.held = [] → s.sys.hbm = true → s.fld (aSpl 4) 31 16 ≠ 0 →
    s.spl.chans[c].selfRef = true → s.spl.chans[c].offline = false → ∃ t, exec (.hbmScrubRead c [] w) s = .next t ∧
      t.spl.chans[c] = { s.spl.chans[c] with held := s.spl.chans[c].held + 1 } ∧ { t with spl := s.spl } = s) ∧
  (∀ (s : State) (g : GroupIx) (region : SramRegion) (w : Bool),
    s.sys.held = [] → s.fld (aSpl 4) 15 8 ≠ 0 → s.spl.groups[g].scrub + 1 < 8192 →
    ∃ t, exec (.sramScrubRead g region .clean w) s = .next t ∧
      t.spl.groups[g] = { s.spl.groups[g] with scrub := s.spl.groups[g].scrub + 1 } ∧ { t with spl := s.spl } = s) ∧
  (∀ (s : State) (c : ChanIx), s.sys.held = [] → ∃ t, exec (.bucketLeak (.hbm c)) s = .next t ∧
    t.spl.chans[c].ecc.bucket = s.spl.chans[c].ecc.bucket - 1 ∧
    (∀ d : ChanIx, d ≠ c → t.spl.chans[d] = s.spl.chans[d]) ∧ { t with spl := s.spl } = s) ∧
  (∀ (s : State) (c : ChanIx), s.up = true → s.spl.chans[c].reqs = [] → s.fld (aSpl 0) 15 0 ≠ 0 →
    s.spl.chans[c].offline = false → ∃ t, exec (.selfRefreshEntry c) s = .next t ∧
      t.spl.chans[c] = { s.spl.chans[c] with selfRef := true } ∧ { t with spl := s.spl, pmc := s.pmc } = s) ∧
  (∀ (s : State) (c : ChanIx), s.up = true → s.spl.chans[c].selfRef = true → s.spl.chans[c].held = 0 → s.sys.lpCur ≠ 2 →
    ∃ t, exec (.scrubWake c) s = .next t ∧ t.spl.chans[c] = { s.spl.chans[c] with selfRef := false } ∧
      { t with spl := s.spl } = s) ∧
  (∀ (s : State) (c : ChanIx) (n : Fin 4), s.up = true → s.spl.chans[c].offline = false → s.spl.chans[c].selfRef = false →
    AsyncRoom s → n.1 < 3 → ∃ t, exec (.caParityAlert c n) s = .next t ∧
      Posted (s.unitEvent 0x0D07 .p (0x80 + c.1) 0 0x11) s { t with pmc := s.pmc }) ∧
  (∀ (s : State) (c : ChanIx), s.up = true → s.spl.chans[c].offline = false → s.spl.chans[c].selfRef = false →
    ∃ t, exec (.caParityAlert c 3) s = .next t ∧ t.spl.chans[c].offline = true ∧ t.integ.dstop = true ∧
      t.integ.engineOk = false ∧ t.mem = s.mem)

/-! ## Rows, trims and head ports -/

/-- R182, R220, R222, R233, R513: a slot computes its part of the first row that lacks it, and of no other, from the bands behind
it; of a row that carries no data it drops nothing; where no row lacks it, it begins the next row of the queue; a complete row
is written to every live port that has joined, in its queue's next place, with the port's codes. -/
def Obligations.RowsAreComputedAndWritten : Prop :=
  (∀ (s : State) (k : BarIx) (m : SlotIx) (r : Row) (sh : Sheet) (a : State.RowSource), s.up = true → s.barRuns k = true →
    s.bar[k].rows.find? (fun x => x.parts[m].isNone) = some r → s.sheet? r.sheet = some sh →
    s.bar[k].rows.filter (fun x => decide (x.n = r.n)) = [r] → r.written = false → r.noData = none →
    s.slotsFree k r.n = true → s.staggerOk k m r.n = true → s.rowSource k sh r.n r.srow = some a → a.noData = none →
    (s.needsPart k sh.id r.n a.keys = false ∨ s.bar[k].checks.length < 24) →
    ∃ t, exec (.rowCompute k m none) s = .next t ∧
      t.bar[k].rows = s.bar[k].rows.map (fun x => if x.n = r.n then { r with
        works := a.keys
        parts := r.parts.set m.1 (some ((s.clearState k m (s.rowView sh r.n r.srow)).computeSlot k
          (s.rowView sh r.n r.srow) m (s.contoneOf k sh r.srow a)).vals) } else x) ∧
      t.bar[k].grow = s.bar[k].grow ∧ t.bar[k].trims = s.bar[k].trims ∧ (∀ j : BarIx, j ≠ k → t.bar[j] = s.bar[j]) ∧
      { t with bar := s.bar, pmc := s.pmc } = s) ∧
  (∀ (s : State) (k : BarIx) (m : SlotIx) (r : Row) (sh : Sheet) (c : Code), s.up = true → s.barRuns k = true →
    s.bar[k].rows.find? (fun x => x.parts[m].isNone) = some r → s.sheet? r.sheet = some sh →
    s.bar[k].rows.filter (fun x => decide (x.n = r.n)) = [r] → r.written = false → r.noData = some c →
    s.slotsFree k r.n = true → s.staggerOk k m r.n = true → ∃ t, exec (.rowCompute k m none) s = .next t ∧
      t.bar[k].rows = s.bar[k].rows.map (fun x => if x.n = r.n then { r with
        works := [], parts := r.parts.set m.1 (some (List.replicate 8192 none)) } else x) ∧
      (∀ q ∈ t.bar[k].acc, q.1 % 65536 / 8192 ≠ m.1) ∧ t.bar[k].grow = s.bar[k].grow ∧
      t.bar[k].trims = s.bar[k].trims ∧ (∀ j : BarIx, j ≠ k → t.bar[j] = s.bar[j]) ∧
      { t with bar := s.bar, pmc := s.pmc } = s) ∧
  (∀ (s : State) (k : BarIx) (m : SlotIx) (sh : Sheet) (a : State.RowSource), s.up = true → s.barRuns k = true →
    (∀ x ∈ s.bar[k].rows, x.parts[m].isSome = true ∧ x.n < s.bar[k].grow) → s.sheetToCompute k = some sh →
    s.sheet? sh.id = some sh → s.slotsFree k s.bar[k].grow = true → s.staggerOk k m s.bar[k].grow = true →
    s.rowSource k sh s.bar[k].grow sh.computed[k] = some a → a.noData = none → s.ovl.lost = false →
    (s.needsPart k sh.id s.bar[k].grow a.keys = false ∨ s.bar[k].checks.length < 24) →
    ∃ t codes, exec (.rowCompute k m none) s = .next t ∧ codes.length = 8192 ∧
      t.bar[k].rows = s.bar[k].rows ++ [⟨s.bar[k].grow, sh.id, sh.computed[k],
        (Vector.replicate 8 none).set m.1 (some codes), a.keys, none, false⟩] ∧
      t.bar[k].grow = s.bar[k].grow + 1 ∧
      t.sheet? sh.id = some { sh with
        computed := sh.computed.set k.1 (sh.computed[k] + 1)
        reached := sh.reached.set k.1 (max (sh.computed[k] + 1) sh.reached[k]) } ∧
      (∀ j : BarIx, j ≠ k → t.bar[j] = s.bar[j]) ∧
      { t with bar := s.bar, job := s.job, cal := s.cal, pmc := s.pmc } = s) ∧
  (∀ (s : State) (k : BarIx) (r : Row), s.up = true → s.barRuns k = true →
    s.bar[k].rows.find? (fun x => !x.written) = some r → (∀ m : SlotIx, r.parts[m].isSome = true) →
    s.slotsFree k r.n = true →
    (∀ p ∈ s.livePorts k, s.port[p].late = [] ∧ s.deliveryCome p r.sheet r.srow = false ∧
      ∀ x ∈ s.port[p].rows, s.deliveryCome p x.sheet x.srow = false) →
    ∃ t, exec (.rowWrite k) s = .next t ∧
      (∀ p ∈ s.livePorts k, s.port[p].joinAt ≤ r.n → s.port[p].wr ≤ r.n →
        t.port[p].rows = s.port[p].rows ++ [s.queueRow r p] ∧ t.port[p].wr = r.n + 1) ∧
      (∀ p ∈ s.livePorts k, r.n < s.port[p].joinAt ∨ r.n < s.port[p].wr →
        t.port[p].rows = s.port[p].rows ∧ t.port[p].wr = s.port[p].wr) ∧
      (∀ p, p ∉ s.livePorts k → t.port[p] = s.port[p]) ∧
      (∀ x ∈ t.bar[k].rows, x.n = r.n → x.written = true) ∧
      t.bar[k].grow = s.bar[k].grow ∧ t.mem = s.mem ∧ t.cfg = s.cfg ∧ t.fns = s.fns ∧ t.out = s.out)

/-- R200 to R203, R310, R375: at the first row of an epoch the targets become the start, and a batch committed for it becomes
the targets; a commit is accepted while no row of its epoch is computed, and taken at once where the epoch's start has been
taken; a calibration batch is formed and committed. -/
def Obligations.TrimEpochsTakeTheirBatches : Prop :=
  (∀ (s : State) (k : BarIx), s.barRuns k = true → s.epochDue k = true →
    ∃ t, exec (.trimEpochBoundary k) s = .next t ∧ t.bar[k].trims.start = s.bar[k].trims.target ∧
      t.bar[k].trims.prevStart = s.bar[k].trims.start ∧ t.bar[k].trims.prevTarget = s.bar[k].trims.target ∧
      t.bar[k].trims.epoch = s.bar[k].trims.epoch + 1 ∧
      t.bar[k].trims.target = (if s.bar[k].trims.committed = some s.bar[k].trims.epoch then s.bar[k].trims.pend
        else s.bar[k].trims.target) ∧
      (∀ j : BarIx, j ≠ k → t.bar[j] = s.bar[j]) ∧ { t with bar := s.bar } = s) ∧
  (∀ (s : State) (k : BarIx) (e : Nat), s.up = true → s.bar[k].trims.batch = true →
    s.bar[k].grow ≤ e * 2 ^ s.epochLog2 k → ∃ t, exec (.trimTargetCommit k e) s = .next t ∧
      t.bar[k] = { s.bar[k] with trims :=
        if e + 1 = s.bar[k].trims.epoch then
          { s.bar[k].trims with target := s.bar[k].trims.pend, committed := none, batch := false }
        else { s.bar[k].trims with committed := some e } } ∧
      (∀ j : BarIx, j ≠ k → t.bar[j] = s.bar[j]) ∧ { t with bar := s.bar, pmc := s.pmc } = s) ∧
  (∀ (s : State) (k : BarIx) (e : Nat), s.up = true → s.bar[k].trims.batch = true →
    e * 2 ^ s.epochLog2 k < s.bar[k].grow → ∃ t, exec (.trimTargetCommit k e) s = .next t ∧
      t.bar[k] = { s.bar[k] with trims := { s.bar[k].trims with refusals := s.bar[k].trims.refusals + 1 } } ∧
      (∀ j : BarIx, j ≠ k → t.bar[j] = s.bar[j]) ∧ { t with bar := s.bar } = s) ∧
  (∀ (s : State) (k : BarIx), s.batchAllowed k = true → 16 ≤ (s.densityErrors k).length →
    ∃ t, exec (.calBatch k) s = .next t ∧ t.bar[k].trims.pend = s.batchTargets k (s.densityErrors k) ∧
      t.bar[k].trims.batchEpoch = some (s.freshEpoch k) ∧
      (s.freshEpoch k + 1 ≠ s.bar[k].trims.epoch → t.bar[k].trims.committed = some (s.freshEpoch k) ∧
        t.bar[k].trims.target = s.bar[k].trims.target) ∧
      (s.freshEpoch k + 1 = s.bar[k].trims.epoch →
        t.bar[k].trims.target = s.batchTargets k (s.densityErrors k)) ∧
      t.bar[k].trims.start = s.bar[k].trims.start ∧ t.mem = s.mem)

/-- R235, R236, R238, R264: the next released row within the lead leaves as a row frame, with its bytes; a row that waits for a
replay leaves again, and is counted, while its acknowledge deadline has not come; after the frame its answer is awaited; a row
whose slot cannot be read ends void. -/
def Obligations.RowFramesAreSentAndReplayed : Prop :=
  (∀ (s : State) (p : PortIx) (r : QRow), s.portLive p = true → s.laneFree p = true → s.port[p].link.idle = false →
    s.port[p].replayQ = [] → s.port[p].settle.tx < s.port[p].rel → s.port[p].settle.tx < s.port[p].fire + s.lead p →
    s.port[p].row? s.port[p].settle.tx = some r →
    (∃ t, exec (.rowTransmit p false) s = .next t ∧ t.port[p].sending = some (r.n, false) ∧
      t.port[p].rows = s.port[p].rows.map (fun x => if x.n = r.n then { x with sent := true, waitAck := false } else x) ∧
      t.port[p].fire = s.port[p].fire ∧ t.port[p].rel = s.port[p].rel ∧ t.port[p].wr = s.port[p].wr ∧
      t.port[p].link.queue = (rowFrame p r.sheet r.srow r.n (s.rowBytes p r)).drop 1 ∧
      SentLast p (.of false (0x87 :: (leBytes 4 r.sheet.toNat ++ leBytes 3 r.srow))) s t ∧ LanesOnly p s t ∧
      OtherPorts p s t ∧ { t with port := s.port, out := s.out } = s) ∧
    ((s.sheet? r.sheet).isSome = true → ∃ t, exec (.rowTransmit p true) s = .next t ∧
      t.port[p].rows = s.port[p].rows.map (fun x =>
        if x.n = r.n then { x with void := true, given := true, waitAck := false } else x) ∧
      t.port[p].sending = s.port[p].sending ∧ t.out = s.out ∧ t.mem = s.mem)) ∧
  (∀ (s : State) (p : PortIx) (n : Nat) (rest : List Nat) (r : QRow), s.portLive p = true → s.laneFree p = true →
    s.port[p].link.idle = false → s.port[p].replayQ = n :: rest → s.port[p].row? n = some r → s.ackCome p r = false →
    ∃ t, exec (.rowReplay p false) s = .next t ∧
      t.port[p].sending = some (n, true) ∧ t.port[p].replays = satTo 65535 (s.port[p].replays + 1) ∧
      n ∉ t.port[p].replayQ ∧ t.port[p].link.queue = (rowFrame p r.sheet r.srow r.n (s.rowBytes p r)).drop 1 ∧
      SentLast p (.of false (0x87 :: (leBytes 4 r.sheet.toNat ++ leBytes 3 r.srow))) s t ∧ LanesOnly p s t ∧
      OtherPorts p s t ∧ { t with port := s.port, out := s.out, pmc := s.pmc } = s) ∧
  (∀ (s : State) (p : PortIx) (n : Nat) (again : Bool), s.port[p].sending = some (n, again) →
    ∃ t, exec (.rowFrameEnd p) s = .next t ∧
      { t.port[p] with link := s.port[p].link } = { s.port[p] with
        sending := none
        rows := s.port[p].rows.map fun r => if r.n = n then { r with waitAck := !r.acked && !r.given } else r } ∧
      t.port[p].link.queue = [] ∧ LanesOnly p s t ∧
      OtherPorts p s t ∧ { t with port := s.port, pmc := s.pmc, out := s.out } = s)

/-- R236 to R238, R266, R267: a RESP acknowledges its row or asks for its replay while the row's acknowledge deadline has not
come, and one for a row that never left is a port-level fault; a wait that runs out asks for a replay; a row late for
delivery ends void at its port, and one that is not acknowledged in time ends its replays. -/
def Obligations.AnswersAndDeadlinesSettleRows : Prop :=
  (∀ (s : State) (p : PortIx) (row : BitVec 40) (r : QRow), s.port[p].link.lstate = 6 →
    s.port[p].rows.find? (fun r => State.row40 r.n row && r.sent && !r.acked && !r.given) = some r →
    s.ackCome p r = false →
    (r.replays = 0 → ∃ t, exec (.respRx p row 0) s = .next t ∧
      t.port[p].rows = s.port[p].rows.map (fun x => if x.n = r.n then { x with acked := true, waitAck := false } else x) ∧
      r.n ∉ t.port[p].replayQ ∧ OtherPorts p s t ∧ { t with port := s.port } = s) ∧
    (∀ code : Byte, 1 ≤ code.toNat → code.toNat ≤ 5 → ∃ t, exec (.respRx p row code) s = .next t ∧
      r.n ∈ t.port[p].replayQ ∧
      t.port[p].link.nak = satTo 65535 (s.port[p].link.nak + 1) ∧ OtherPorts p s t ∧
      { t with port := s.port, pmc := s.pmc } = s)) ∧
  (∀ (s : State) (p : PortIx) (row : BitVec 40) (code : Byte), s.port[p].link.lstate = 6 → 5 < code.toNat →
    ∃ t, exec (.respRx p row code) s = .next t ∧ LinkOnly p { s.port[p].link with invalid := s.port[p].link.invalid + 1 } s t) ∧
  (∀ (s : State) (p : PortIx) (row : BitVec 40), s.port[p].link.lstate = 6 → s.port[p].rows = [] → s.port[p].old = [] →
    ∃ t, exec (.respRx p row 0) s = .next t ∧ PortStopped p 4 s t) ∧
  (∀ (s : State) (p : PortIx) (n : Nat) (r : QRow), s.portLive p = true → s.port[p].row? n = some r → r.waitAck = true →
    r.acked = false → r.given = false → s.ackCome p r = false → ∃ t, exec (.ackTimeout p n) s = .next t ∧
      n ∈ t.port[p].replayQ ∧ OtherPorts p s t ∧ { t with port := s.port } = s) ∧
  (∀ (s : State) (k : BarIx) (n row : Nat) (id : BitVec 32), s.up = true → s.barRuns k = true → s.latePorts k n ≠ [] →
    s.rowAt k n = some (id, row) → (s.sheet? id).isSome = true →
    (∀ p ∈ s.livePorts k, ∀ x ∈ s.port[p].rows, (s.sheet? x.sheet).isSome = true) →
    ∃ t, exec (.deliveryDeadline k n) s = .next t ∧
      (∀ p ∈ s.latePorts k n, (∀ x ∈ t.port[p].rows, x.n = n → x.void = true) ∧
        ((∃ x ∈ t.port[p].rows, x.n = n) ∨ ∃ x ∈ t.port[p].late, x.1 = n)) ∧
      (∀ p, barOf p ≠ k → t.port[p] = s.port[p]) ∧ t.mem = s.mem ∧ t.out = s.out) ∧
  (∀ (s : State) (p : PortIx) (n d : Nat) (r : QRow), s.up = true → s.portRuns p = true → s.testing p = false →
    s.port[p].row? n = some r → s.rowAckBy p r = some d → d ≤ s.now16 → r.acked = false → r.given = false → r.void = false →
    n < s.port[p].rel → (s.sheet? r.sheet).isSome = true → ∃ t, exec (.ackDeadline p n) s = .next t ∧
      (∀ x ∈ t.port[p].rows, x.n = n → x.given = true ∧ x.waitAck = false) ∧ n ∉ t.port[p].replayQ ∧
      OtherPorts p s t ∧ { t with port := s.port, job := s.job, hif := s.hif } = s)

/-! ## Strobes and the emergency stop -/

/-- R246, R247, R250: the next row's instant is committed, at the nearest point of the grid; its leading edge makes the FIRE pair
active, no sooner than MIN_RI after the edge before, and FIRE advances unless a class D stop comes of it; the trailing edge
ends it; and the watchdog's trip cuts the pair as class D. -/
def Obligations.StrobesCommitFireAndEnd : Prop :=
  (∀ (s : State) (p : PortIx) (r : QRow), s.portRuns p = true → s.inService p = true → s.tbRuns = true →
    s.port[p].dead = false → s.port[p].commit = none → p ∉ s.latePorts (barOf p) s.port[p].fire →
    s.port[p].row? s.port[p].fire = some r → ∃ t, exec (.fireCommit p) s = .next t ∧
      t.port[p] = { s.port[p] with commit := (s.commitTime p r).map fun x => (s.gridPoint x.1, x.2) } ∧
      OtherPorts p s t ∧ { t with port := s.port } = s) ∧
  (∀ (s : State) (p : PortIx) (r : QRow) (c : Nat) (i : Int), s.testing p = false → s.portRuns p = true →
    s.inService p = true → s.strobeFree p = true → s.port[p].commit = some (c, i) →
    s.port[p].row? s.port[p].fire = some r → s.placeEdge p c / 32 ≤ s.tick →
    ∃ t, exec (.strobeLeadingEdge p) s = .next t ∧ t.port[p].pair = true ∧ t.port[p].edge = some (s.placeEdge p c) ∧
      t.port[p].commit = none ∧ (t.integ.dstop = s.integ.dstop → t.port[p].fire = s.port[p].fire + 1) ∧
      (∀ e, s.port[p].edge = some e → e + 32 * s.minRi p ≤ s.placeEdge p c) ∧ t.mem = s.mem ∧ t.cfg = s.cfg) ∧
  (∀ (s : State) (p : PortIx), s.trailingDue p = true → ∃ t, exec (.strobeTrailingEdge p) s = .next t ∧
    t.port[p] = { s.port[p] with pair := false } ∧ OtherPorts p s t ∧ { t with port := s.port } = s) ∧
  (∀ (s : State) (p : PortIx), s.port[p].pair = true → ∃ t, exec (.strobeWatchdogTrip p) s = .next t ∧
    t.port[p].pair = false ∧ t.port[p].trip = true ∧ t.integ.dstop = true ∧ t.integ.engineOk = false ∧ t.mem = s.mem)

/-- R58, R251: ESTOP_n makes every FIRE pair inactive and sets ESTOP_LATCH, and with the engine running it is class D; its
release holds the latch for 10 ms more.
R147, R461, R465, R466: PRESS_RUN's change is recorded and reported; the end of a REJECT pulse lowers the pin and, with
an orderly stop waiting for nothing more, ENGINE_OK; a pin that reads back wrong is a class D stop. -/
def Obligations.PressPinsAndEmergencyStop : Prop :=
  ((∀ s : State, s.integ.estop = false → ∃ t, exec .estopAssert s = .next t ∧ (∀ p : PortIx, t.port[p].pair = false) ∧
      t.integ.estop = true ∧ t.integ.latch = true ∧
      (s.engRuns = true → t.integ.dstop = true ∧ t.integ.engineOk = false) ∧
      (s.engRuns = false → { t with port := s.port, integ := s.integ, setNow := s.setNow } = s) ∧ t.mem = s.mem) ∧
    (∀ s : State, s.integ.estop = true →
      exec .estopRelease s = .next { s with integ := { s.integ with estop := false, holdoff := true } }) ∧
    (∀ s : State, s.integ.estop = false →
      exec .estopHoldoffExpiry s = .next { s with integ := { s.integ with holdoff := false } })) ∧
  ((∀ (s : State) (b : Bool), s.up = true → b ≠ s.integ.pressRun → AsyncRoom s → ∃ t, exec (.pressRunChange b) s = .next t ∧
      t.integ = { s.integ with pressRun := b } ∧
      t.hif = { s.hif with async := s.hif.async ++ [s.asyncEvent .status 0x1009 .none (BitVec.ofNat 64 (b2n b)) 0 0x15] } ∧
      { t with integ := s.integ, hif := s.hif } = s) ∧
    (∀ s : State, s.integ.reject = true → s.integ.pulseEnds ≤ s.tick → ∃ t, exec .rejectPulseEnd s = .next t ∧
      t.integ = { s.integ with
        reject := false, pulseFell := some s.tick
        engineOk := s.integ.engineOk && !(s.integ.okHolds && s.job.anchors.all (·.decided))
        okHolds := s.integ.okHolds && !s.job.anchors.all (·.decided) } ∧ { t with integ := s.integ } = s) ∧
    (∀ (s : State) (p : CheckedPin), s.up = true → ∃ t, exec (.pinCheckFault p) s = .next t ∧
      t.integ = { s.integ with
        engineOk := false, okHolds := false, dstop := true
        dcode := if s.integ.dstop then s.integ.dcode else 0x1005 } ∧
      (s.integ.dstop = false → ∀ q : PortIx, t.port[q].dead = true ∧ t.port[q].commit = none) ∧
      (∀ sh ∈ t.job.sheets, sh.anchored = true → sh.cls = .d) ∧ t.mem = s.mem ∧ t.cfg = s.cfg ∧ t.mer = s.mer ∧ t.bar = s.bar) ∧
    (∀ (s : State) (k : BarIx), s.cal.holdoff[k] = true →
      (s.barRuns k = false ∨ s.cal.pendBar[k] = [] ∨ s.cal.stopQ[k] = true →
        exec (.nozzleStopHoldoffExpiry k) s =
          .next { s with cal := { s.cal with holdoff := s.cal.holdoff.set k.1 false k.2 } }) ∧
      (s.barRuns k = true → s.cal.pendBar[k] ≠ [] → s.cal.stopQ[k] = false →
        ∃ t, exec (.nozzleStopHoldoffExpiry k) s = .next t ∧
          t.cal = { s.cal with stopQ := s.cal.stopQ.set k.1 true k.2 } ∧ OtherRings 0 s t ∧
          t.hif.rings[0].fetched.length = s.hif.rings[0].fetched.length + 2 ∧
          { t.hif with rings := s.hif.rings } = s.hif ∧ { t with cal := s.cal, hif := s.hif } = s)))
/-! ## The link -/

/-- R257 to R263, R272: each training state goes on when its condition holds: T0 after 10 µs, with an ALIGN and a TRAIN on both
lanes, T1 at the sixteenth TRAIN block with lock, T2 and T3 when four like reports with deskew need no correction or are
answered by one, T4 at the echo, T5 at the eighth PONG; training fails at a timeout, a lane that cannot be corrected, or a
round trip beyond 2.55 µs; an echo with a reserved byte set is invalid. -/
def Obligations.LinkTrainsInSteps : Prop :=
  (∀ (s : State) (p : PortIx), s.port[p].link.training = true → s.port[p].link.lstate = 0 →
    ∃ t, exec (.trainT0Elapsed p) s = .next t ∧
      LinkSends p { s.port[p].link with lstate := 1, idle := false, trainCnt := 0 } s t ∧
      t.out.length = s.out.length + 4 ∧ SentLast p (trainBlock s.port[p].link.lanes.2 1) s t) ∧
  (∀ (s : State) (p : PortIx) (inv : Bool), s.port[p].link.training = true →
    s.port[p].link.lstate = 1 → s.port[p].link.lock = true → 15 ≤ s.port[p].link.trainCnt →
    ∃ t, exec (.trainRx p inv 1 0 0) s = .next t ∧ LinkSends p { s.port[p].link with
        lstate := 2, rxInv := inv, trainCnt := s.port[p].link.trainCnt + 1, report := none, alike := 0, sub1 := false } s t) ∧
  (∀ (s : State) (p : PortIx) (inv : Bool) (r : Word), r.toNat < 65536 → s.port[p].link.training = true →
    (s.port[p].link.lstate = 2 ∧ s.port[p].link.sub1 = true ∨ s.port[p].link.lstate = 3) →
    s.port[p].link.report = some r → 3 ≤ s.port[p].link.alike → State.reportDeskew r = true →
    let l := s.port[p].link
    let caps := { l.caps with corr := BitVec.ofNat 2 (b2n (State.reportPol r) + 2 * b2n (State.reportOrder r)) }
    let seen := { l with report := some r, alike := l.alike + 1, caps := caps }
    (s.invNeeded p r = [] → s.swapNeeded p r = false → ∃ t, exec (.trainRx p inv 2 0 r) s = .next t ∧
      LinkSends p { seen with lstate := 4, echoWait := true } s t ∧
      (l.idle = false → SentLast p (.of false (ctrlBlock 0x5A [BitVec.ofNat 8 p.1,
        BitVec.ofNat 8 (s.fld (aPrmPort p.1 0) 31 30)])) s t)) ∧
    ((s.invNeeded p r ≠ [] ∨ s.swapNeeded p r = true) → s.preinvEn p = true → s.lanesLost p r = false → l.lstate = 2 →
      ∃ t, exec (.trainRx p inv 2 0 r) s = .next t ∧ t.port[p].link.lstate = 3 ∧
        t.port[p].link.swapped = s.swapNeeded p r ∧
        t.port[p].link.lanes = (if s.swapNeeded p r then (l.lanes.2, l.lanes.1) else l.lanes) ∧
        (∀ i : Fin 3, t.port[p].link.preinv.getLsbD i.1 = (s.invNeeded p r).contains i.1) ∧
        OtherPorts p s t ∧ LanesOnly p s t ∧ { t with port := s.port, out := s.out } = s) ∧
    ((s.invNeeded p r ≠ [] ∨ s.swapNeeded p r = true) → (s.preinvEn p = false ∨ s.lanesLost p r = true) →
      s.testing p = false → ∃ t, exec (.trainRx p inv 2 0 r) s = .next t ∧
        LinkSends p { seen with lstate := 7, fault := 6, training := false, echoWait := false } s t)) ∧
  (∀ (s : State) (p : PortIx), s.port[p].link.echoWait = true →
    let echo (reserved : Word) : Instr :=
      .configEchoRx p ⟨BitVec.ofNat 8 p.1, BitVec.ofNat 8 (s.fld (aPrmPort p.1 0) 31 30)⟩ reserved
    (s.port[p].link.training = true → ∃ t, exec (echo 0) s = .next t ∧
      LinkSends p { s.port[p].link with echoWait := false, lstate := 5, pings := 0, pingMax := 0 } s t ∧
      (s.port[p].link.idle = false → SentLast p (.of false (ctrlBlock 0x66 [0, 0])) s t)) ∧
    (s.port[p].link.training = false → ∃ t, exec (echo 0) s = .next t ∧
      LinkOnly p { s.port[p].link with echoWait := false } s t) ∧
    (∀ x : Word, x ≠ 0 → ∃ t, exec (echo x) s = .next t ∧
      LinkOnly p { s.port[p].link with invalid := s.port[p].link.invalid + 1 } s t)) ∧
  (∀ (s : State) (p : PortIx) (trip : Nat), s.port[p].link.training = true → s.port[p].link.lstate = 5 →
    (s.port[p].link.pings < 7 → ∃ t, exec (.pongRx p (BitVec.ofNat 16 s.port[p].link.pings) trip) s = .next t ∧
      LinkSends p { s.port[p].link with pings := s.port[p].link.pings + 1, pingMax := max s.port[p].link.pingMax trip } s t ∧
      (s.port[p].link.idle = false →
        SentLast p (.of false (ctrlBlock 0x66 (leBytes 2 (s.port[p].link.pings + 1)))) s t)) ∧
    (s.port[p].link.pings = 7 → max s.port[p].link.pingMax trip ≤ 255 → ∃ t, exec (.pongRx p 7 trip) s = .next t ∧
      LinkOnly p { s.port[p].link with
        lstate := 6, training := false, pings := 8, pingMax := max s.port[p].link.pingMax trip
        trained := some (s.laneSrc p)
        caps := { s.port[p].link.caps with rtt := max s.port[p].link.pingMax trip } } s t) ∧
    (s.port[p].link.pings = 7 → 255 < max s.port[p].link.pingMax trip → s.testing p = false →
      ∃ t, exec (.pongRx p 7 trip) s = .next t ∧
        LinkSends p { s.port[p].link with lstate := 7, fault := 6, training := false, echoWait := false } s t)) ∧
  (∀ (s : State) (p : PortIx), s.port[p].link.training = true → 1 ≤ s.port[p].link.lstate → s.port[p].link.lstate ≤ 5 →
    s.testing p = false → ∃ t, exec (.trainTimeout p) s = .next t ∧
      LinkSends p { s.port[p].link with lstate := 7, fault := 6, training := false, echoWait := false } s t)

/-- R257, R271 to R274: a lost block lock is cause 1, a lost heartbeat 2, a LINK_FAULT 3 with the module's cause recorded, and a
missing echo or a heartbeat with state 3 a protocol violation, 4; a heartbeat or a LINK_FAULT outside its layout is invalid;
after 100 µs of PORT_FAULT the lanes idle. -/
def Obligations.LinkFaultsStopThePort : Prop :=
  (∀ (s : State) (p : PortIx), s.port[p].link.lstate = 6 →
    (∃ t, exec (.rxBlockLockLoss p) s = .next t ∧ PortStopped p 1 s t ∧ t.port[p].link.lock = false) ∧
    (∃ t, exec (.moduleHeartbeatLoss p) s = .next t ∧ PortStopped p 2 s t) ∧
    (∀ cause : Byte, 1 ≤ cause.toNat → cause.toNat ≤ 5 → ∃ t, exec (.linkFaultRx p cause) s = .next t ∧
      PortStopped p 3 s t ∧ t.port[p].link.modCause = cause.toNat) ∧
    (∀ (n q : BitVec 16) (f : Byte), s.portRuns p = true →
      ∃ t, exec (.moduleHeartbeatRx p 3 n q f) s = .next t ∧ PortStopped p 4 s t)) ∧
  (∀ (s : State) (p : PortIx), s.port[p].link.echoWait = true → s.port[p].link.training = false →
    ∃ t, exec (.configEchoTimeout p) s = .next t ∧ PortStopped p 4 s t) ∧
  (∀ (s : State) (p : PortIx) (m : Byte) (n q : BitVec 16) (f : Byte),
    (m.toNat < 3 → exec (.moduleHeartbeatRx p m n q f) s = .next s) ∧
    (3 < m.toNat → ∃ t, exec (.moduleHeartbeatRx p m n q f) s = .next t ∧
      LinkOnly p { s.port[p].link with invalid := s.port[p].link.invalid + 1 } s t) ∧
    (m = 0 ∨ 5 < m.toNat → ∃ t, exec (.linkFaultRx p m) s = .next t ∧
      LinkOnly p { s.port[p].link with invalid := s.port[p].link.invalid + 1 } s t)) ∧
  (∀ (s : State) (p : PortIx), s.port[p].link.lstate ≠ 6 → ∃ t, exec (.rxBlockLockLoss p) s = .next t ∧
    LinkOnly p { s.port[p].link with lock := false, trainCnt := 0 } s t) ∧
  (∀ (s : State) (p : PortIx), s.sys.held = [] → ∃ t, exec (.rxBlockLockAcquire p) s = .next t ∧
    LinkOnly p { s.port[p].link with lock := true } s t) ∧
  (∀ (s : State) (p : PortIx), s.port[p].link.bursting = true → ∃ t outs, exec (.portFaultBurstEnd p) s = .next t ∧
    t.out = s.out ++ outs ++ [.lanesIdle p] ∧ (∀ x ∈ outs, ∃ lane line, x = Output.laneBlock p lane line) ∧
    { t.port[p] with link := s.port[p].link } = s.port[p] ∧
    { t.port[p].link with
      coder := s.port[p].link.coder, sent := s.port[p].link.sent, since := s.port[p].link.since
      queue := s.port[p].link.queue } = { s.port[p].link with bursting := false, idle := true } ∧
    OtherPorts p s t ∧ { t with port := s.port, out := s.out } = s)

/-- R255 to R259, R264, R270, R271, R277: a block is scrambled by x^58 + x^39 + 1; a row frame is ROW_ID and its segments of 512
bytes, each closed by its CRC; heartbeats, ALIGN and REFRESH leave as their blocks; an invalid block is counted and nothing
else; a BIP8 mismatch is counted; adaptation freezes and resumes.
R275, R276, R278: a TEMP block is stored and a stale one invalidated with its STATUS event; every nozzle report
goes to firmware; an eye scan starts in T6 and ends with its error count. -/
def Obligations.LinkCarriesIdleTrafficAndReports : Prop :=
  ((∀ (h : BitVec 58) (x : BitVec 64) (i : Nat), i < 64 → (scramble h x).getLsbD i =
      (x.getLsbD i ^^ (if i < 39 then h.getLsbD (i + 19) else (scramble h x).getLsbD (i - 39))) ^^
        (if i < 58 then h.getLsbD i else (scramble h x).getLsbD (i - 58))) ∧
    (∀ (p : PortIx) (sheet : BitVec 32) (srow n w i : Nat) (data : List Byte), data.length = 2048 * w → i < 4 * w →
      let frame := (rowFrame p sheet srow n data).map (·.2)
      let part := slice data (512 * i) 512
      frame.length = 1 + 66 * (4 * w) ∧
      frame[0]? = some (.of false (0x87 :: (leBytes 4 sheet.toNat ++ leBytes 3 srow))) ∧
      frame[1 + 66 * i]? = some (.of false (0x99 :: (leBytes 1 i ++ leBytes 6 n))) ∧
      (∀ j, j < 64 → frame[1 + 66 * i + 1 + j]? = some (.of true (slice part (8 * j) 8))) ∧
      frame[1 + 66 * i + 65]? = some (.of false (0xAA :: (leBytes 4 (crc32c
        (leBytes 8 (sheet.toNat * 2 ^ 32 + srow % 2 ^ 24 * 256 + p.1 * 8 + 5)) (leBytes 1 i ++ leBytes 6 n ++ part)).toNat ++
        leBytes 1 i ++ [0, 0])))) ∧
    (∀ (s : State) (p : PortIx), s.port[p].link.lstate = 6 → s.beatAllowed p = true →
      ∃ t, exec (.heartbeatTx p) s = .next t ∧
        LinkSends p { s.port[p].link with hbSeq := (s.port[p].link.hbSeq + 1) % 65536 } s t ∧
        (s.port[p].link.idle = false → SentLast p (.of false (ctrlBlock 0x2D (leBytes 1 (b2n (s.portRuns p)) ++
          leBytes 2 s.port[p].fire ++ leBytes 2 s.port[p].link.hbSeq))) s t)) ∧
    (∀ (s : State) (p : PortIx) (b : BitVec 66), (rxValid b = true → exec (.invalidBlockRx ⟨p, b⟩) s = .next s) ∧
      (rxValid b = false → ∃ t, exec (.invalidBlockRx ⟨p, b⟩) s = .next t ∧
        LinkOnly p { s.port[p].link with invalid := s.port[p].link.invalid + 1, trainCnt := 0 } s t)) ∧
    (∀ (s : State) (p : PortIx) (b : Byte) (carried : List (BitVec 64)), ∃ t, exec (.alignRx p b carried) s = .next t ∧
      LinkOnly p { s.port[p].link with
        bip := if b = bipOf carried then s.port[p].link.bip else satTo 255 (s.port[p].link.bip + 1) } s t) ∧
    (∀ (s : State) (p : PortIx), s.port[p].link.idle = false → ∃ t, exec (.alignTx p) s = .next t ∧
      LinkSends p s.port[p].link s t ∧ t.port[p].link.sent = 0 ∧ t.port[p].link.since = s.tick ∧
      t.port[p].link.coder[s.port[p].link.lanes.1].bip = 0 ∧ t.port[p].link.coder[s.port[p].link.lanes.2].bip = 0) ∧
    (∀ (s : State) (p : PortIx), s.port[p].link.lstate = 6 → s.laneFree p = true → s.port[p].link.idle = false →
      ∃ t, exec (.refreshTx p) s = .next t ∧ LinkSends p s.port[p].link s { t with pmc := s.pmc } ∧
        t.port[p].link.queue = List.replicate 320 (true, ⟨true, 0⟩) ∧
        SentLast p (.of false (ctrlBlock 0xD2 [0x40, 0x01])) s t) ∧
    (∀ (s : State) (p : PortIx),
      (∃ t, exec (.refreshRx p) s = .next t ∧ LinkOnly p { s.port[p].link with frozen := false } s t) ∧
      (∃ t, exec (.adaptationResume p) s = .next t ∧ LinkOnly p { s.port[p].link with frozen := false } s t) ∧
      (∃ t, exec (.adaptationFreeze p) s = .next t ∧ LinkOnly p { s.port[p].link with frozen := true } s t))) ∧
  ((∀ (s : State) (p : PortIx) (i : Fin 15) (v : BitVec 16), s.port[p].link.lstate = 6 →
      ∃ t, exec (.tempRx p i v) s = .next t ∧
        t.port[p] = { s.port[p] with link := { s.port[p].link with temp := s.port[p].link.temp.set i.1 (true, v) i.2 } } ∧
        OtherPorts p s t ∧ { t with port := s.port, cal := s.cal, hif := s.hif } = s) ∧
    (∀ (s : State) (p : PortIx) (i : Fin 15), s.port[p].link.temp[i].1 = true → AsyncRoom s →
      ∃ t, exec (.tempStale p i) s = .next t ∧
        t.port[p] = { s.port[p] with link := { s.port[p].link with
          temp := s.port[p].link.temp.set i.1 (false, s.port[p].link.temp[i].2) i.2 } } ∧ OtherPorts p s t ∧
        t.hif = { s.hif with async := s.hif.async ++
          [s.asyncEvent .status 0x0703 .none (infoUnit (unitPort p)) (detail i.1) 0x0B] } ∧
        { t with port := s.port, hif := s.hif } = s) ∧
    (∀ (s : State) (p : PortIx) (r : BitVec 48), s.port[p].link.lstate = 6 →
      ((∀ x ∈ nozzleReports r, x = 65535 ∨ x < 16384) → ∃ t, exec (.nozzleRx p r) s = .next t ∧
        t.out = s.out ++ ((nozzleReports r).filter (· ≠ 65535)).map (fun x => .firmware (.nozzle p x 0)) ∧
        { t with out := s.out } = s) ∧
      ((∃ x ∈ nozzleReports r, x ≠ 65535 ∧ x / 16384 = 3) → ∃ t, exec (.nozzleRx p r) s = .next t ∧
        LinkOnly p { s.port[p].link with invalid := s.port[p].link.invalid + 1 } s t)) ∧
    (∀ (s : State) (p : PortIx) (n : Nat), n < 16384 → s.port[p].link.lstate = 6 → AsyncRoom s →
      ∃ t, exec (.nozzleRx p (BitVec.ofNat 48 (n + 16384 + 65536 * (2 ^ 32 - 1)))) s = .next t ∧
        t.out = s.out ++ [.firmware (.nozzle p n 1)] ∧
        t.hif = { s.hif with async := s.hif.async ++ [s.asyncEvent .status 0x0C04 .none
          (BitVec.ofNat 64 (p.1 % 4 * 16384 + n + 65536)) 0 0x10] } ∧ { t with hif := s.hif, out := s.out } = s) ∧
    (∀ (s : State) (p : PortIx) (v : Word), CfgForm s → s.hostUp = true → v.getLsbD 31 = true → s.port[p].link.lstate = 6 →
      s.port[p].link.scanning = false → ∃ t, exec (.eyeScanStart p v) s = .next t ∧
        t.port[p].link = { s.port[p].link with
          scanning := true
          scanCfg := (signed 8 (bits v.toNat 23 16), clampI (-32) 32 (signed 8 (bits v.toNat 15 8)),
            min 40 (max 20 (bits v.toNat 5 0))) } ∧
        t.rd (aAbr p.1 0x20) = v &&& 0x00FFFF3F ∧ OtherPorts p s t ∧
        { t with port := s.port, cfg := s.cfg, pmc := s.pmc } = s) ∧
    (∀ (s : State) (p : PortIx) (n : Nat), s.port[p].link.scanning = true → ∃ t, exec (.eyeScanDone p n) s = .next t ∧
      LinkOnly p { s.port[p].link with scanning := false, errors := sat32 n } s t))

/-! ## The press pins and Heliostat -/

/-- R145, R147, R286, R461, R464: an accepted edge anchors the next queued sheet, with its row coordinate, its decision point
and its parity; with PRESS_RUN low the physical sheet passes and is counted; without a queued sheet it is reported; in each case
nothing else falls due where no decision point has been reached and no slot is armed. The other input only captures. Units that
disagree on the anchor are a class D stop (R304). -/
def Obligations.SheetEdgesAnchorSheets : Prop :=
  (∀ (s : State) (i : Fin 2), s.up = true → i = s.edgeSrc → s.engRuns = true → s.tbRuns = true → s.web = false →
    (∀ a ∈ s.job.anchors, a.decided = true ∨ 256 * s.hwm0 < a.decide) →
    (∀ j : Fin 128, s.mer.pslot[j].state ≠ .armed) → (∀ j : Fin 256, s.timeDue j = false) →
    let pe := s.hls.enc[0].pos
    let y := s.edgeRow pe
    let par := decide (s.job.anchorCount % 2 = 1)
    s.edgeEarly y = none → 256 * s.hwm0 < s.decisionPoint pe y →
    ∃ t, exec (.sheetEdge ⟨i, false⟩) s = .next t ∧ t.job.anchorCount = s.job.anchorCount + 1 ∧ t.integ.parity = par ∧
      t.mer = (s.latchCapture ⟨i.1, by omega⟩).mer ∧
      t.hls = (if s.held 0 then s.hls else
        { s.hls with enc := s.hls.enc.set 0 { s.hls.enc[0] with hwm := s.hls.enc[0].pos } }) ∧
      { t with job := s.job, integ := s.integ, mer := s.mer, hif := s.hif, hls := s.hls } = s ∧
      (∀ sh : Sheet, s.integ.pressRun = true → s.integ.orderly = false → s.nextQueued = some sh → s.sheet? sh.id = some sh →
        t.job.anchors.getLast? = some ⟨some sh.id, pe, y, sh.rows, par, s.decisionPoint pe y, false⟩ ∧
        t.sheet? sh.id = some { sh with anchored := true } ∧ t.hif = s.hif) ∧
      (s.integ.pressRun = false →
        t.job.anchors.getLast? = some ⟨none, pe, y, 1, par, s.decisionPoint pe y, false⟩ ∧
        t.integ.prSkip = satTo 255 (s.integ.prSkip + 1) ∧ t.job.sheets = s.job.sheets ∧ t.hif = s.hif) ∧
      (s.integ.pressRun = true → (s.integ.orderly = true ∨ s.nextQueued = none) → AsyncRoom s →
        t.job.anchors.getLast? = some ⟨none, pe, y, 1, par, s.decisionPoint pe y, false⟩ ∧
        t.job.sheets = s.job.sheets ∧
        t.hif = { s.hif with async := s.hif.async ++ [s.asyncEvent .error 0x0207 .s (BitVec.ofInt 64 pe)
          (BitVec.ofNat 48 (b2n par)) 5] })) ∧
  (∀ (s : State) (i : Fin 2), s.up = true → i = s.edgeSrc → s.engRuns = true → s.tbRuns = true →
    ∃ t, exec (.sheetEdge ⟨i, true⟩) s = .next t ∧ t.integ.dstop = true ∧ t.integ.engineOk = false) ∧
  (∀ (s : State) (i : Fin 2), s.up = true → i ≠ s.edgeSrc →
    exec (.sheetEdgeCapture i) s = .next (s.latchCapture ⟨i.1, by omega⟩)) ∧
  (∀ (s : State) (i : Fin 4),
    let c : Capture := ⟨s.mer.time - Config.captureLatency i.1 * s.rdN (aMer 0x10), (s.mer.cap[i].count + 1) % 65536⟩
    s.latchCapture i = { s with mer := { s.mer with cap := s.mer.cap.set i.1 c i.2 } })

/-- R282 to R284, R286, R287, R304: an accepted transition of one input counts by one, up when A leads B and down when B leads,
or the other way with DIR set; both inputs together count nothing and are an encoder error; the high-water mark never falls
while a sheet holds it; a rising edge of Z is recorded; 10 ms without a count mark the encoder idle. Units that disagree on a
count are a class D stop. -/
def Obligations.EncodersCount : Prop :=
  (∀ (s : State) (m : EncIx) (a b w : Bool), s.encEn m = true → quadStep s.hls.enc[m].a s.hls.enc[m].b a b ≠ 0 →
    let d := if s.encDir m then -quadStep s.hls.enc[m].a s.hls.enc[m].b a b else quadStep s.hls.enc[m].a s.hls.enc[m].b a b
    ∃ t, exec (.encoderTransition m ⟨a, b⟩ w) s = .next t ∧ t.hls.enc[m].pos = s.hls.enc[m].pos + d ∧ (d = 1 ∨ d = -1) ∧
      t.hls.enc[m].hwm = (if s.held m then max s.hls.enc[m].hwm (s.travel m (s.hls.enc[m].pos + d))
        else s.travel m (s.hls.enc[m].pos + d)) ∧
      t.hls.enc[m].a = a ∧ t.hls.enc[m].b = b ∧ t.hls.enc[m].idle = false ∧ t.hls.enc[m].back = decide (d < 0) ∧
      (w = true → t.integ.dstop = true ∧ t.integ.engineOk = false) ∧
      (∀ n : EncIx, n ≠ m → t.hls.enc[n] = s.hls.enc[n]) ∧ t.hls.pass = s.hls.pass ∧ t.mem = s.mem ∧ t.spl = s.spl) ∧
  (∀ (s : State) (m : EncIx) (a b w : Bool), s.encEn m = true → a ≠ s.hls.enc[m].a → b ≠ s.hls.enc[m].b →
    ∃ t, exec (.encoderTransition m ⟨a, b⟩ w) s = .next t ∧
      t.hls = { s.hls with enc := s.hls.enc.set m.1 { s.hls.enc[m] with
        a := a, b := b, qerr := satTo 255 (s.hls.enc[m].qerr + 1) } m.2 } ∧
      (s.heldSheets m = [] → AsyncRoom s →
        t.hif = { s.hif with async := s.hif.async ++ [s.unitEvent 0x0801 .s (unitEnc m) 0 0x0C] } ∧ t.job = s.job) ∧
      t.mem = s.mem ∧ t.mer = s.mer) ∧
  (∀ (s : State) (m : EncIx) (a b w : Bool),
    (s.encEn m = false ∨ a = s.hls.enc[m].a ∧ b = s.hls.enc[m].b) → exec (.encoderTransition m ⟨a, b⟩ w) s =
      .next { s with hls := { s.hls with enc := s.hls.enc.set m.1 { s.hls.enc[m] with a := a, b := b } m.2 } }) ∧
  (∀ (s : State) (m : EncIx), exec (.encoderZEdge m) s =
    .next { s with hls := { s.hls with enc := s.hls.enc.set m.1 { s.hls.enc[m] with
      zpos := s.hls.enc[m].pos, ztime := s.mer.time, zcount := (s.hls.enc[m].zcount + 1) % 65536 } m.2 } }) ∧
  (∀ (s : State) (m : EncIx), exec (.encoderIdleTimeout m) s =
    .next { s with hls := { s.hls with enc := s.hls.enc.set m.1 { s.hls.enc[m] with idle := true } m.2 } })

/-- R292, R304: the end of a window in which a count raised H records it, and only the three newest records stay; with
none, nothing changes; disagreeing units are a class D stop; 16 windows without a record clear the history.
R301 to R303: with the pass over, the next pass's feed starts as a move of FEED_AXIS; at rest within FEED_WIN of the
target the feed is complete, and H of MENC1 follows the travel of the new pass. -/
def Obligations.RecordsAndFeeds : Prop :=
  ((∀ (s : State) (m : EncIx) (b : Bool), s.hls.enc[m].raised = none → exec (.estimatorRecord m b) s = .next s) ∧
    (∀ (s : State) (m : EncIx) (r : Nat × Int), s.hls.enc[m].raised = some r → ∃ t, exec (.estimatorRecord m false) s = .next t ∧
      t.hls.enc[m] = { s.hls.enc[m] with recs := (r :: s.hls.enc[m].recs).take 3, raised := none } ∧
      (∀ n : EncIx, n ≠ m → t.hls.enc[n] = s.hls.enc[n]) ∧ t.hls.pass = s.hls.pass ∧ t.mem = s.mem ∧ t.bar = s.bar) ∧
    (∀ (s : State) (m : EncIx) (r : Nat × Int), s.hls.enc[m].raised = some r → ∃ t, exec (.estimatorRecord m true) s = .next t ∧
      t.integ.dstop = true ∧ t.integ.engineOk = false ∧ t.mem = s.mem) ∧
    (∀ (s : State) (m : EncIx), ∃ t, exec (.estimatorHistoryClear m) s = .next t ∧
      t.hls.enc[m] = { s.hls.enc[m] with recs := [], raised := none } ∧
      (∀ n : EncIx, n ≠ m → t.hls.enc[n] = s.hls.enc[n]) ∧ { t with hls := s.hls, pmc := s.pmc } = s)) ∧
  ((∀ (s : State) (p : Pass), s.up = true → s.engRuns = true → s.tbRuns = true → s.scan = true → s.integ.dstop = false →
      s.nextPass = some p →
      let n := nearest (((p.target : Rat) / 256 - s.hls.enc[0].pos) * s.feedScale)
      s.commandRefusal s.feedAxis 2 n true = none → s.axis[s.feedAxis].motion = .rest → s.axis[s.feedAxis].vel = 0 →
      ∃ t, exec .feedStart s = .next t ∧ t.hls.pass = some p ∧ t.hls.enc[0] = s.hls.enc[0] ∧
        t.hls.enc[1].pos = s.hls.enc[1].pos ∧
        (s.axis[s.feedAxis].pos ≠ (s.axis[s.feedAxis].pos.floor + n : Int) →
          t.axis[s.feedAxis].motion = .move (s.axis[s.feedAxis].pos.floor + n)) ∧
        (∀ x : AxisIx, x ≠ s.feedAxis → t.axis[x] = s.axis[x]) ∧
        { t with hls := s.hls, axis := s.axis } = s) ∧
    (∀ (s : State) (p : Pass), s.hls.pass = some p → s.scan = true → s.feedArrived p = true →
      ∃ t, exec .feedComplete s = .next t ∧ t.hls.pass = some { p with feeding := false, done := true } ∧
        t.hls.enc[1] = { s.hls.enc[1] with
          hwm := s.passDir p.k * s.hls.enc[1].pos, recs := [], raised := none } ∧
        t.hls.enc[0] = s.hls.enc[0] ∧ { t with hls := s.hls, pmc := s.pmc } = s))

/-! ## Meridian -/

/-- R29, R309, R310, R313, R327: a time slot that is due runs once: the occurrence counts, its action takes effect
at the output or queues in order, and it falls due next at target + PERIOD until COUNT occurrences; a due slot of a lower index
runs before it; a repetition whose dispatch entry is still queued is dropped; one that is not due does nothing; disagreeing
copies are a class D stop. -/
def Obligations.TimeSlotsRunAtTheirTargets : Prop :=
  (∀ (s : State) (i : Fin 256), s.timeDue i = false → exec (.timeSlotDue i false) s = .next s) ∧
  (∀ (s : State) (i : Fin 256), s.timeDue i = true → (∀ j : Fin 256, j < i → s.timeDue j = false) →
    let q := s.mer.tslot[i]
    let a := s.slotAct (.time i)
    let count := s.fld (aTSlot i.1 0x14) 15 0
    let period := s.rdN (aTSlot i.1 0xC)
    let again := period ≠ 0 ∧ (count = 0 ∨ q.runs + 1 < count)
    (s.stillQueued (.time i) = false → ∃ t, exec (.timeSlotDue i false) s = .next t ∧
      t.mer.tslot[i].runs = q.runs + 1 ∧
      (again → t.mer.tslot[i].state = .armed ∧ t.mer.tslot[i].target = q.target + period) ∧
      (¬again → t.mer.tslot[i].state = .done) ∧
      (∀ o : Fin 40, o.1 = bits a 23 16 → s.merDrives o.1 = true →
        (bits a 31 24 = 1 ∨ bits a 31 24 = 3 → t.mer.level[o] = true) ∧ (bits a 31 24 = 2 → t.mer.level[o] = false) ∧
        (bits a 31 24 = 3 →
          t.mer.pulse[o] = (s.mer.time + bits a 15 0 * 10 * 16777216) :: s.mer.pulse[o])) ∧
      t.mer.dispatch = s.mer.dispatch ++
        (if 4 ≤ bits a 31 24 then [⟨.time i, bits a 31 24, bits a 23 16, bits a 15 0⟩] else []) ∧
      (s.fbit (aTSlot i.1 0x14) 23 = false → t.hif = s.hif) ∧
      (s.fbit (aTSlot i.1 0x14) 23 = true → AsyncRoom s → t.hif = { s.hif with async := s.hif.async ++
        [s.asyncEvent .status 0x090A .none (BitVec.ofNat 64 i.1) (BitVec.ofNat 48 ((q.runs + 1) % 65536)) 0x0D] }) ∧
      (∀ j : Fin 256, j ≠ i → t.mer.tslot[j] = s.mer.tslot[j]) ∧ t.mer.pslot = s.mer.pslot ∧ t.mer.time = s.mer.time ∧
      { t with mer := s.mer, hif := s.hif, pmc := s.pmc } = s) ∧
    (s.stillQueued (.time i) = true → AsyncRoom s → ∃ t, exec (.timeSlotDue i false) s = .next t ∧
      t.mer.tslot[i].runs = q.runs + 1 ∧ t.mer.tslot[i].overrun = true ∧
      t.mer.dispatch = s.mer.dispatch ∧ t.mer.level = s.mer.level ∧ t.setNow = (32 * aTSlot i.1 0x14 + 25) :: s.setNow ∧
      t.hif = { s.hif with async := s.hif.async ++ [s.unitEvent 0x0903 .c unitNone 0 0x0D] } ∧
      { t with mer := s.mer, hif := s.hif, setNow := s.setNow } = s)) ∧
  (∀ (s : State) (i j : Fin 256), i < j → s.timeDue i = true → s.timeDue j = true →
    (∀ n : Fin 256, n < j → n ≠ i → s.timeDue n = false) →
    4 ≤ bits (s.slotAct (.time i)) 31 24 → 4 ≤ bits (s.slotAct (.time j)) 31 24 →
    s.stillQueued (.time i) = false → s.stillQueued (.time j) = false → ∃ t, exec (.timeSlotDue j false) s = .next t ∧
      t.mer.tslot[i].runs = s.mer.tslot[i].runs + 1 ∧ t.mer.tslot[j].runs = s.mer.tslot[j].runs + 1 ∧
      t.mer.dispatch.map (·.slot) = s.mer.dispatch.map (·.slot) ++ [.time i, .time j]) ∧
  (∀ (s : State) (i : Fin 256), ∃ t, exec (.timeSlotDue i true) s = .next t ∧
    t.integ.dstop = true ∧ t.integ.engineOk = false ∧ t.mer = s.mer ∧ t.mem = s.mem)

/-- R29, R310, R313, R315: the earliest low edge of an output's pulses falls at its time, unless the output was set high again in
that tick; a predicted slot's time is committed 500 ns ahead and it runs then; the dispatch queue issues its oldest entry. -/
def Obligations.PulsesPredictionsAndDispatch : Prop :=
  (∀ (s : State) (o : Fin 40) (d : Nat), d ∈ s.mer.pulse[o] → (∀ e ∈ s.mer.pulse[o], d ≤ e) →
    (s.mer.time < d → exec (.outputPulseEnd o) s = .next s) ∧
    (d ≤ s.mer.time → ∃ t, exec (.outputPulseEnd o) s = .next t ∧
      t.mer = { s.mer with
        pulse := s.mer.pulse.set o.1 (s.mer.pulse[o].erase d) o.2
        level := if s.mer.highTick[o] ≠ s.tick + 1 ∧ s.merDrives o.1 = true then s.mer.level.set o.1 false o.2
          else s.mer.level } ∧ { t with mer := s.mer } = s)) ∧
  (∀ (s : State) (j : Fin 128) (d : Nat), s.mer.pslot[j].state = .armed → s.mer.pslot[j].due = some d →
    (s.now16 < d → exec (.predictedSlotDue j) s = .next s) ∧
    (d ≤ s.now16 → s.stillQueued (.pos j) = false → (∀ i : Fin 256, s.timeDue i = false) →
      (∀ k : Fin 128, k < j → s.predictedDue k = false) → ∃ t, exec (.predictedSlotDue j) s = .next t ∧
      t.mer.pslot[j] = { s.mer.pslot[j] with
        state := .done, due := none, runs := s.mer.pslot[j].runs + 1 } ∧
      (∀ k : Fin 128, k ≠ j → t.mer.pslot[k] = s.mer.pslot[k]) ∧ t.mer.tslot = s.mer.tslot ∧
      { t with mer := s.mer, hif := s.hif, pmc := s.pmc } = s)) ∧
  (∀ (s : State) (j : Fin 128) (d : Nat), s.mer.pslot[j].state = .armed → s.mer.pslot[j].due = none →
    s.slotPred j = true → s.posPredict j = some d → s.now16 < d →
    exec (.predictedSlotDue j) s = .next { s with mer := { s.mer with pslot := s.mer.pslot.set j.1 { s.mer.pslot[j] with
      ahead := true, due := if d ≤ s.now16 + 8000 then some d else none } j.2 } }) ∧
  (∀ (s : State) (d : Dispatched) (rest : List Dispatched), s.mer.dispatch = d :: rest →
    (d.act = 5 → AsyncRoom s → ∃ t, exec .dispatchIssue s = .next t ∧ t.mer = { s.mer with dispatch := rest } ∧
      t.hif = { s.hif with async := s.hif.async ++ [s.asyncEvent .status 0x0909 .none (BitVec.ofNat 64 d.arg)
        (BitVec.ofNat 48 (State.slotIndex d.slot)) 0x0D] } ∧ { t with mer := s.mer, hif := s.hif } = s) ∧
    (∀ x : AxisIx, d.act = 7 → d.unit = x.1 →
      (s.axis[x].queued = none → AsyncRoom s → ∃ t, exec .dispatchIssue s = .next t ∧
        t.mer = { s.mer with dispatch := rest } ∧
        t.hif = { s.hif with async := s.hif.async ++ [s.unitEvent 0x0A07 .c (unitAxis x) 0 0x0E] } ∧
        { t with mer := s.mer, hif := s.hif } = s) ∧
      (s.axis[x].queued ≠ none → exec .dispatchIssue s = .next { s with
        mer := { s.mer with dispatch := rest }, axis := s.axis.set x.1 { s.axis[x] with begins := true } x.2 })) ∧
    (d.act = 8 → exec .dispatchIssue s = .next { s with
      mer := { s.mer with dispatch := rest }, out := s.out ++ [.firmware (.slotSignal (BitVec.ofNat 16 d.arg))] }))

/-- R14, R309, R311 to R313: a host's ARM stores CTRL's fields and arms the slot at its target, and LATE and OVERRUN clear where
a 1 is written and hardware has not set them in that tick; an ARM that finds the target reached runs late, or is dropped with
LATE_DROP set; one that R311 refuses changes no register and is reported; a DISARM of a slot that is not due cancels it, as
R316 has a stop disarm it (DEDUCED, log entry 59), and one of a slot that is due in its tick lets it run, and it ends DONE. -/
def Obligations.SlotsAreArmedAndDisarmed : Prop :=
  (∀ (s : State) (i : Fin 256) (v : Word), CfgForm s → s.hostUp = true → v.getLsbD 31 = true →
    s.armRefused (.time i) v = false →
    let q := s.mer.tslot[i]
    let kept : Slot := { q with
      late := q.late && (!v.getLsbD 26 || s.heldW1c (aTSlot i.1 0x14) 26)
      overrun := q.overrun && (!v.getLsbD 25 || s.heldW1c (aTSlot i.1 0x14) 25) }
    let armed : Slot := { kept with state := .armed, runs := 0, target := s.timeTarget i, due := none, ahead := false }
    let dropped : Slot := { armed with state := .dropped, runs := 1, late := true }
    (s.mer.time < s.timeTarget i * 16777216 → ∃ t, exec (.slotArm (.time i) v) s = .next t ∧
      t.mer = { s.mer with tslot := s.mer.tslot.set i.1 armed i.2 } ∧
      t.rd (aTSlot i.1 0x14) = v &&& 0x0180FFFF ∧ { t with cfg := s.cfg, mer := s.mer, pmc := s.pmc } = s) ∧
    (s.timeTarget i * 16777216 ≤ s.mer.time → v.getLsbD 24 = true → s.rdN (aTSlot i.1 0xC) = 0 → AsyncRoom s →
      ∃ t, exec (.slotArm (.time i) v) s = .next t ∧
        t.mer = { s.mer with tslot := s.mer.tslot.set i.1 dropped i.2 } ∧
        t.hif = { s.hif with async := s.hif.async ++ [s.unitEvent 0x0902 .c unitNone 0 0x0D] } ∧
        t.setNow = (32 * aTSlot i.1 0x14 + 26) :: s.setNow ∧
        { t with cfg := s.cfg, mer := s.mer, hif := s.hif, pmc := s.pmc, setNow := s.setNow } = s)) ∧
  (∀ (s : State) (j : Fin 128) (v : Word), CfgForm s → s.hostUp = true → v.getLsbD 31 = true →
    s.armRefused (.pos j) v = false → s.posReached j = false → s.slotPred j = false →
    let q := s.mer.pslot[j]
    let armed : Slot := { q with
      late := q.late && (!v.getLsbD 26 || s.heldW1c (aPSlot j.1 0x14) 26)
      overrun := q.overrun && (!v.getLsbD 25 || s.heldW1c (aPSlot j.1 0x14) 25)
      state := .armed, runs := 0, due := none, ahead := false }
    ∃ t, exec (.slotArm (.pos j) v) s = .next t ∧ t.mer = { s.mer with pslot := s.mer.pslot.set j.1 armed j.2 } ∧
      { t with cfg := s.cfg, mer := s.mer, pmc := s.pmc } = s) ∧
  (∀ (s : State) (r : SlotRef) (v : Word), s.hostUp = true → v.getLsbD 31 = true →
    (State.slotOwned r = true ∨ v.getLsbD 30 = true ∨ (s.slot r).state = .armed ∨ s.slotTargetOk r = false ∨
      s.actionOk (s.slotAct r) = false) → AsyncRoom s →
    ∃ t, exec (.slotArm r v) s = .next t ∧ t.hif.refused = s.hif.refused + 1 ∧
      t.hif.async = s.hif.async ++ [s.asyncEvent .configRefused 0x1001 .c (BitVec.ofNat 64 (State.slotCtrl r))
        (detail v.toNat) (State.slotCtrl r / 0x100000)] ∧ { t with hif := s.hif, pmc := s.pmc } = s) ∧
  (∀ (s : State) (i : Fin 256) (v : Word), s.hostUp = true → v.getLsbD 31 = false → v.getLsbD 30 = true →
    s.mer.tslot[i].state = .armed →
    (s.timeDue i = false → ∃ t, exec (.slotDisarm (.time i) v) s = .next t ∧
      t.mer.tslot[i].state = .cancelled ∧ (∀ j : Fin 256, j ≠ i → t.mer.tslot[j] = s.mer.tslot[j]) ∧
      { t with cfg := s.cfg, mer := s.mer, pmc := s.pmc } = s) ∧
    (s.timeDue i = true → (∀ j : Fin 256, j < i → s.timeDue j = false) → s.stillQueued (.time i) = false →
      ∃ t, exec (.slotDisarm (.time i) v) s = .next t ∧
      t.mer.tslot[i].state = .done ∧ t.mer.tslot[i].runs = s.mer.tslot[i].runs + 1 ∧
      (∀ j : Fin 256, j ≠ i → t.mer.tslot[j] = s.mer.tslot[j]) ∧
      { t with cfg := s.cfg, mer := s.mer, hif := s.hif, pmc := s.pmc } = s))

/-- R305 to R308, R317 to R319, R324, R322: INC takes a value in its range and refuses any other; a GPIO capture latches the time;
PTP stamps reach firmware, and a one-step frame leaves with its time in it and a frame check sequence of its own; RESUME ends
holdover, loss and a master change begin what the policy in force says. -/
def Obligations.IncrementCapturesAndPtp : Prop :=
  (∀ (s : State) (v : Word), CfgForm s → s.hostUp = true →
    (0x027F5C29 ≤ v.toNat → v.toNat ≤ 0x0280A3D7 → ∃ t, exec (.merIncWrite v) s = .next t ∧ t.rd (aMer 0x10) = v ∧
      { t with cfg := s.cfg, pmc := s.pmc } = s) ∧
    ((v.toNat < 0x027F5C29 ∨ 0x0280A3D7 < v.toNat) → AsyncRoom s → ∃ t, exec (.merIncWrite v) s = .next t ∧
      t.hif.async = s.hif.async ++
        [s.asyncEvent .configRefused 0x1001 .c (BitVec.ofNat 64 (aMer 0x10)) (detail v.toNat) 0x0D] ∧
      { t with hif := s.hif, pmc := s.pmc } = s)) ∧
  (∀ (s : State) (b rising : Bool), s.clear = true → ∃ t, exec (.gpioCaptureEdge b rising) s = .next t ∧
    let pin := if b then bits (s.rdN (aMer 0x60)) 12 8 else bits (s.rdN (aMer 0x60)) 4 0
    let edge := if b then bits (s.rdN (aMer 0x60)) 14 13 else bits (s.rdN (aMer 0x60)) 6 5
    let k : Fin 4 := if b then 3 else 2
    t.gpioIn.getLsbD pin = rising ∧ (∀ n < 32, n ≠ pin → t.gpioIn.getLsbD n = s.gpioIn.getLsbD n) ∧
    t.mer = (if edge = 2 ∨ edge = 0 ∧ rising = true ∨ edge = 1 ∧ rising = false then (s.latchCapture k).mer else s.mer) ∧
    { t with gpioIn := s.gpioIn, mer := s.mer } = s) ∧
  (∀ (s : State) (p : EthIx) (lat len : Nat), 64 ≤ len → len ≤ 9216 → s.up = true → s.eth.port[p].link = true →
    (p = s.ptpPort → s.ptpOn = true → ∃ t, exec (.ptpEventRx p lat len) s = .next t ∧
      t.out = s.out ++ [.firmware (.ptpStamp p true (s.mer.time - lat * 16777216))] ∧
      { t with out := s.out, pmc := s.pmc } = s) ∧
    (p ≠ s.ptpPort → ∃ t, exec (.ptpEventRx p lat len) s = .next t ∧
      t.eth.port[p] = { s.eth.port[p] with fwDrop := s.eth.port[p].fwDrop + 1 } ∧
      (∀ q : EthIx, q ≠ p → t.eth.port[q] = s.eth.port[q]) ∧ { t with eth := { s.eth with port := s.eth.port } } = s)) ∧
  (∀ (s : State) (p : EthIx) (lat request : Nat) (frame : List Byte), s.up = true → s.eth.port[p].link = true →
    p = s.ptpPort → s.ptpOn = true →
    let at_ := s.mer.time + lat * 16777216
    let m := s.ptpStart p
    ∃ sent, exec (.ptpEventTx p ⟨lat, request, frame⟩) s = .next { s with
      out := s.out ++ [.frame p (sent ++ leBytes 4 (crc32 sent).toNat), .firmware (.ptpStamp p false at_)] } ∧
      (s.fbit (aMer 0x40) 26 = true → sent = frame) ∧
      (s.fbit (aMer 0x40) 26 = false → leAt frame m 1 % 16 ≤ 2 → m + 44 ≤ frame.length → sent.length = frame.length ∧
        slice sent (m + 34) 10 = ptpTimestamp at_ ∧
        ∀ n, (n < m + 34 ∨ m + 44 ≤ n) → sent[n]? = frame[n]?)) ∧
  (∀ (s : State) (v : Word), s.hostUp = true → v.getLsbD 0 = true → s.mer.holdover = true →
    ∃ t, exec (.ptpResume v) s = .next t ∧ t.mer = { s.mer with
      holdover := false, mustFit := true, holdSince := if s.mer.annLost then s.mer.holdSince else none } ∧
      { t with mer := s.mer, pmc := s.pmc } = s) ∧
  (∀ s : State, s.up = true → s.ptpOn = true → s.ptpHold = false → exec .announceLoss s = .next { s with mer := { s.mer with
    annLost := true, ptpLock := false, good := 0, holdSince := some (s.mer.holdSince.getD s.mer.time) } }) ∧
  (∀ s : State, s.up = true → s.ptpOn = true → exec .announceRx s = .next { s with mer := { s.mer with
    annLost := false, holdSince := if s.mer.diverged ∨ s.mer.holdover then s.mer.holdSince else none } }) ∧
  (∀ s : State, s.up = true → s.ptpOn = true → s.ptpHold = true → s.mer.holdover = false → AsyncRoom s →
    ∃ t, exec .ptpMasterChange s = .next t ∧ t.mer = { s.mer with
      holdover := true, mustFit := false, ptpLock := false, good := 0, holdSince := some s.mer.time } ∧
      t.hif = { s.hif with async := s.hif.async ++ [s.unitEvent 0x0906 .c unitNone 0 0x0D] } ∧
      { t with mer := s.mer, hif := s.hif } = s)

/-- R319, R321, R322: every sample, less the delay asymmetry, enters MER_PTP_OFFSET, saturated, and brings POLICY into force; one
within JUMP_LIMIT is accepted, clears DISCARDS and DIVERGED and keeps INC in its range and within 50 ppm of the servo's
estimate, and the sixteenth below 100 ns locks; one beyond it is discarded under GUARD, the eighth in a row is divergence, and
under HOLDOVER holdover begins. -/
def Obligations.OffsetSamplesAreJudged : Prop :=
  ∀ (s : State) (offset : Int), s.up = true → s.ptpOn = true → s.mer.holdover = false →
  let o := offset - s.ptpAsym
  (o.natAbs ≤ s.jumpLimit → CfgForm s → ∃ t, exec (.ptpOffsetSample offset) s = .next t ∧
    t.mer.offset = some o ∧ t.mer.policy = s.ptpPolicy ∧ t.mer.discards = 0 ∧ t.mer.diverged = false ∧
    t.mer.mustFit = false ∧
    (o.natAbs < 100 → 15 ≤ s.mer.good → s.mer.annLost = false → t.mer.ptpLock = true ∧ t.mer.trace = true) ∧
    (s.mer.annLost = false → 0x027F5C29 ≤ t.rdN (aMer 0x10) ∧ t.rdN (aMer 0x10) ≤ 0x0280A3D7 ∧
      (0x027F5C29 ≤ t.mer.estimate → t.mer.estimate ≤ 0x0280A3D7 →
        t.mer.estimate - t.mer.estimate / 20000 ≤ t.rdN (aMer 0x10) ∧
        t.rdN (aMer 0x10) ≤ t.mer.estimate + t.mer.estimate / 20000)) ∧
    (s.mer.annLost = true → t.cfg = s.cfg ∧ t.mer.estimate = s.mer.estimate) ∧ t.mer.time = s.mer.time ∧
    { t with mer := s.mer, cfg := s.cfg, pmc := s.pmc } = s) ∧
  (s.jumpLimit < o.natAbs → s.ptpPolicy = false → s.mer.mustFit = false → ∃ t, exec (.ptpOffsetSample offset) s = .next t ∧
    t.mer.offset = some (clampI (-2147483648) 2147483647 o) ∧ t.mer.discards = min 8 (s.mer.discards + 1) ∧
    t.mer.good = 0 ∧ t.mer.policy = false ∧ t.cfg = s.cfg ∧
    (s.mer.discards < 7 → t.mer.diverged = s.mer.diverged ∧ t.hif = s.hif) ∧
    (7 ≤ s.mer.discards → s.mer.diverged = false → AsyncRoom s → t.mer.diverged = true ∧ t.mer.ptpLock = false ∧
      t.hif = { s.hif with async := s.hif.async ++ [s.unitEvent 0x0905 .c unitNone 0 0x0D] }) ∧
    { t with mer := s.mer, hif := s.hif, pmc := s.pmc } = s) ∧
  (s.jumpLimit < o.natAbs → (s.ptpPolicy = true ∨ s.mer.mustFit = true) → AsyncRoom s →
    ∃ t, exec (.ptpOffsetSample offset) s = .next t ∧ t.mer = { s.mer with
      offset := some (clampI (-2147483648) 2147483647 o), policy := s.ptpPolicy, holdover := true, mustFit := false
      ptpLock := false, good := 0, holdSince := some s.mer.time } ∧
      t.hif = { s.hif with async := s.hif.async ++ [s.unitEvent 0x0906 .c unitNone 0 0x0D] } ∧
      { t with mer := s.mer, hif := s.hif } = s)

/-! ## Motion axes -/

/-- R331, R336, R341, R342: an accepted command sets its axis going as it says, and touches no other axis.
R332, R340: a command that R332 refuses posts its code and changes nothing else: a stopped axis E_AXIS_STOPPED, a
faulted one E_AXIS_FAULTED unless the command is CLEAR, and so on in the order of the rule; a queued move waits and a second
one replaces it. R330: a command written while another is crossing is refused as a register write. -/
def Obligations.AxisCommandsTakeEffectOrAreRefused : Prop :=
  (∀ (s : State) (x : AxisIx), s.hostUp = true → s.axis[x].cmd = none →
    let a := s.axis[x]
    let g := s.axTgt x
    let only (b : Axis) : State := { s.hostIn 4 with axis := s.axis.set x.1 b x.2 }
    let idle : Axis := { a with kept := none, remain := 0, stopReq := false, hstep := 0, hwaitZ := false, hset := false }
    let lo := signed 32 (s.rdN (aMot x.1 0x58))
    (s.commandRefusal x 1 g false = none → (a.vel ≠ 0 ∨ a.pos ≠ g) →
      exec (.moveAbs x) s = .next (only { idle with motion := .move g })) ∧
    (s.commandRefusal x 2 g false = none →
      (∀ t, a.motion = .move t → (a.vel ≠ 0 ∨ a.pos ≠ (t + g : Int)) →
        exec (.moveRel x) s = .next (only { idle with motion := .move (t + g) })) ∧
      (a.motion = .rest → (a.vel ≠ 0 ∨ a.pos ≠ (a.pos.floor + g : Int)) →
        exec (.moveRel x) s = .next (only { idle with motion := .move (a.pos.floor + g) }))) ∧
    (s.commandRefusal x 3 lo false = none →
      exec (.jog x) s = .next (only { idle with motion := .jog lo })) ∧
    (s.commandRefusal x 4 g false = none →
      exec (.gear x) s = .next (only { idle with motion := .gear s.hls.enc[s.axMaster x].pos a.pos.floor })) ∧
    (s.commandRefusal x 5 g false = none →
      (a.motion = .rest → exec (.stop x) s = .next (only { a with kept := none, remain := 0 })) ∧
      (∀ t, a.motion = .move t → a.vel ≠ 0 → exec (.stop x) s = .next (only { a with
        motion := .brake (s.axDmax x), kept := some t, remain := t - a.pos.floor
        hstep := 0, hwaitZ := false, hset := false, stopReq := true })) ∧
      (∀ v, a.motion = .jog v → a.vel ≠ 0 → exec (.stop x) s = .next (only { a with
        motion := .brake (s.axDmax x), kept := none, remain := 0
        hstep := 0, hwaitZ := false, hset := false, stopReq := true }))) ∧
    (∀ t, s.commandRefusal x 6 g false = none → a.kept = some t → (a.vel ≠ 0 ∨ a.pos ≠ t) →
      exec (.resume x) s = .next (only { a with
        motion := .move t, stopReq := false, hstep := 0, hwaitZ := false, hset := false })) ∧
    (s.commandRefusal x 7 g false = none →
      (s.homeMethod x ≠ 3 → exec (.home x) s = .next (only { idle with
        motion := .homing, hstep := if a.sw[s.homeRef x] then 3 else if a.sw[s.homeAhead x] then 2 else 1, homed := false })) ∧
      (s.homeMethod x = 3 → ∃ t, exec (.home x) s = .next t ∧ t.axis[x].pos = (s.axHomeOfs x : Int) ∧
        t.axis[x].homed = true ∧ t.axis[x].motion = .rest ∧ t.axis[x].vel = 0 ∧
        (∀ y : AxisIx, y ≠ x → t.axis[y] = s.axis[y]) ∧ { t with axis := s.axis, pmc := s.pmc } = s)) ∧
    (s.commandRefusal x 8 g false = none → exec (.setPos x) s = .next (only { a with
      pos := (g : Int), encpos := nearest (g * s.axEncRatio x), homed := false })) ∧
    (∀ t, s.commandRefusal x 9 g false = none → a.motion = .move t → exec (.quickStop x) s = .next (only { a with
      vel := 0, acc := 0, motion := .rest, kept := some t, remain := t - a.pos.floor
      hstep := 0, hwaitZ := false, hset := false, stopReq := false })) ∧
    (s.commandRefusal x 10 g false = none → s.fbit (aMot x.1 0) 27 = false →
      exec (.clear x) s = .next (only { a with fault := 0, enOff := false }))) ∧
  (∀ (s : State) (x : AxisIx), s.hostUp = true →
    (∀ (c : Instr) (op : Nat), (c, op) ∈ [(Instr.moveAbs x, 1), (.moveRel x, 2), (.jog x, 3), (.gear x, 4), (.stop x, 5),
        (.resume x, 6), (.home x, 7), (.setPos x, 8), (.quickStop x, 9), (.clear x, 10)] → AsyncRoom s →
      (∀ code, s.axis[x].cmd = none → s.commandRefusal x op (s.axArg x op) false = some code →
        exec c s = .next { s.hostIn 4 with hif := { s.hif with
          async := s.hif.async ++ [s.unitEvent code .c (unitAxis x) 0 0x0E] } }) ∧
      (s.axis[x].cmd ≠ none → exec c s = .next { s.hostIn 4 with hif := { s.hif with
        refused := s.hif.refused + 1
        async := s.hif.async ++ [s.asyncEvent .configRefused 0x1001 .c (BitVec.ofNat 64 (aMot x.1 0x60))
          (detail (op * 2 ^ 28)) (aMot x.1 0x60 / 0x100000)] } })) ∧
    (∀ (op : Nat) (arg : Int),
      (s.axisRuns x = false ∨ s.fns.axis[x].busy = true → s.commandRefusal x op arg false = some 0x0A02) ∧
      (s.axisRuns x = true → s.fns.axis[x].busy = false → s.axis[x].fault ≠ 0 → op ≠ 10 →
        s.commandRefusal x op arg false = some 0x0A03)) ∧
    (∀ v : Word, s.axis[x].cmd = none → 1 ≤ bits v.toNat 31 28 → bits v.toNat 31 28 ≤ 10 → exec (.queueMove x v) s =
      .next { s.hostIn 4 with axis := s.axis.set x.1 { s.axis[x] with
        queued := some (bits v.toNat 31 28, s.axArg x (bits v.toNat 31 28))
        replaced := s.axis[x].replaced + b2n s.axis[x].queued.isSome } x.2 }))

/-- R333, R338 to R340, R342, R343: a move ends on its target once its last step is out; an axis encoder counts four a cycle,
reports an error and latches its Z; a stall and a limit in the direction of motion set FAULT with its event and stop the steps;
a switch level counts once it has been held for FILT, and homing latches POS as it was when the level began. -/
def Obligations.AxesArriveCountAndFault : Prop :=
  (∀ (s : State) (x : AxisIx) (t : Int), s.axis[x].motion = .move t →
    (s.axis[x].vel = 0 → s.axis[x].pos = t →
      (s.axis[x].rise = 0 ∨ s.axis[x].rise - 1 + 4 * s.fld (aMot x.1 0) 13 7 ≤ s.tick) → exec (.axisAtRest x) s =
      .next { s with axis := s.axis.set x.1 { s.axis[x] with
        acc := 0, motion := .rest, kept := none, remain := 0, stopReq := false } x.2 }) ∧
    ((s.axis[x].vel ≠ 0 ∨ s.axis[x].pos ≠ t) → exec (.axisAtRest x) s = .next s)) ∧
  (∀ (s : State) (x : AxisIx) (a b : Bool), s.up = true →
    ((a = s.axis[x].a ∨ b = s.axis[x].b) → exec (.axisEncoderTransition x a b) s =
      .next { s with axis := s.axis.set x.1 { s.axis[x] with
        a := a, b := b, encpos := s.axis[x].encpos + quadStep s.axis[x].a s.axis[x].b a b } x.2 }) ∧
    (a ≠ s.axis[x].a → b ≠ s.axis[x].b → AsyncRoom s → exec (.axisEncoderTransition x a b) s =
      .next { s with
        axis := s.axis.set x.1 { s.axis[x] with a := a, b := b, qerr := s.axis[x].qerr + 1 } x.2
        hif := { s.hif with async := s.hif.async ++ [s.unitEvent 0x0801 .c (unitAxis x) 0 0x0E] } })) ∧
  (∀ a b a' b', quadStep a b a' b' = -quadStep a' b' a b) ∧
  quadStep false false true false = 1 ∧ quadStep true false true true = 1 ∧ quadStep true true false true = 1 ∧
    quadStep false true false false = 1 ∧
  (∀ (s : State) (x : AxisIx), s.up = true → s.axis[x].hwaitZ = false → exec (.axisEncoderZEdge x) s =
    .next { s with axis := s.axis.set x.1 { s.axis[x] with encz := s.axis[x].encpos } x.2 }) ∧
  (∀ (s : State) (x : AxisIx), s.axisRuns x = true → s.stalled x = true → s.axis[x].fault = 0 → AsyncRoom s →
    ∃ t, exec (.stallDetect x) s = .next t ∧ t.axis[x].fault = 1 ∧ t.axis[x].vel = 0 ∧ t.axis[x].motion = .rest ∧
      t.axis[x].pos = s.axis[x].pos ∧ (∀ y : AxisIx, y ≠ x → t.axis[y] = s.axis[y]) ∧
      t.hif = { s.hif with async := s.hif.async ++ [s.unitEvent 0x0A08 .c (unitAxis x) 0 0x0E] } ∧
      { t with axis := s.axis, hif := s.hif } = s) ∧
  (∀ (s : State) (x : AxisIx) (w : Fin 3) (l : Bool) (n : Nat), s.up = true →
    let on := decide (l = s.fbit (aMot x.1 0) (26 - w.1))
    (n < 400 * s.fld (aMot x.1 0) 23 14 → exec (.switchChange x w l n) s = .next s) ∧
    (400 * s.fld (aMot x.1 0) 23 14 ≤ n → s.axisRuns x = false → exec (.switchChange x w l n) s =
      .next { s with axis := s.axis.set x.1 { s.axis[x] with sw := s.axis[x].sw.set w.1 on w.2 } x.2 }) ∧
    (∀ v : Int, 400 * s.fld (aMot x.1 0) 23 14 ≤ n → s.axisRuns x = true → s.axis[x].fault = 0 → s.axis[x].hstep = 0 →
      w = 0 → on = true → s.axis[x].sw[0] = false → s.axis[x].sw[1] = false → s.axis[x].motion = .jog v →
      0 < s.axis[x].vel → s.axEdec x ≠ 0 → AsyncRoom s →
      ∃ t, exec (.switchChange x w l n) s = .next t ∧ t.axis[x].fault = 2 ∧
        t.axis[x].motion = .brake (s.axEdec x) ∧ t.axis[x].pos = s.axis[x].pos ∧ t.axis[x].sw[0] = true ∧
        t.hif = { s.hif with async := s.hif.async ++ [s.unitEvent 0x0A05 .c (unitAxis x) 0 0x0E] } ∧
        (∀ y : AxisIx, y ≠ x → t.axis[y] = s.axis[y]) ∧ { t with axis := s.axis, hif := s.hif } = s) ∧
    (400 * s.fld (aMot x.1 0) 23 14 ≤ n → s.axisRuns x = true → s.homeMethod x = 0 → w = 2 → on = true →
      s.axis[x].sw[0] = false → s.axis[x].sw[2] = false → s.axis[x].motion = .homing → s.axis[x].hstep = 4 →
      s.axis[x].hwaitZ = false → s.homeZ x = false →
      ∃ t, exec (.switchChange x w l n) s = .next t ∧ t.axis[x].hlatch = State.posAt s.axis[x] (s.tick - n) ∧
        t.axis[x].hset = true ∧ t.axis[x].sw[2] = true ∧
        (∀ y : AxisIx, y ≠ x → t.axis[y] = s.axis[y]) ∧ { t with axis := s.axis } = s))

/-! ## Eyepiece -/

/-- R345, R350, R358, R360, R361: an accepted FS with no frame open opens frame FRAME under the set that is active then, a
captured set becoming active at its frame and a commit capturing the shadow; a packet of another virtual channel is counted and
discarded, and one whose header fails marks the open frame too.
R345, R349 to R351, R360, R361: a line of the accepted type joins the open frame, widened, a corrupt one as raw 0 with
PKT_ERR and VOID, and one that CAM0's line buffer loses with OVFL and VOID; lines beyond LINES only set LONG; a line or FE with
no frame is an orphan; other packets are counted, but for embedded data and the short packets that are passed over; FE ends
the frame, whole or filled up with TRUNC and VOID. -/
def Obligations.FramesOpenFillAndEnd : Prop :=
  (∀ (s : State) (c : CamIx) (h : CsiHeader), s.camRuns c = true →
    let q := s.eye.cam[c]
    (∀ (i : Instr) (px : List (BitVec 16)) (ok lost : Bool),
      i ∈ [Instr.csiFrameStart c h, .csiLine c h px ⟨ok, lost⟩, .csiFrameEnd c h] →
      (h.bad = true → exec i s = .next { s with eye := { s.eye with cam := s.eye.cam.set c.1 { q with
        pkt := satTo 255 (q.pkt + 1)
        fs := q.fs.map fun f => { f with flags := f.flags ||| (flPktErr ||| flVoid) } } c.2 } }) ∧
      (h.bad = false → h.vc.toNat ≠ s.fld (aCam c.1 0) 29 28 → exec i s = .next { s with eye := { s.eye with
        cam := s.eye.cam.set c.1 { q with pkt := satTo 255 (q.pkt + 1 + b2n h.corrected) } c.2 } })) ∧
    (h.bad = false → h.corrected = false → h.vc.toNat = s.fld (aCam c.1 0) 29 28 → q.fs = none → q.frames < 4294967296 →
      (q.fresh = false ∨ State.stagedOpen q = false) → ∃ t f, exec (.csiFrameStart c h) s = .next t ∧
        t.eye.cam[c].fs = some f ∧ f.no = q.frames ∧ f.lines = [] ∧ f.got = 0 ∧ f.fsTime = s.mer.time ∧
        f.trig = s.mer.trigRise[c] ∧ f.h0 = s.high 0 ∧ f.h1 = s.high 1 ∧
        f.flags = (if s.rawFull c then flDropped ||| flVoid else 0) ∧ f.set = t.eye.cam[c].active ∧
        t.eye.cam[c].frames = (q.frames + 1) % 4294967296 ∧ t.eye.cam[c].noFs = false ∧ t.eye.cam[c].fresh = false ∧
        (q.fresh = true → q.commitReq = false → q.captured = none → t.eye.cam[c].active = s.shadow c) ∧
        (∀ x n, q.captured = some (x, n) → q.commitReq = false → q.fresh = false →
          (n = q.frames → t.eye.cam[c].active = x ∧ t.eye.cam[c].captured = none) ∧
          (n ≠ q.frames → t.eye.cam[c].active = q.active ∧ t.eye.cam[c].captured = some (x, n))) ∧
        (q.commitReq = true → t.eye.cam[c].commitReq = false ∧
          let lat := bits (setReg c (s.shadow c) 0x10) 26 24
          (lat = 0 → t.eye.cam[c].active = s.shadow c ∧ t.eye.cam[c].captured = none) ∧
          (lat ≠ 0 → t.eye.cam[c].captured = some (s.shadow c, (q.frames + lat) % 4294967296))) ∧
        (∀ d : CamIx, d ≠ c → t.eye.cam[d] = s.eye.cam[d]) ∧ { t with eye := s.eye, pmc := s.pmc, out := s.out } = s)) ∧
  (∀ (s : State) (c : CamIx) (h : CsiHeader), s.camRuns c = true → h.bad = false →
    h.corrected = false → h.vc.toNat = s.fld (aCam c.1 0) 29 28 →
    let q := s.eye.cam[c]
    (∀ (px : List (BitVec 16)) (ok lost : Bool), h.dt.toNat = 0x2A + s.camDt c →
      let widened := px.map fun v => widenRaw (s.camDt c) v.toNat
      (q.fs = none → exec (.csiLine c h px ⟨ok, lost⟩) s =
        .next { s with eye := { s.eye with cam := s.eye.cam.set c.1 { q with orphan := satTo 255 (q.orphan + 1) } c.2 } }) ∧
      (∀ f, q.fs = some f → f.lines.length < s.camLines c → px.length = s.camWidth c → (lost = false ∨ c ≠ 0) →
        ∃ t g, exec (.csiLine c h px ⟨ok, lost⟩) s = .next t ∧ t.eye.cam[c].fs = some g ∧ g.no = f.no ∧ g.set = f.set ∧
          g.lines.length = f.lines.length + 1 ∧ g.got = satTo 65535 (f.got + 1) ∧
          g.flags = (if ok then f.flags else f.flags ||| (flPktErr ||| flVoid)) ∧
          (c = 0 → f.has flDropped = false → ok = true → g.lines = f.lines ++ [widened] ∧ t.mem = s.mem) ∧
          (c ≠ 0 → f.has flDropped = false → ok = true → SoundSpool s →
            s.rawBase c + f.slot * s.rawSize c + (f.lines.length + 1) * s.camWidth c * 2 ≤ spoolSize →
            Stored (s.rawBase c + f.slot * s.rawSize c + f.lines.length * s.camWidth c * 2)
              (widened.flatMap fun v => leBytes 2 v) s t) ∧
          (∀ d : CamIx, d ≠ c → t.eye.cam[d] = s.eye.cam[d]) ∧ t.cfg = s.cfg ∧ t.mer = s.mer ∧ t.job = s.job) ∧
      (∀ f, q.fs = some f → f.lines.length < s.camLines c → f.has flDropped = false → lost = true → c = 0 →
        ∃ t g, exec (.csiLine c h px ⟨ok, lost⟩) s = .next t ∧ t.eye.cam[c].fs = some g ∧ g.no = f.no ∧ g.set = f.set ∧
          g.lines.length = f.lines.length + 1 ∧ g.lines.take f.lines.length = f.lines ∧ g.got = satTo 65535 (f.got + 1) ∧
          g.flags = (if ok then f.flags else f.flags ||| (flPktErr ||| flVoid)) ||| (flOvfl ||| flVoid) ∧
          { t with eye := s.eye, pmc := s.pmc, free := s.free } = s) ∧
      (∀ f, q.fs = some f → s.camLines c ≤ f.lines.length → ok = true → ∃ t, exec (.csiLine c h px ⟨ok, lost⟩) s = .next t ∧
        t.eye.cam[c].fs = some { f with got := satTo 65535 (f.got + 1), flags := f.flags ||| flLong } ∧
        t.mem = s.mem ∧ { t with eye := s.eye, pmc := s.pmc } = s)) ∧
    (∀ px ok lost, (h.dt.toNat = 0x12 ∨ 8 ≤ h.dt.toNat ∧ h.dt.toNat ≤ 15) → exec (.csiLine c h px ⟨ok, lost⟩) s = .next s) ∧
    (∀ px ok lost, h.dt.toNat ≠ 0x12 → (h.dt.toNat < 8 ∨ 15 < h.dt.toNat) → h.dt.toNat ≠ 0x2A + s.camDt c →
      exec (.csiLine c h px ⟨ok, lost⟩) s =
        .next { s with eye := { s.eye with cam := s.eye.cam.set c.1 { q with pkt := satTo 255 (q.pkt + 1) } c.2 } }) ∧
    (q.fs = none → exec (.csiFrameEnd c h) s =
      .next { s with eye := { s.eye with cam := s.eye.cam.set c.1 { q with orphan := satTo 255 (q.orphan + 1) } c.2 } }) ∧
    (∀ f, q.fs = some f → c ≠ 0 → f.has flDropped = false → s.camLines c ≤ f.lines.length → q.actLate = false →
      q.actFail = false → ∃ t g, exec (.csiFrameEnd c h) s = .next t ∧ t.eye.cam[c].fs = none ∧
        (if (s.camLines c + 63) / 64 ≤ f.slices then t.eye.cam[c].raw = q.raw ∧ t.eye.cam[c].recs = q.recs ++ [g]
         else t.eye.cam[c].raw = q.raw ++ [g] ∧ t.eye.cam[c].recs = q.recs) ∧ g.no = f.no ∧ g.flags = f.flags ∧ g.set = f.set ∧ g.lines = f.lines ∧
        t.mem = s.mem ∧ (∀ d : CamIx, d ≠ c → t.eye.cam[d] = s.eye.cam[d])) ∧
    (∀ f, q.fs = some f → c = 0 → f.has flDropped = false → s.camLines c ≤ f.lines.length → State.setFfEn c f.set = false →
      q.actLate = false → q.actFail = false → ∃ t g, exec (.csiFrameEnd c h) s = .next t ∧ t.eye.cam[c].fs = none ∧
        t.eye.cam[c].raw = q.raw ∧ t.eye.cam[c].recs = q.recs ++ [g] ∧ g.no = f.no ∧ g.flags = f.flags ∧ g.set = f.set ∧
        g.pix = f.pix ++ s.outputLines c f none 0 f.lines ∧ (∀ d : CamIx, d ≠ c → t.eye.cam[d] = s.eye.cam[d])) ∧
    (∀ f, q.fs = some f → f.lines.length < s.camLines c → q.actLate = false → q.actFail = false →
      ∃ t g, exec (.csiFrameEnd c h) s = .next t ∧ t.eye.cam[c].fs = none ∧
        (t.eye.cam[c].raw = q.raw ++ [g] ∨ t.eye.cam[c].recs = q.recs ++ [g]) ∧ g.no = f.no ∧
        g.flags &&& (flTrunc ||| flVoid) = flTrunc ||| flVoid ∧ (∀ d : CamIx, d ≠ c → t.eye.cam[d] = s.eye.cam[d])))

/-- R350, R362, R366: the pipeline processes the next slice of the camera that the arbiter grants; a record is written into
the next statistics slot with its event, and leaves; one second without an FS is noted. -/
def Obligations.SlicesAndRecordsAreProduced : Prop :=
  (∀ (s : State) (c : CamIx) (f : Frame) (rest : List Frame), s.grantCam = some c → s.eye.cam[c].raw = f :: rest →
    f.slices < f.ages.length → ∃ t g, exec .memorySliceProcess s = .next t ∧ t.eye.ptr = (c.1 + 1) % 4 ∧
      g.no = f.no ∧ g.set = f.set ∧ g.slices = f.slices + 1 ∧
      (if (s.camLines c + 63) / 64 ≤ f.slices + 1 then
        t.eye.cam[c].raw = rest ∧ t.eye.cam[c].recs = s.eye.cam[c].recs ++ [g]
       else t.eye.cam[c].raw = g :: rest ∧ t.eye.cam[c].recs = s.eye.cam[c].recs) ∧
      (∀ d : CamIx, d ≠ c → t.eye.cam[d] = s.eye.cam[d]) ∧ t.cfg = s.cfg ∧ t.mer = s.mer ∧ t.job = s.job) ∧
  (∀ s : State, s.grantCam = none → exec .memorySliceProcess s = .next s) ∧
  (∀ (s : State) (c : CamIx) (f : Frame), s.nextRecord c = some f → f.has flVoid = true → SoundSpool s → AsyncRoom s →
    s.recBase c + s.eye.cam[c].recSlot * 524288 + (s.recordBytes c f).length ≤ spoolSize →
    ∃ t, exec (.recordWritten ⟨c, []⟩) s = .next t ∧
      t.eye.cam[c] = { s.eye.cam[c] with
        recs := dropFirst (fun x => decide (x = f)) s.eye.cam[c].recs
        recSlot := (s.eye.cam[c].recSlot + 1) % s.statSlots c } ∧
      Stored (s.recBase c + s.eye.cam[c].recSlot * 524288) (s.recordBytes c f) s t ∧
      t.hif.async = s.hif.async ++ [s.asyncEvent .status 0x0B04 .none
        (BitVec.ofNat 64 (f.no + State.setId c f.set * 2 ^ 32 + c.1 * 2 ^ 40)) (BitVec.ofNat 48 f.flags.toNat) 0x0F] ∧
      (∀ d : CamIx, d ≠ c → t.eye.cam[d] = s.eye.cam[d])) ∧
  (∀ (s : State) (c : CamIx), s.camRuns c = true → exec (.cameraNoFsTimeout c) s =
    .next { s with eye := { s.eye with cam := s.eye.cam.set c.1 { s.eye.cam[c] with noFs := true } c.2 } })

/-- R352, R358, R359: COMMIT sets COMMIT_REQ, or is refused while one is open; staged writes go before the host's transfer, a
NACK of a staged one is reported and of the host's is noted; flat-field gains go to a bank that no frame uses. -/
def Obligations.CamerasCommitAndTransfer : Prop :=
  (∀ (s : State) (c : CamIx) (v : Word), CfgForm s → s.hostUp = true → v.getLsbD 31 = true →
    (s.eye.cam[c].commitReq = false → s.eye.cam[c].captured = none → ∃ t, exec (.psetCommit c v) s = .next t ∧
      t.eye = { s.eye with cam := s.eye.cam.set c.1 { s.eye.cam[c] with commitReq := true } c.2 } ∧
      t.rd (aCam c.1 0x10) = v &&& 0x0730E0FF ∧ { t with eye := s.eye, cfg := s.cfg, pmc := s.pmc } = s) ∧
    ((s.eye.cam[c].commitReq = true ∨ s.eye.cam[c].captured.isSome = true) → ∃ t, exec (.psetCommit c v) s = .next t ∧
      t.hif.refused = s.hif.refused + 1 ∧ { t with hif := s.hif, pmc := s.pmc } = s)) ∧
  (∀ (s : State) (c : CamIx) (v : Word), s.hostUp = true → s.eye.cam[c].hostXfer = none → s.eye.cam[c].cciBusy = none →
    s.eye.cam[c].staged = [] → ∃ t, exec (.cciHostTransfer c v) s = .next t ∧
      t.eye = { s.eye with cam := s.eye.cam.set c.1 { s.eye.cam[c] with cciBusy := some (false, v), nack := false } c.2 } ∧
      t.out = s.out ++ [.cci c (v.getLsbD 31) (bits v.toNat 30 24) (bits v.toNat 23 8) (BitVec.ofNat 8 (bits v.toNat 7 0))] ∧
      { t with eye := s.eye, cfg := s.cfg, out := s.out, pmc := s.pmc } = s) ∧
  (∀ (s : State) (c : CamIx) (acked : Bool) (data : Byte) (w : Word),
    (s.eye.cam[c].cciBusy = some (false, w) → s.eye.cam[c].staged = [] → s.eye.cam[c].hostXfer = none →
      ∃ t, exec (.cciTransferDone c acked data) s = .next t ∧
        t.eye = { s.eye with cam := s.eye.cam.set c.1 { s.eye.cam[c] with
          cciBusy := none, nack := !acked
          cciData := if w.getLsbD 31 = true ∧ acked = true then data else s.eye.cam[c].cciData } c.2 } ∧
        { t with eye := s.eye } = s) ∧
    (s.eye.cam[c].cciBusy = some (true, w) → acked = false → AsyncRoom s → ∃ t, exec (.cciTransferDone c acked data) s = .next t ∧
      t.eye.cam[c].cciFail = true ∧ (s.eye.cam[c].captured = none → t.eye.cam[c].actFail = true) ∧
      t.eye.cam[c].staged = s.eye.cam[c].staged.drop 1 ∧
      t.hif = { s.hif with async := s.hif.async ++ [s.unitEvent 0x0B02 .c (unitCam c) 0 0x0F] } ∧
      { t with eye := s.eye, hif := s.hif, out := s.out } = s)) ∧
  (∀ (s : State) (c : CamIx) (v : Word), s.hostUp = true →
    let a := s.rdN (aCam c.1 0x140)
    (s.bankBusy c (State.setFf c) (bits a 31 31) = true → ∃ t, exec (.ffDataWrite c v) s = .next t ∧
      t.hif.refused = s.hif.refused + 1 ∧ { t with hif := s.hif, pmc := s.pmc } = s) ∧
    (s.bankBusy c (State.setFf c) (bits a 31 31) = false → CfgForm s → SoundSpool s →
      s.camBase c + bits a 31 31 * s.ffBankSize c + 2 * bits a 20 0 + 4 ≤ spoolSize → ∃ t, exec (.ffDataWrite c v) s = .next t ∧
      t.rdN (aCam c.1 0x140) = bits a 31 31 * 2 ^ 31 + (bits a 20 0 + 2) % 2 ^ 21 ∧
      Stored (s.camBase c + bits a 31 31 * s.ffBankSize c + 2 * bits a 20 0) (leBytes 4 v.toNat) s t ∧
      t.eye = s.eye ∧ t.mer = s.mer))
/-! ## Occulter and the ledger -/

/-- R380 to R384: START runs the port in test mode 1 ms ahead, or is refused; ABORT ends a run once nothing is in flight; a
gate edge outside a run is counted, a pulse in the window of a drop is timed, and one outside every window is a stray.
R382 to R384, R389: the oldest drop is judged when its windows have passed, and counts when its row was delivered; the
last one ends the run; a record is appended in the next slot or the one after it, and neither holding it is E_LEDGER_WRITE; a
hung flash is recovered by XSPI_RESET_n first (R60), and a recorded swap puts the replaced unit out of service (R36). -/
def Obligations.OcculterRunsAndRecordsAppend : Prop :=
  ((∀ (s : State) (v : Word), s.hostUp = true → v.getLsbD 31 = true → s.occ.state ≠ 1 → s.tbRuns = true →
      (s.occRefused = true → AsyncRoom s → ∃ t, exec (.occStart v) s = .next t ∧
        t.hif = { s.hif with async := s.hif.async ++ [s.unitEvent 0x0C02 .c (unitPort s.occPort) 0 0x10] } ∧
        { t with hif := s.hif, pmc := s.pmc } = s) ∧
      (s.occRefused = false → ∃ t, exec (.occStart v) s = .next t ∧ t.occ.state = 1 ∧ t.occ.first = s.now25 + 400000 ∧
        t.occ.fired = 0 ∧ t.occ.judged = 0 ∧ t.occ.failed = 0 ∧ t.occ.weak = 0 ∧ t.occ.stray = 0 ∧
        t.fns.port[s.occPort].running = true ∧ t.fns.port[s.occPort].gen = s.fns.port[s.occPort].gen + 1 ∧
        t.occ.queued = min s.occTotal (s.slots s.occPort) ∧ t.port[s.occPort].rows.length = t.occ.queued ∧
        (∀ r ∈ t.port[s.occPort].rows, r.codes[s.occNozzle (r.n - s.barWr (barOf s.occPort))]? = some s.occCode) ∧
        OtherPorts s.occPort s t ∧ t.mem = s.mem ∧ t.cfg = s.cfg ∧ t.hif = s.hif)) ∧
    (∀ (s : State) (v : Word), s.hostUp = true → v.getLsbD 31 = true → (s.occ.state = 1 ∨ s.tbRuns = false) →
      ∃ t, exec (.occStart v) s = .next t ∧ t.hif.refused = s.hif.refused + 1 ∧ { t with hif := s.hif, pmc := s.pmc } = s) ∧
    (∀ (s : State) (v : Word), s.hostUp = true → v.getLsbD 31 = false → v.getLsbD 30 = true → s.occ.state = 1 →
      (s.occ.drops ≠ [] → ∃ t, exec (.occAbort v) s = .next t ∧ t.occ = { s.occ with abort := true } ∧
        { t with occ := s.occ, pmc := s.pmc } = s) ∧
      (s.occ.drops = [] → ∃ t, exec (.occAbort v) s = .next t ∧ t.occ.state = 3 ∧
        t.fns.port[s.occPort].running = false ∧ t.port[s.occPort].rows = [] ∧ OtherPorts s.occPort s t ∧ t.mem = s.mem)) ∧
    (∀ (s : State) (g : Fin 2) (b : Bool), s.up = true → s.occ.state ≠ 1 →
      exec (.occGateEdge g b) s = .next { s with occ := { s.occ with outside := s.occ.outside + 1 } }) ∧
    (∀ (s : State) (g : Fin 2), s.up = true → s.occ.state = 1 → g ∈ s.occGates →
      let rise := !s.fbit (aCal 0x1000) 21
      (s.dropAt g s.now25 = none → ∃ t, exec (.occGateEdge g rise) s = .next t ∧
        t.occ = { s.occ with
          stray := satTo 65535 (s.occ.stray + 1), pulse := s.occ.pulse.set g.1 (some (s.now25, none)) g.2 } ∧
        { t with occ := s.occ } = s) ∧
      (∀ i d, s.dropAt g s.now25 = some i → s.occ.drops[i]? = some d → d.pulse[g] = none →
        ∃ t e, exec (.occGateEdge g rise) s = .next t ∧ t.occ.drops[i]? = some e ∧
          e.pulse[g] = some (s.now25 - s.testEdge (s.occ.judged + i), 0) ∧
          t.occ.pulse[g] = some (s.now25, some (s.occ.judged + i)) ∧ { t with occ := s.occ } = s) ∧
      (∀ t0 i d x, s.occ.pulse[g] = some (t0, some i) → s.occ.judged ≤ i → s.occ.drops[i - s.occ.judged]? = some d →
        d.pulse[g] = some x → ∃ t e, exec (.occGateEdge g (!rise)) s = .next t ∧
          t.occ.drops[i - s.occ.judged]? = some e ∧ e.pulse[g] = some (x.1, s.now25 - t0) ∧ t.occ.pulse[g] = none ∧
          { t with occ := s.occ } = s))) ∧
  ((∀ (s : State) (d : TestDrop) (rest : List TestDrop), s.occ.state = 1 → s.occ.drops = d :: rest → s.dropOver = true →
      (s.occ.judged + 1) % s.occBurst ≠ 0 → s.occ.judged + 1 < s.occTotal → s.occ.abort = false →
      ∃ t, exec .occWindowEnd s = .next t ∧ t.occ.judged = s.occ.judged + 1 ∧ t.occ.drops = rest ∧
        t.occ.deliv = s.occ.deliv + b2n d.good ∧
        (∀ g : Fin 2, t.occ.hits[g] = s.occ.hits[g] + b2n (d.good && d.pulse[g].isSome)) ∧
        t.occ.flag = (s.occ.flag || d.stray) ∧ { t with occ := s.occ } = s) ∧
    (∀ (s : State) (d : TestDrop) (rest : List TestDrop), s.occ.state = 1 → s.occ.drops = d :: rest → s.dropOver = true →
      s.occ.judged + 1 = s.occTotal → ∃ t, exec .occWindowEnd s = .next t ∧ t.occ.state = 2 ∧
        t.fns.port[s.occPort].running = false ∧ t.port[s.occPort].rows = [] ∧ OtherPorts s.occPort s t ∧ t.cfg = s.cfg) ∧
    (∀ (s : State) (x : Record) (rest : List Record) (hung a b : Bool), s.sys.held = [] → s.sys.stage = 4 →
      s.cal.pending = x :: rest → 4 * (s.cal.slots + 2) < 3 * s.halfSlots → (∀ q ∈ s.fns.reqs, q.ledger = false) →
      let y : Record := { x with
        seq := s.cal.seq, sec := s.mer.time / 16777216 / 1000000000 % 2 ^ 48, trace := s.mer.trace }
      let flash : List Output := if hung then [.xspiReset false, .xspiReset true] else []
      ((a = true ∨ b = true) → ∃ t, exec (.ledgerAppend hung ⟨a, b⟩) s = .next t ∧ t.cal.ledger = s.cal.ledger ++ [y] ∧
        t.cal.pending = rest ∧ t.cal.seq = s.cal.seq + 1 ∧ t.cal.slots = s.cal.slots + (if a then 1 else 2) ∧
        t.out = s.out ++ flash ∧ t.mem = s.mem ∧ t.fns = s.fns ∧
        (x.kind ≠ 8 → x.kind ≠ 9 → x.kind ≠ 10 → t.hif = s.hif) ∧
        (∀ c : ChanIx, x.kind = 4 → x.old.toNat = c.1 → t.spl.chans[c].out = true) ∧
        (∀ i : Fin 68, x.kind = 1 → x.old.toNat = i.1 → t.se.engines[i].out = true)) ∧
      (a = false → b = false → (x.kind = 0 ∨ 4 < x.kind) → AsyncRoom s → ∃ t, exec (.ledgerAppend hung ⟨a, b⟩) s = .next t ∧
        t.cal.ledger = s.cal.ledger ∧ t.cal.pending = rest ∧ t.out = s.out ++ flash ∧
        t.hif = { s.hif with async := s.hif.async ++ [s.unitEvent 0x0C06 .c unitNone 0 0x10] } ∧
        { t with cal := s.cal, hif := s.hif, out := s.out } = s)))

/-! ## Ethernet, DMA and the overlay port -/

/-- R422 to R428, R430: a message that breaks the form or whose CRC fails is counted and nothing is stored; a band already
published is answered; a fragment of an open band is stored where it belongs; a gap is answered by a NAK, and after NAK_MAX
the band is given up; a frame within the rate goes to firmware; a port's link is lost and returns. -/
def Obligations.BandTransportStoresAndAnswers : Prop :=
  (∀ (s : State) (p : EthIx) (src : BitVec 144) (m : List Byte), s.btOpen p src.toNat = true → s.sys.lpCur ≠ 2 →
    btFrame (s.fbit (aEthPort p.1 0) 25) src.toNat m.length ≤ 9216 →
    let e := s.eth.port[p]
    (btForm m = false → ∃ t, exec (.btDataRx p src m) s = .next t ∧
      t.eth.port[p] = { e with format := satTo 255 (e.format + 1) } ∧ t.eth.trackers = s.eth.trackers ∧
      { t with eth := s.eth, pmc := s.pmc } = s) ∧
    (btForm m = true → btCrcOk m = false → ∃ t, exec (.btDataRx p src m) s = .next t ∧
      t.eth.port[p] = { e with crc := satTo 255 (e.crc + 1) } ∧ t.eth.trackers = s.eth.trackers ∧
      { t with eth := s.eth, pmc := s.pmc } = s) ∧
    (btForm m = true → btCrcOk m = true → (s.band? (btKey m)).isSome = true → btKey m ∉ s.eth.answered →
      ∃ t, exec (.btDataRx p src m) s = .next t ∧ t.eth.port[p] = { e with dup := satTo 255 (e.dup + 1) } ∧
        t.eth.answered = s.eth.answered ++ [btKey m] ∧
        t.out = s.out ++ [.ethMessage p src.toNat (State.btMessage 3 (btKey m) 0 0 0x0204 [])] ∧
        { t with eth := s.eth, pmc := s.pmc, out := s.out } = s) ∧
    (∀ k : Tracker, btForm m = true → btCrcOk m = true → s.band? (btKey m) = none →
      s.planeOpen (btKey m).job (btKey m).plane = true → s.tracker? (btKey m) = some k →
      k.total = btTotal m → k.stride = btStride m → k.count = btCount m → btFrag m ∉ k.bits →
      k.bits.length + 1 < k.count → SoundSpool s → 0 < s.ringUnits → s.ringBase + 64 * s.ringUnits ≤ spoolSize →
      k.pos % s.ringUnits + (btOffset m + m.length + 31) / 64 ≤ s.ringUnits →
      ∃ t x, exec (.btDataRx p src m) s = .next t ∧ t.tracker? (btKey m) = some x ∧ btFrag m ∈ x.bits ∧
        x.bits.length = k.bits.length + 1 ∧ x.naks = 0 ∧ x.port = p ∧ x.source = src.toNat ∧
        Stored (s.posAddr k.pos + btOffset m) (m.drop 32) s t ∧ t.cfg = s.cfg ∧ t.job = s.job ∧ t.out = s.out)) ∧
  (∀ (s : State) (job : BitVec 16) (plane : Fin 16) (band : BitVec 32), s.up = true →
    let key : BandKey := ⟨job.toNat, plane.1, band.toNat⟩
    (∀ k : Tracker, s.tracker? key = some k → k.naks < s.fld aEthBt 7 4 →
      let l := (List.range k.count).filter fun i => !k.bits.contains i
      let base := l.headD 0 / 8 * 8
      ∃ t, exec (.btGapTimeout job plane band) s = .next t ∧
      (t.tracker? key).map (·.naks) = some (k.naks + 1) ∧
      t.out = s.out ++ [.ethMessage k.port k.source (State.btMessage 2 key base l.length 0 (State.nakBitmap l base))] ∧
      { t with eth := s.eth, out := s.out, pmc := s.pmc } = s) ∧
    (∀ k : Tracker, s.tracker? key = some k → s.fld aEthBt 7 4 ≤ k.naks → AsyncRoom s →
      ∃ t, exec (.btGapTimeout job plane band) s = .next t ∧ t.tracker? key = none ∧
      t.hif = { s.hif with async := s.hif.async ++ [s.unitEvent 0x0E01 .c unitNone 0 0x12] } ∧
      t.out = s.out ++ [.ethMessage k.port k.source (State.btMessage 3 key 0 0 0x0E01 [])] ∧
      { t with eth := s.eth, job := s.job, hif := s.hif, out := s.out } = s) ∧
    (s.tracker? key = none → exec (.btGapTimeout job plane band) s =
      .next { s with eth := { s.eth with answered := s.eth.answered.filter fun k => decide (k ≠ key) } })) ∧
  (∀ (s : State) (p : EthIx) (len : Nat), s.up = true → s.eth.port[p].link = true → 64 ≤ len → len ≤ 9216 →
    (∃ t, exec (.firmwareFrameRx p true len) s = .next t ∧ t.out = s.out ++ [.firmware (.frame p)] ∧
      { t with out := s.out, pmc := s.pmc } = s) ∧
    (∃ t, exec (.firmwareFrameRx p false len) s = .next t ∧
      t.eth.port[p] = { s.eth.port[p] with fwDrop := s.eth.port[p].fwDrop + 1 } ∧ { t with eth := s.eth } = s)) ∧
  (∀ (s : State) (p : EthIx), s.up = true → s.fbit (aEthPort p.1 0) 31 = true →
    (AsyncRoom s → (s.ptpOn = false ∨ p ≠ s.ptpPort) → ∃ t, exec (.ethLinkLoss p) s = .next t ∧
      t.eth.port[p] = { s.eth.port[p] with link := false, modeUp := 0, loss := satTo 65535 (s.eth.port[p].loss + 1) } ∧
      t.hif = { s.hif with async := s.hif.async ++ [s.unitEvent 0x0E03 .c unitNone 0 0x12] } ∧
      { t with eth := s.eth, hif := s.hif } = s) ∧
    (s.ptpOn = true → p = s.ptpPort → ∃ t, exec (.ethLinkLoss p) s = .next t ∧ t.eth.port[p].link = false ∧
      t.mer.annLost = true ∧ t.mer.ptpLock = (s.mer.holdover && s.ptpHold && s.mer.ptpLock)) ∧
    (∃ t, exec (.ethLinkUp p) s = .next t ∧
      t.eth.port[p] = { s.eth.port[p] with link := true, modeUp := s.fld (aEthPort p.1 0) 30 28 } ∧
      { t with eth := s.eth } = s))

/-- R431 to R439: GO starts an idle prepared channel and READY parks it, ABORT stops a chain and CLEAR ends its result; in any
other state the write is refused; a sound descriptor is taken into execution and a bad one halts the channel; a beat moves up
to the next 64-byte boundary of its destination; the last write of a chain ends it. -/
def Obligations.PreparedChannelsMoveTheirChains : Prop :=
  (∀ (s : State) (ch : DmaIx) (v : Word), s.hostUp = true → s.prepared ch = true →
    let c := s.dma.ch[ch]
    (v = 0x80000000 → c.state ≤ 1 → ∃ t, exec (.dmaGo ch v) s = .next t ∧
      t.dma.ch[ch] = { c with
        state := 2, hops := 0, desc := s.rd64 (aDma ch.1 0x10), descSpool := s.fbit (aDma ch.1 0) 30, xfer := none
        age := s.tick } ∧
      (∀ d : DmaIx, d ≠ ch → t.dma.ch[d] = s.dma.ch[d]) ∧ { t with dma := s.dma, pmc := s.pmc } = s) ∧
    (v = 0x40000000 → c.state = 0 → ∃ t, exec (.dmaReady ch v) s = .next t ∧ t.dma.ch[ch] = { c with state := 1 } ∧
      (∀ d : DmaIx, d ≠ ch → t.dma.ch[d] = s.dma.ch[d]) ∧ { t with dma := s.dma, pmc := s.pmc } = s) ∧
    (v = 0x20000000 → (c.state = 1 ∨ c.state = 2) → State.chainEnded c = false → ∃ t, exec (.dmaAbort ch v) s = .next t ∧
      t.dma.ch[ch] = { c with state := 4, xfer := none } ∧ { t with dma := s.dma, pmc := s.pmc } = s) ∧
    (v = 0x10000000 → 3 ≤ c.state → ∃ t, exec (.dmaClear ch v) s = .next t ∧
      t.dma.ch[ch] = { c with state := 0, fault := 0 } ∧ { t with dma := s.dma, pmc := s.pmc } = s) ∧
    (v = 0x80000000 → 2 ≤ c.state → ∃ t, exec (.dmaGo ch v) s = .next t ∧ t.hif.refused = s.hif.refused + 1 ∧
      { t with hif := s.hif, pmc := s.pmc } = s) ∧
    (v = 0x40000000 → 1 ≤ c.state → ∃ t, exec (.dmaReady ch v) s = .next t ∧ t.hif.refused = s.hif.refused + 1 ∧
      { t with hif := s.hif, pmc := s.pmc } = s)) ∧
  (∀ (s : State) (ch : DmaIx) (d : Descriptor), s.up = true → s.awaitsDescriptor ch = true →
    s.dma.ch[ch].descSpool = false → s.linkOk = true → bit (dCtrl d) 4 = false →
    (dForm d = true → (bit (dCtrl d) 1 = true → s.mayWrite (dDst d) (dLen d) = true) →
      (bit (dCtrl d) 0 = true → s.mayRead (dSrc d) (dLen d) = true) → ∃ t, exec (.descriptorFetch ch d []) s = .next t ∧
        t.dma.ch[ch] = { s.dma.ch[ch] with
          hops := satTo 16777215 (s.dma.ch[ch].hops + 1)
          xfer := some { len := dLen d, dst := dDst d, dstSpool := bit (dCtrl d) 1, last := bit (dCtrl d) 7, next := dNext d
                         nextSpool := bit (dCtrl d) 6, runs := [(dSrc d, dLen d, bit (dCtrl d) 0)], done := 0
                         ns := bit (dCtrl d) 5 } } ∧
        (∃ a b, t.out = s.out ++ a ++ b ∧ (∀ x ∈ a, ∃ y n, x = Output.hostRead y n false) ∧
          ∀ x ∈ b, ∃ y n, x = Output.hostRead y n (bit (dCtrl d) 5)) ∧
        { t with dma := s.dma, pmc := s.pmc, out := s.out } = s) ∧
    (dForm d = false → AsyncRoom s → ∃ t, exec (.descriptorFetch ch d []) s = .next t ∧
      t.dma.ch[ch].state = 5 ∧ t.dma.ch[ch].fault = 6 ∧ t.dma.ch[ch].faultAddr = s.dma.ch[ch].desc ∧
      t.hif = { s.hif with async := s.hif.async ++ [s.unitEvent 0x0F03 .c unitNone 0 0x13] } ∧ ReadsHost false s t ∧
      { t with dma := s.dma, hif := s.hif, pmc := s.pmc, out := s.out } = s)) ∧
  (∀ (s : State) (ch : DmaIx) (x : Transfer) (r : Nat × Nat × Bool) (rest : List (Nat × Nat × Bool)) (host : List Byte),
    s.up = true → s.beatChannel = some ch → s.prepared ch = true → s.dma.ch[ch].xfer = some x → x.runs = r :: rest → r.2.2 = false →
    x.dstSpool = false → (x.last = true ∨ State.beatLen x r.2.1 < r.2.1) → ∃ t, exec (.dmaBeat host) s = .next t ∧
      t.dma.ch[ch] = { s.dma.ch[ch] with xfer := some (x.move (State.beatLen x r.2.1)) } ∧
      t.out = s.out ++ [.hostWrite (x.dst + x.done) (slice host 0 (State.beatLen x r.2.1)) x.ns (s.fbit aHifCtrl 15)] ∧
      (∀ d : DmaIx, d ≠ ch → t.dma.ch[d] = s.dma.ch[d]) ∧ { t with dma := s.dma, pmc := s.pmc, out := s.out } = s) ∧
  (∀ (s : State) (ch : DmaIx) (host : List Byte), s.up = true → s.beatChannel = some ch → s.prepared ch = false →
    ∃ t, exec (.dmaBeat host) s = .next t ∧
      t.dma.ch[ch] = { s.dma.ch[ch] with left := s.dma.ch[ch].left - min 64 s.dma.ch[ch].left } ∧
      (∀ d : DmaIx, d ≠ ch → t.dma.ch[d] = s.dma.ch[d]) ∧ { t with dma := s.dma, pmc := s.pmc } = s) ∧
  (∀ (s : State) (ch : DmaIx), s.prepared ch = true → s.dma.ch[ch].state = 2 → State.chainEnded s.dma.ch[ch] = true →
    ∃ t, exec (.dmaChainDone ch) s = .next t ∧ t.dma.ch[ch] = { s.dma.ch[ch] with state := 3, xfer := none } ∧
      (s.fbit (aDma ch.1 0) 27 = false → t.hif = s.hif) ∧
      (s.fbit (aDma ch.1 0) 27 = true → AsyncRoom s → t.hif = { s.hif with async := s.hif.async ++
        [s.asyncEvent .status 0x0F06 .none (BitVec.ofNat 64 ch.1) 0 0x13] }) ∧
      (∀ d : DmaIx, d ≠ ch → t.dma.ch[d] = s.dma.ch[d]) ∧ { t with dma := s.dma, hif := s.hif } = s)

/-- R440, R442 to R447: an input word joins the FIFO word being packed, and sixteen make one; the reader takes the oldest word;
a full FIFO drops or cuts the newest item and is a loss; a flush empties the port, clears its counts and commits its settings. -/
def Obligations.OverlayPortPacksReadsAndFlushes : Prop :=
  (∀ (s : State) (d : BitVec 16), s.overlayOpen = true → s.ovl.ignore = false → s.ovl.inItem.isSome = true →
    s.ovl.fullAt = false →
    (s.ovl.inWord.length < 30 → (∀ n, s.ovl.inLeft = some n → 2 < n) → ∃ t, exec (.overlayInputWord d false false) s = .next t ∧
      t.ovl.inWord = s.ovl.inWord ++ leBytes 2 d.toNat ∧ t.ovl.fifo = s.ovl.fifo ∧ t.ovl.inItem = s.ovl.inItem ∧
      { t with ovl := s.ovl, pmc := s.pmc } = s) ∧
    (s.ovl.inWord.length = 30 → s.ovl.inLeft = none → ∃ t, exec (.overlayInputWord d false false) s = .next t ∧
      t.ovl.inWord = [] ∧ t.ovl.inItem = s.ovl.inItem.map (· + 1) ∧
      t.ovl.fifo = s.ovl.fifo ++ [⟨s.ovl.inWord ++ leBytes 2 d.toNat, s.ovl.inSoi && decide (s.ovl.inItem = some 0), false,
        some 32, none⟩] ∧ { t with ovl := s.ovl, pmc := s.pmc } = s)) ∧
  (∀ (s : State) (d : BitVec 16), s.overlayOpen = true → s.ovl.fullAt = true → s.ovl.ignore = false →
    ∃ t, exec (.overlayInputWord d false false) s = .next t ∧ t.ovl.lost = true ∧ t.ovl.ignore = true ∧
      (s.ovl.compat = true → t.ovl.gaps = satTo 255 (s.ovl.gaps + 1)) ∧ (s.ovl.compat = false → t.ovl.overrun = true) ∧
      t.mem = s.mem ∧ t.se = s.se) ∧
  (∀ (s : State) (w : FifoWord) (rest : List FifoWord), s.overlayReads = true → s.ovl.fifo = w :: rest → w.gap = none →
    w.last = false → w.soi = false → s.ovl.part ≠ [] → ∃ t, exec (.overlayItemRead false) s = .next t ∧
      t.ovl.fifo = rest ∧ t.ovl.part = s.ovl.part ++ w.bytes.take (w.valid.getD 32) ∧
      t.ovl.partOk = (w.valid.isSome && s.ovl.partOk) ∧ { t with ovl := s.ovl, pmc := s.pmc } = s) ∧
  (∀ (s : State) (v : Word), s.hostUp = true → v.getLsbD 31 = true → s.ovl.flushing = false →
    ∃ t, exec (.ovlFlush v) s = .next t ∧ t.ovl.flushing = true ∧ t.ovl.fifo = [] ∧ t.ovl.inWord = [] ∧ t.ovl.part = [] ∧
      t.ovl.gaps = 0 ∧ t.ovl.bad = 0 ∧ t.ovl.hold = false ∧ (s.overlayHolds = true → t.ovl.lost = true) ∧
      (s.overlayHolds = false → { t with ovl := s.ovl, pmc := s.pmc } = s) ∧ t.mem = s.mem ∧ t.se = s.se) ∧
  (∀ s : State, s.up = true → s.ovl.flushing = true → s.fld (aOvl 0) 26 16 ≤ 2044 → s.fld (aOvl 0) 10 0 < s.fld (aOvl 0) 26 16 →
    ∃ t, exec .ovlFlushDone s = .next t ∧ t.ovl = { s.ovl with
      flushing := false, compat := s.fbit (aOvl 0) 30, high := s.fld (aOvl 0) 26 16, low := s.fld (aOvl 0) 10 0 } ∧
      t.spl.chans = s.spl.chans ∧ t.spl.valid = s.spl.valid ∧ { t with ovl := s.ovl, spl := s.spl } = s)

/-- R471, R474 to R477: a counter that passes 2^48 − 1 sets OVF and, with sampling, starts again from its start value with a
sample pending; a sample is written on its ring when it takes it, and else lost and counted; a window's end keeps its count. -/
def Obligations.CountersWrapSampleAndWindow : Prop :=
  (∀ (s : State) (n : Fin 64), 2 ^ 48 ≤ s.pmc.ctr[n].value →
    (s.fbit (aPmcCtr n.1 0) 29 = false → ∃ t, exec (.pmcCounterWrap n) s = .next t ∧
      t.pmc.ctr[n] = { s.pmc.ctr[n] with value := s.pmc.ctr[n].value - 2 ^ 48, ovf := true } ∧ t.pmc.lost = s.pmc.lost ∧
      t.setNow = (32 * aPmcCtr n.1 0 + 26) :: s.setNow ∧
      (∀ m : Fin 64, m ≠ n → t.pmc.ctr[m] = s.pmc.ctr[m]) ∧ { t with pmc := s.pmc, setNow := s.setNow } = s) ∧
    (s.fbit (aPmcCtr n.1 0) 29 = true → ∃ t, exec (.pmcCounterWrap n) s = .next t ∧
      t.pmc.ctr[n].value = s.rd64 (aPmcCtr n.1 0x10) % 2 ^ 48 + (s.pmc.ctr[n].value - 2 ^ 48) ∧
      t.pmc.ctr[n].ovf = true ∧ t.pmc.ctr[n].sample = true ∧
      (s.pmc.ctr[n].sample = false → t.pmc.ctr[n].stamp = s.mer.time ∧ t.pmc.lost = s.pmc.lost) ∧
      (s.pmc.ctr[n].sample = true → t.pmc.ctr[n].stamp = s.pmc.ctr[n].stamp ∧ t.pmc.lost = sat32 (s.pmc.lost + 1)) ∧
      { t with pmc := s.pmc, setNow := s.setNow } = s)) ∧
  (∀ (s : State) (n : Fin 64) (off : Word) (task : BitVec 16) (skid : Fin 33), s.up = true →
    s.pmc.ctr[n].sample = true → ∀ r : RingIx, r.1 = s.fld (aPmc 0) 6 0 →
    ((r.1 = 0 ∨ s.hif.rings[r].state ≠ .active ∨ s.eqFull r = true) → ∃ t, exec (.pmcSampleTaken n off task skid) s = .next t ∧
      t.pmc.ctr[n].sample = false ∧ t.pmc.lost = sat32 (s.pmc.lost + 1) ∧ { t with pmc := s.pmc } = s) ∧
    (r.1 ≠ 0 → s.hif.rings[r].state = .active → s.eqFull r = false → ∃ t e, exec (.pmcSampleTaken n off task skid) s = .next t ∧
      t.pmc.ctr[n].sample = false ∧ t.pmc.lost = s.pmc.lost ∧
      Written r (s.hif.rings[r].eqTail % s.eqSize r) e s t ∧ OtherRings r s t ∧
      { t with hif := s.hif, out := s.out, pmc := s.pmc } = s)) ∧
  (∀ (s : State) (m : Fin 16), s.up = true → s.fbit (aPmcBw m.1 0) 31 = true → s.fbit (aPmc 0) 31 = false →
    ∃ t, exec (.bwWindowEnd m) s = .next t ∧
      t.pmc.bw[m] = ⟨0, sat32 (s.pmc.bw[m].count / 64), max s.pmc.bw[m].peak (sat32 (s.pmc.bw[m].count / 64))⟩ ∧
      (∀ n : Fin 16, n ≠ m → t.pmc.bw[n] = s.pmc.bw[n]) ∧ t.pmc.ctr = s.pmc.ctr ∧ { t with pmc := s.pmc } = s)
/-! ## The machine as a whole -/

/-- R83: a read of SDR_SUB copies the seconds, reads of SDR_SEC_LO and SDR_SEC_HI return the copy, and no command but another
read of SDR_SUB, or the loss of Sidereal's own supply (R81), changes it; nor does a tick. -/
def Obligations.SecondsCopyHoldsUntilTheNextRead : Prop :=
  (∀ s : State, s.hostUp = true → s.bar0Up = true →
    (∃ t, exec .sdrSubRead s = .next t ∧ t.sdr = { s.sdr with secCopy := s.sdr.sec } ∧
      t.out = s.out ++ [.readReply (BitVec.ofNat 32 s.sdr.sub)] ∧ { t with sdr := s.sdr, out := s.out, pmc := s.pmc } = s) ∧
    (∃ t, exec (.snapshotLoRead ⟨aSdr 0, false⟩) s = .next t ∧ t.sdr = { s.sdr with secCopy := s.sdr.sec }) ∧
    (∃ t, exec (.snapshotLoRead ⟨aSdr 4, false⟩) s = .next t ∧ t.sdr = s.sdr ∧
      t.out = s.out ++ [.readReply (BitVec.ofNat 32 (s.sdr.secCopy % 2 ^ 32))]) ∧
    (∃ t, exec (.snapshotLoRead ⟨aSdr 8, false⟩) s = .next t ∧ t.sdr = s.sdr ∧
      t.out = s.out ++ [.readReply (BitVec.ofNat 32 (s.sdr.secCopy / 2 ^ 32 % 2 ^ 16))])) ∧
  (∀ (c : Instr) (s t : State), exec c s = .next t → t.sdr.secCopy = s.sdr.secCopy ∨ c = .sdrSubRead ∨
    (∃ two, c = .snapshotLoRead ⟨aSdr 0, two⟩) ∨ c = .siderealPowerOnReset) ∧
  (∀ s : State, s.clockTick.sdr = s.sdr)

/-- R306: each tick adds INC to Meridian's time, which reads as seconds, nanoseconds below 10^9 and the top 16 bits of the
fraction; a write of INC governs from the next tick, one outside its range is refused, and INC resets to 2.5 ns. -/
def Obligations.EachTickAddsTheIncrement : Prop :=
  (∀ s : State, s.clockTick.tick = s.tick + 1 ∧ s.clockTick.setNow = [] ∧ s.clockTick.cfg = s.cfg ∧
    s.clockTick.mem = s.mem ∧ s.clockTick.job = s.job ∧ s.clockTick.port = s.port ∧ s.clockTick.pending = s.pending) ∧
  (∀ s : State, s.clear = true → s.sys.pll = true → s.sys.seeded = true →
    s.clockTick.mer.time = s.mer.time + s.rdN (aMer 0x10) ∧
    ((∀ x : AxisIx, s.axis[x].cmd = none ∧ s.axis[x].begins = false ∧ s.axis[x].sw[0] = false ∧ s.axis[x].sw[1] = false ∧
      s.fld (aMot x.1 0x2C) 15 0 = 0) → s.clockTick.hif = s.hif)) ∧
  (∀ s : State, s.hostUp = true → s.bar0Up = true →
    (∃ t, exec .merTimeFracRead s = .next t ∧ t.mer.copy = s.mer.time ∧
      t.out = s.out ++ [.readReply (BitVec.ofNat 32 (s.mer.time / 2 ^ 8 % 2 ^ 16))]) ∧
    (∃ t, exec (.snapshotLoRead ⟨aMer 4, false⟩) s = .next t ∧
      t.out = s.out ++ [.readReply (BitVec.ofNat 32 (s.mer.copy / 2 ^ 24 % 1000000000))]) ∧
    (∃ t, exec (.snapshotLoRead ⟨aMer 8, false⟩) s = .next t ∧
      t.out = s.out ++ [.readReply (BitVec.ofNat 32 (s.mer.copy / 2 ^ 24 / 1000000000 % 2 ^ 32))])) ∧
  (∀ (s t : State) (v : Word), CfgForm s → s.hostUp = true → s.clear = true → s.sys.pll = true → s.sys.seeded = true →
    exec (.merIncWrite v) s = .next t →
    (0x027F5C29 ≤ v.toNat → v.toNat ≤ 0x0280A3D7 → t.clockTick.mer.time = s.mer.time + v.toNat) ∧
    ((v.toNat < 0x027F5C29 ∨ 0x0280A3D7 < v.toNat) → t.hif.refused = s.hif.refused + 1 ∧
      t.clockTick.mer.time = s.mer.time + s.rdN (aMer 0x10))) ∧
  State.reset.rdN (aMer 0x10) = 0x02800000 ∧ 0x02800000 * 10 = 25 * 2 ^ 24

/-- R488: every failure that BOOT_STATUS.ERR takes is remembered, and firmware posts each as an ERROR event, in order, when it
reports ready; the events wait until the asynchronous ring can carry them. -/
def Obligations.BootFailuresArePosted : Prop :=
  (∀ (s t : State) (a b : List Byte) (bad : List (Fin 5)), s.clear = true → s.sys.pll = true → s.sys.hbm = true →
    s.sys.stage < 2 → exec (.bootSlotVerifyDone a b bad) s = .next t →
    t.sys.bootErrs = s.sys.bootErrs ++ ([s.imgVerdict a, s.imgVerdict b].filter (· ≠ 0))) ∧
  (∀ (s t : State) (image : List Byte) (bad : List (Fin 5)), s.clear = true → s.sys.stage = 3 →
    exec (.hostImageVerifyDone image bad) s = .next t →
    t.sys.bootErrs = s.sys.bootErrs ∨ t.sys.bootErrs = s.sys.bootErrs ++ [t.sys.bootErr]) ∧
  (∀ s : State, s.clear = true → s.sys.hbm = true → s.sys.seeded = true → s.sys.stage = 4 → s.sys.probed = true →
    s.sys.fwReady = false → 4 ≤ s.activeCores → s.corruptSlots = 0 → s.hif.async.length + s.sys.bootErrs.length ≤ 256 →
    ∃ t, exec .firmwareReady s = .next t ∧ t.sys.bootErrs = [] ∧
      t.hif = { s.hif with async := s.hif.async ++ s.sys.bootErrs.map fun c => s.unitEvent c .c unitNone 0 1 }) ∧
  (∀ (s : State) (r : RingIx) (e : Event) (rest : List Event), s.up = true → s.asyncRing = some r → s.hif.lost = 0 →
    s.hif.async = e :: rest →
    (s.asyncBlocked = true → exec (.eventPost .async) s = .next s) ∧
    (s.asyncBlocked = false → ∃ t i b, exec (.eventPost .async) s = .next t ∧ t.hif.async = rest ∧ Written r i b s t))

/-- A step runs the command at the front of the queue on the rest of the queue, and a tick when none waits (the tick is the
model's choice, log entry 1); no word of the opcode table spells a command. -/
def Obligations.StepRunsTheFrontCommand : Prop :=
  (∀ (s : State) (c : Instr) (rest : List Instr), s.pending = c :: rest → step s = exec c { s with pending := rest }) ∧
  (∀ s : State, s.pending = [] → step s = .next s.clockTick) ∧
  (∀ (s : State) (nbits w : Nat), decodeTableWord nbits w = none ∧ s.withFetchWord nbits w = s)

/-- Every command completes in every state: none faults, and none is refused. -/
def Obligations.EveryCommandCompletes : Prop := ∀ (c : Instr) (s : State), ∃ t, exec c s = .next t

/-- Whatever a command does, the commands that wait behind it stay as they are, what has left the device is never taken back,
and no tick of the clock passes. -/
def Obligations.CommandsKeepTheQueueAndTheOutput : Prop :=
  ∀ (c : Instr) (s t : State), exec c s = .next t → t.pending = s.pending ∧ t.tick = s.tick ∧ ∃ l, t.out = s.out ++ l

/-- R12, R77, R509: the machine at power-up reads every register at its reset value, has every function stopped and an empty
spool that reads zero, and both canonical forms hold. -/
def Obligations.ResetStateHasTheResetValues : Prop :=
  (∀ off, State.reset.rd off = regReset off) ∧ (∀ a, memRead State.reset.mem a = 0) ∧ State.reset.spl.valid = [] ∧
  (∀ f : FnRef, (State.reset.fn f).running = false) ∧ (∀ r : RingIx, State.reset.hif.rings[r].state = .disabled) ∧
  State.reset.sys.cause = .powerOn ∧ State.reset.sys.rail = 15 ∧ State.reset.sys.wdogCore = 7 ∧
  State.reset.sys.fwReady = false ∧ State.reset.pending = [] ∧ SpoolForm State.reset ∧ CfgForm State.reset

/-- R400: the spool's bytes keep their canonical form in every step: equal contents are equal states. -/
def Obligations.StepKeepsTheSpoolForm : Prop :=
  ∀ s t : State, SpoolForm s → step s = .next t → SpoolForm t

/-- R12, R31: the stored registers keep their canonical form in every step: a register is listed only while it holds another
value than its reset value, once, in the order of its offset. -/
def Obligations.StepKeepsTheRegisterForm : Prop :=
  ∀ s t : State, CfgForm s → step s = .next t → CfgForm t
end

