-- ==== Sys2Proof/Laws/Memory.lean ====
section
/-!
SUPPORT. The laws of the spool's list of bytes: every operation keeps the canonical form (R400), a byte read after a
write is the byte written, and every other byte stays.
-/
namespace Sys2Proof.Machine
open Sys2Proof

/-! ## The canonical form -/

theorem wfFrom_cons {lo a : Nat} {b : Byte} {t : List Host.Cell} :
    Memory.wfFrom lo ((a, b) :: t) = true ↔ lo ≤ a ∧ b ≠ memDefault a ∧ Memory.wfFrom (a + 1) t = true := by
  simp only [Memory.wfFrom, Bool.and_eq_true, decide_eq_true_eq, and_assoc]
  exact Iff.rfl

theorem wfFrom_mono {lo lo' : Nat} (h : lo' ≤ lo) : ∀ {m : List Host.Cell}, Memory.wfFrom lo m = true → Memory.wfFrom lo' m = true
  | [], _ => rfl
  | (a, b) :: t, hm => by
    rw [wfFrom_cons] at hm ⊢
    exact ⟨by omega, hm.2⟩

/-- An address below every listed one reads as the default. -/
theorem tget_below {lo a : Nat} (h : a < lo) : ∀ {m : List Host.Cell}, Memory.wfFrom lo m = true →
    tget memDefault m a = memDefault a
  | [], _ => rfl
  | (c, b) :: t, hm => by
    rw [wfFrom_cons] at hm
    have hn : c ≠ a := by omega
    rw [tget, if_neg hn]
    exact tget_below (lo := c + 1) (by omega) hm.2.2

theorem wfFrom_mem {lo : Nat} : ∀ {m : List Host.Cell}, Memory.wfFrom lo m = true → ∀ q ∈ m, lo ≤ q.1
  | [], _, q, h => by simp at h
  | (c, w) :: t, hm, q, hq => by
    rw [wfFrom_cons] at hm
    rcases List.mem_cons.mp hq with rfl | hq
    · exact hm.1
    · have := wfFrom_mem hm.2.2 q hq; omega

theorem wfFrom_memWrite {lo k : Nat} (hk : lo ≤ k) (v : Byte) :
    ∀ {m : List Host.Cell}, Memory.wfFrom lo m = true → Memory.wfFrom lo (memWrite m k v) = true
  | [], _ => by
    simp only [memWrite, tput]
    split
    · rfl
    · rename_i hv
      exact wfFrom_cons.mpr ⟨hk, hv, rfl⟩
  | (a, w) :: t, hm => by
    have hm' := wfFrom_cons.mp hm
    simp only [memWrite, tput]
    split
    · rename_i h1
      split
      · exact hm
      · rename_i hv
        exact wfFrom_cons.mpr ⟨hk, hv, wfFrom_cons.mpr ⟨h1, hm'.2⟩⟩
    · split
      · rename_i h2
        subst h2
        split
        · exact wfFrom_mono (by omega) hm'.2.2
        · rename_i hv
          exact wfFrom_cons.mpr ⟨hk, hv, hm'.2.2⟩
      · exact wfFrom_cons.mpr ⟨hm'.1, hm'.2.1, wfFrom_memWrite (by omega) v hm'.2.2⟩

/-- R400: writing one byte keeps the canonical form. -/
theorem wf_memWrite (m : List Host.Cell) (k : Nat) (v : Byte) (h : Memory.wf m = true) : Memory.wf (memWrite m k v) = true :=
  wfFrom_memWrite (Nat.zero_le _) v h

theorem wfFrom_append {lo mid : Nat} : ∀ {m n : List Host.Cell}, Memory.wfFrom lo m = true → lo ≤ mid →
    (∀ q ∈ m, q.1 < mid) → Memory.wfFrom mid n = true → Memory.wfFrom lo (m ++ n) = true
  | [], _, _, h, _, hn => wfFrom_mono h hn
  | (a, b) :: t, n, hm, _, hlt, hn => by
    rw [wfFrom_cons] at hm
    have hab : a < mid := hlt (a, b) (by simp)
    rw [List.cons_append, wfFrom_cons]
    exact ⟨hm.1, hm.2.1, wfFrom_append hm.2.2 (by omega) (fun q hq => hlt q (by simp [hq])) hn⟩

theorem tentries_lt {k : Nat} : ∀ {vs : List Byte} (q : Host.Cell), q ∈ tentries memDefault k vs →
    k ≤ q.1 ∧ q.1 < k + vs.length
  | [], q, h => by simp [tentries] at h
  | v :: vs, q, h => by
    simp only [tentries] at h
    split at h
    · have := tentries_lt (k := k + 1) q h
      simp only [List.length_cons]; omega
    · rcases List.mem_cons.mp h with rfl | h
      · simp
      · have := tentries_lt (k := k + 1) q h
        simp only [List.length_cons]; omega

theorem wfFrom_tentries {k : Nat} : ∀ {vs : List Byte}, Memory.wfFrom k (tentries memDefault k vs) = true
  | [] => rfl
  | v :: vs => by
    have ih := wfFrom_tentries (k := k + 1) (vs := vs)
    simp only [tentries]
    split
    · exact wfFrom_mono (by omega) ih
    · rename_i hv
      exact wfFrom_cons.mpr ⟨Nat.le_refl _, hv, ih⟩

theorem wfFrom_takeWhile {lo k : Nat} : ∀ {m : List Host.Cell}, Memory.wfFrom lo m = true →
    Memory.wfFrom lo (m.takeWhile fun q => decide (q.1 < k)) = true
  | [], _ => rfl
  | (a, b) :: t, hm => by
    rw [wfFrom_cons] at hm
    by_cases h : a < k
    · rw [List.takeWhile_cons_of_pos (by simpa using h)]
      exact wfFrom_cons.mpr ⟨hm.1, hm.2.1, wfFrom_takeWhile hm.2.2⟩
    · rw [List.takeWhile_cons_of_neg (by simpa using h)]
      rfl

theorem takeWhile_lt {k : Nat} : ∀ {m : List Host.Cell} (q : Host.Cell),
    q ∈ m.takeWhile (fun q => decide (q.1 < k)) → q.1 < k
  | [], q, h => by simp at h
  | (a, b) :: t, q, h => by
    by_cases ha : a < k
    · rw [List.takeWhile_cons_of_pos (by simpa using ha)] at h
      rcases List.mem_cons.mp h with rfl | h
      · exact ha
      · exact takeWhile_lt q h
    · rw [List.takeWhile_cons_of_neg (by simpa using ha)] at h
      simp at h

theorem wfFrom_dropWhile {lo k : Nat} : ∀ {m : List Host.Cell}, Memory.wfFrom lo m = true →
    Memory.wfFrom k (m.dropWhile fun q => decide (q.1 < k)) = true
  | [], _ => rfl
  | (a, b) :: t, hm => by
    rw [wfFrom_cons] at hm
    by_cases h : a < k
    · rw [List.dropWhile_cons_of_pos (by simpa using h)]
      exact wfFrom_dropWhile hm.2.2
    · rw [List.dropWhile_cons_of_neg (by simpa using h)]
      exact wfFrom_cons.mpr ⟨by omega, hm.2⟩

/-- R400: writing bytes at consecutive addresses keeps the canonical form. -/
theorem wf_memWrites (m : List Host.Cell) (k : Nat) (bs : List Byte) (h : Memory.wf m = true) :
    Memory.wf (memWrites m k bs) = true := by
  unfold Memory.wf memWrites tputs
  refine wfFrom_append (mid := k + bs.length) (wfFrom_append (mid := k) (wfFrom_takeWhile h) (Nat.zero_le _) ?_ ?_)
    (Nat.zero_le _) ?_ (wfFrom_dropWhile h)
  · exact fun q hq => takeWhile_lt q hq
  · exact wfFrom_tentries
  · intro q hq
    rcases List.mem_append.mp hq with hq | hq
    · have := takeWhile_lt q hq; omega
    · exact (tentries_lt q hq).2

/-- R400: leaving out listed bytes keeps the canonical form. -/
theorem wfFrom_filter (f : Host.Cell → Bool) {lo : Nat} : ∀ {m : List Host.Cell}, Memory.wfFrom lo m = true →
    Memory.wfFrom lo (m.filter f) = true
  | [], _ => rfl
  | (a, b) :: t, hm => by
    rw [wfFrom_cons] at hm
    have ih := wfFrom_filter f hm.2.2
    by_cases h : f (a, b) = true
    · rw [List.filter_cons_of_pos h]
      exact wfFrom_cons.mpr ⟨hm.1, hm.2.1, ih⟩
    · rw [List.filter_cons_of_neg h]
      exact wfFrom_mono (by omega) ih

theorem wf_filter (f : Host.Cell → Bool) (m : List Host.Cell) (h : Memory.wf m = true) : Memory.wf (m.filter f) = true :=
  wfFrom_filter f h

/-! ## Read after write -/

theorem memRead_memWrite_ne {k a : Nat} (v : Byte) (hne : a ≠ k) : ∀ (m : List Host.Cell),
    memRead (memWrite m k v) a = memRead m a
  | [] => by
    simp only [memWrite, memRead, tput]
    split
    · rfl
    · simp only [tget, if_neg (Ne.symm hne)]
  | (c, w) :: t => by
    have ih := memRead_memWrite_ne v hne t
    simp only [memWrite, memRead] at ih ⊢
    simp only [tput]
    split
    · split
      · rfl
      · simp only [tget, if_neg (Ne.symm hne)]
    · split
      · rename_i hc
        subst hc
        split
        · simp only [tget, if_neg (Ne.symm hne)]
        · simp only [tget, if_neg (Ne.symm hne)]
      · simp only [tget, ih]

/-- A byte read after it is written is the byte written. -/
theorem memRead_memWrite {lo k : Nat} (v : Byte) : ∀ {m : List Host.Cell}, Memory.wfFrom lo m = true →
    memRead (memWrite m k v) k = v
  | [], _ => by
    simp only [memWrite, memRead, tput]
    split
    · rename_i hv
      exact hv.symm
    · simp only [tget, if_pos]
  | (a, w) :: t, hm => by
    have hm' := wfFrom_cons.mp hm
    simp only [memWrite, memRead, tput]
    split
    · rename_i h
      split
      · rename_i hv
        rw [hv]
        exact tget_below h (m := (a, w) :: t) (wfFrom_cons.mpr ⟨Nat.le_refl _, hm'.2⟩)
      · simp only [tget, if_pos]
    · split
      · rename_i h
        subst h
        split
        · rename_i hv
          rw [hv]
          exact tget_below (by omega) hm'.2.2
        · simp only [tget, if_pos]
      · rename_i h
        rw [tget, if_neg (Ne.symm h)]
        exact memRead_memWrite v hm'.2.2

theorem tget_append (m n : List Host.Cell) (a : Nat) :
    tget memDefault (m ++ n) a = if a ∈ m.map (·.1) then tget memDefault m a else tget memDefault n a := by
  induction m with
  | nil => simp
  | cons q t ih =>
    obtain ⟨c, w⟩ := q
    by_cases h : c = a
    · simp [tget, h]
    · simp [tget, h, ih, Ne.symm h]

theorem tget_takeWhile {lo k a : Nat} (h : a < k) : ∀ {m : List Host.Cell}, Memory.wfFrom lo m = true →
    tget memDefault (m.takeWhile fun q => decide (q.1 < k)) a = tget memDefault m a
  | [], _ => rfl
  | (c, w) :: t, hm => by
    have hm' := wfFrom_cons.mp hm
    by_cases hc : c < k
    · rw [List.takeWhile_cons_of_pos (by simpa using hc)]
      simp only [tget, tget_takeWhile h hm'.2.2]
    · rw [List.takeWhile_cons_of_neg (by simpa using hc)]
      exact (tget_below (lo := c) (by omega) (m := (c, w) :: t) (wfFrom_cons.mpr ⟨Nat.le_refl _, hm'.2⟩)).symm

theorem tget_dropWhile {k a : Nat} (h : k ≤ a) : ∀ (m : List Host.Cell),
    tget memDefault (m.dropWhile fun q => decide (q.1 < k)) a = tget memDefault m a
  | [] => rfl
  | (c, w) :: t => by
    by_cases hc : c < k
    · rw [List.dropWhile_cons_of_pos (by simpa using hc)]
      have hne : c ≠ a := by omega
      simp only [tget, if_neg hne, tget_dropWhile h t]
    · rw [List.dropWhile_cons_of_neg (by simpa using hc)]

theorem tget_none (m : List Host.Cell) (a : Nat) (h : ∀ q ∈ m, q.1 ≠ a) : tget memDefault m a = memDefault a := by
  induction m with
  | nil => rfl
  | cons q t ih =>
    obtain ⟨c, w⟩ := q
    have hc : c ≠ a := h (c, w) (by simp)
    rw [tget, if_neg hc]
    exact ih fun q hq => h q (by simp [hq])

theorem tget_tentries {k : Nat} : ∀ (vs : List Byte) (j : Nat), j < vs.length →
    tget memDefault (tentries memDefault k vs) (k + j) = vs.getD j 0
  | [], j, h => by simp at h
  | v :: vs, 0, _ => by
    simp only [tentries]
    split
    · rename_i hv
      have := tget_none (tentries memDefault (k + 1) vs) k fun q hq => by
        have := tentries_lt q hq; omega
      simpa using this.trans hv.symm
    · simp [tget]
  | v :: vs, j + 1, h => by
    have ih := tget_tentries (k := k + 1) vs j (by simpa using h)
    have e : k + 1 + j = k + (j + 1) := by omega
    rw [e] at ih
    simp only [tentries]
    split
    · simpa using ih
    · have hne : k ≠ k + (j + 1) := by omega
      simp only [tget, if_neg hne, ih, List.getD_cons_succ]

/-- R395, R400: what every address reads after a write of bytes: the bytes written, and elsewhere what it read before. -/
theorem memRead_memWrites (m : List Host.Cell) (k a : Nat) (bs : List Byte) (h : Memory.wf m = true) :
    memRead (memWrites m k bs) a = if k ≤ a ∧ a < k + bs.length then bs.getD (a - k) 0 else memRead m a := by
  have hlow : k ≤ a → ∀ q ∈ m.takeWhile (fun q => decide (q.1 < k)), q.1 ≠ a := fun hk q hq => by
    have := takeWhile_lt q hq; omega
  have hhigh : a < k + bs.length → ∀ q ∈ m.dropWhile (fun q => decide (q.1 < k + bs.length)), q.1 ≠ a := fun hk q hq => by
    have := wfFrom_mem (wfFrom_dropWhile (k := k + bs.length) h) q hq; omega
  have hmid : ¬(k ≤ a ∧ a < k + bs.length) → ∀ q ∈ tentries memDefault k bs, q.1 ≠ a := fun hk q hq => by
    have := tentries_lt q hq; omega
  simp only [memRead, memWrites, tputs, List.append_assoc, tget_append, List.mem_map]
  by_cases h1 : a < k
  · rw [if_neg (c := k ≤ a ∧ a < k + bs.length) (by omega)]
    rw [if_neg (c := ∃ q, q ∈ tentries memDefault k bs ∧ q.1 = a)
      (fun ⟨q, hq, e⟩ => hmid (by omega) q hq e), tget_none _ _ (hhigh (by omega)), tget_takeWhile h1 h]
    split
    · rfl
    · rename_i hn
      rw [← tget_takeWhile h1 h]
      exact (tget_none _ _ fun q hq e => hn ⟨q, hq, e⟩).symm
  · rw [if_neg (c := ∃ q, q ∈ m.takeWhile (fun q => decide (q.1 < k)) ∧ q.1 = a)
      (fun ⟨q, hq, e⟩ => hlow (by omega) q hq e)]
    by_cases h2 : a < k + bs.length
    · rw [if_pos (c := k ≤ a ∧ a < k + bs.length) ⟨by omega, h2⟩]
      have e := tget_tentries (k := k) bs (a - k) (by omega)
      rw [show k + (a - k) = a by omega] at e
      rw [tget_none _ _ (hhigh h2), e]
      split
      · rfl
      · rename_i hn
        rw [← e]
        exact (tget_none _ _ fun q hq e => hn ⟨q, hq, e⟩).symm
    · rw [if_neg (c := k ≤ a ∧ a < k + bs.length) (by omega), if_neg (c := ∃ q, q ∈ tentries memDefault k bs ∧ q.1 = a)
        (fun ⟨q, hq, e⟩ => hmid (by omega) q hq e)]
      exact tget_dropWhile (by omega) m

end Sys2Proof.Machine
end

