-- ==== Sys2Proof/Laws/State.lean ====
section
/-!
SUPPORT. What each named update of Machine/Update.lean leaves: one lemma per component of State, true by rfl, so that
no proof unfolds a record update.
-/
namespace Sys2Proof.Machine.State
open Sys2Proof

variable (s : State)

/-! `onCfg` -/
section
variable (g : Table Word → Table Word)
@[simp] theorem onCfg_cfg : (s.onCfg g).cfg = g s.cfg := rfl
@[simp] theorem onCfg_sys : (s.onCfg g).sys = s.sys := rfl
@[simp] theorem onCfg_sdr : (s.onCfg g).sdr = s.sdr := rfl
@[simp] theorem onCfg_hif : (s.onCfg g).hif = s.hif := rfl
@[simp] theorem onCfg_fns : (s.onCfg g).fns = s.fns := rfl
@[simp] theorem onCfg_job : (s.onCfg g).job = s.job := rfl
@[simp] theorem onCfg_exp : (s.onCfg g).exp = s.exp := rfl
@[simp] theorem onCfg_bar : (s.onCfg g).bar = s.bar := rfl
@[simp] theorem onCfg_se : (s.onCfg g).se = s.se := rfl
@[simp] theorem onCfg_port : (s.onCfg g).port = s.port := rfl
@[simp] theorem onCfg_hls : (s.onCfg g).hls = s.hls := rfl
@[simp] theorem onCfg_mer : (s.onCfg g).mer = s.mer := rfl
@[simp] theorem onCfg_axis : (s.onCfg g).axis = s.axis := rfl
@[simp] theorem onCfg_eye : (s.onCfg g).eye = s.eye := rfl
@[simp] theorem onCfg_cal : (s.onCfg g).cal = s.cal := rfl
@[simp] theorem onCfg_occ : (s.onCfg g).occ = s.occ := rfl
@[simp] theorem onCfg_spl : (s.onCfg g).spl = s.spl := rfl
@[simp] theorem onCfg_mem : (s.onCfg g).mem = s.mem := rfl
@[simp] theorem onCfg_eth : (s.onCfg g).eth = s.eth := rfl
@[simp] theorem onCfg_dma : (s.onCfg g).dma = s.dma := rfl
@[simp] theorem onCfg_ovl : (s.onCfg g).ovl = s.ovl := rfl
@[simp] theorem onCfg_integ : (s.onCfg g).integ = s.integ := rfl
@[simp] theorem onCfg_pmc : (s.onCfg g).pmc = s.pmc := rfl
@[simp] theorem onCfg_gpioIn : (s.onCfg g).gpioIn = s.gpioIn := rfl
@[simp] theorem onCfg_out : (s.onCfg g).out = s.out := rfl
@[simp] theorem onCfg_tick : (s.onCfg g).tick = s.tick := rfl
@[simp] theorem onCfg_free : (s.onCfg g).free = s.free := rfl
@[simp] theorem onCfg_setNow : (s.onCfg g).setNow = s.setNow := rfl
@[simp] theorem onCfg_pending : (s.onCfg g).pending = s.pending := rfl
end

/-! `onSys` -/
section
variable (g : Sys → Sys)
@[simp] theorem onSys_cfg : (s.onSys g).cfg = s.cfg := rfl
@[simp] theorem onSys_sys : (s.onSys g).sys = g s.sys := rfl
@[simp] theorem onSys_sdr : (s.onSys g).sdr = s.sdr := rfl
@[simp] theorem onSys_hif : (s.onSys g).hif = s.hif := rfl
@[simp] theorem onSys_fns : (s.onSys g).fns = s.fns := rfl
@[simp] theorem onSys_job : (s.onSys g).job = s.job := rfl
@[simp] theorem onSys_exp : (s.onSys g).exp = s.exp := rfl
@[simp] theorem onSys_bar : (s.onSys g).bar = s.bar := rfl
@[simp] theorem onSys_se : (s.onSys g).se = s.se := rfl
@[simp] theorem onSys_port : (s.onSys g).port = s.port := rfl
@[simp] theorem onSys_hls : (s.onSys g).hls = s.hls := rfl
@[simp] theorem onSys_mer : (s.onSys g).mer = s.mer := rfl
@[simp] theorem onSys_axis : (s.onSys g).axis = s.axis := rfl
@[simp] theorem onSys_eye : (s.onSys g).eye = s.eye := rfl
@[simp] theorem onSys_cal : (s.onSys g).cal = s.cal := rfl
@[simp] theorem onSys_occ : (s.onSys g).occ = s.occ := rfl
@[simp] theorem onSys_spl : (s.onSys g).spl = s.spl := rfl
@[simp] theorem onSys_mem : (s.onSys g).mem = s.mem := rfl
@[simp] theorem onSys_eth : (s.onSys g).eth = s.eth := rfl
@[simp] theorem onSys_dma : (s.onSys g).dma = s.dma := rfl
@[simp] theorem onSys_ovl : (s.onSys g).ovl = s.ovl := rfl
@[simp] theorem onSys_integ : (s.onSys g).integ = s.integ := rfl
@[simp] theorem onSys_pmc : (s.onSys g).pmc = s.pmc := rfl
@[simp] theorem onSys_gpioIn : (s.onSys g).gpioIn = s.gpioIn := rfl
@[simp] theorem onSys_out : (s.onSys g).out = s.out := rfl
@[simp] theorem onSys_tick : (s.onSys g).tick = s.tick := rfl
@[simp] theorem onSys_free : (s.onSys g).free = s.free := rfl
@[simp] theorem onSys_setNow : (s.onSys g).setNow = s.setNow := rfl
@[simp] theorem onSys_pending : (s.onSys g).pending = s.pending := rfl
end

/-! `onSdr` -/
section
variable (g : Sidereal → Sidereal)
@[simp] theorem onSdr_cfg : (s.onSdr g).cfg = s.cfg := rfl
@[simp] theorem onSdr_sys : (s.onSdr g).sys = s.sys := rfl
@[simp] theorem onSdr_sdr : (s.onSdr g).sdr = g s.sdr := rfl
@[simp] theorem onSdr_hif : (s.onSdr g).hif = s.hif := rfl
@[simp] theorem onSdr_fns : (s.onSdr g).fns = s.fns := rfl
@[simp] theorem onSdr_job : (s.onSdr g).job = s.job := rfl
@[simp] theorem onSdr_exp : (s.onSdr g).exp = s.exp := rfl
@[simp] theorem onSdr_bar : (s.onSdr g).bar = s.bar := rfl
@[simp] theorem onSdr_se : (s.onSdr g).se = s.se := rfl
@[simp] theorem onSdr_port : (s.onSdr g).port = s.port := rfl
@[simp] theorem onSdr_hls : (s.onSdr g).hls = s.hls := rfl
@[simp] theorem onSdr_mer : (s.onSdr g).mer = s.mer := rfl
@[simp] theorem onSdr_axis : (s.onSdr g).axis = s.axis := rfl
@[simp] theorem onSdr_eye : (s.onSdr g).eye = s.eye := rfl
@[simp] theorem onSdr_cal : (s.onSdr g).cal = s.cal := rfl
@[simp] theorem onSdr_occ : (s.onSdr g).occ = s.occ := rfl
@[simp] theorem onSdr_spl : (s.onSdr g).spl = s.spl := rfl
@[simp] theorem onSdr_mem : (s.onSdr g).mem = s.mem := rfl
@[simp] theorem onSdr_eth : (s.onSdr g).eth = s.eth := rfl
@[simp] theorem onSdr_dma : (s.onSdr g).dma = s.dma := rfl
@[simp] theorem onSdr_ovl : (s.onSdr g).ovl = s.ovl := rfl
@[simp] theorem onSdr_integ : (s.onSdr g).integ = s.integ := rfl
@[simp] theorem onSdr_pmc : (s.onSdr g).pmc = s.pmc := rfl
@[simp] theorem onSdr_gpioIn : (s.onSdr g).gpioIn = s.gpioIn := rfl
@[simp] theorem onSdr_out : (s.onSdr g).out = s.out := rfl
@[simp] theorem onSdr_tick : (s.onSdr g).tick = s.tick := rfl
@[simp] theorem onSdr_free : (s.onSdr g).free = s.free := rfl
@[simp] theorem onSdr_setNow : (s.onSdr g).setNow = s.setNow := rfl
@[simp] theorem onSdr_pending : (s.onSdr g).pending = s.pending := rfl
end

/-! `onHif` -/
section
variable (g : Hif → Hif)
@[simp] theorem onHif_cfg : (s.onHif g).cfg = s.cfg := rfl
@[simp] theorem onHif_sys : (s.onHif g).sys = s.sys := rfl
@[simp] theorem onHif_sdr : (s.onHif g).sdr = s.sdr := rfl
@[simp] theorem onHif_hif : (s.onHif g).hif = g s.hif := rfl
@[simp] theorem onHif_fns : (s.onHif g).fns = s.fns := rfl
@[simp] theorem onHif_job : (s.onHif g).job = s.job := rfl
@[simp] theorem onHif_exp : (s.onHif g).exp = s.exp := rfl
@[simp] theorem onHif_bar : (s.onHif g).bar = s.bar := rfl
@[simp] theorem onHif_se : (s.onHif g).se = s.se := rfl
@[simp] theorem onHif_port : (s.onHif g).port = s.port := rfl
@[simp] theorem onHif_hls : (s.onHif g).hls = s.hls := rfl
@[simp] theorem onHif_mer : (s.onHif g).mer = s.mer := rfl
@[simp] theorem onHif_axis : (s.onHif g).axis = s.axis := rfl
@[simp] theorem onHif_eye : (s.onHif g).eye = s.eye := rfl
@[simp] theorem onHif_cal : (s.onHif g).cal = s.cal := rfl
@[simp] theorem onHif_occ : (s.onHif g).occ = s.occ := rfl
@[simp] theorem onHif_spl : (s.onHif g).spl = s.spl := rfl
@[simp] theorem onHif_mem : (s.onHif g).mem = s.mem := rfl
@[simp] theorem onHif_eth : (s.onHif g).eth = s.eth := rfl
@[simp] theorem onHif_dma : (s.onHif g).dma = s.dma := rfl
@[simp] theorem onHif_ovl : (s.onHif g).ovl = s.ovl := rfl
@[simp] theorem onHif_integ : (s.onHif g).integ = s.integ := rfl
@[simp] theorem onHif_pmc : (s.onHif g).pmc = s.pmc := rfl
@[simp] theorem onHif_gpioIn : (s.onHif g).gpioIn = s.gpioIn := rfl
@[simp] theorem onHif_out : (s.onHif g).out = s.out := rfl
@[simp] theorem onHif_tick : (s.onHif g).tick = s.tick := rfl
@[simp] theorem onHif_free : (s.onHif g).free = s.free := rfl
@[simp] theorem onHif_setNow : (s.onHif g).setNow = s.setNow := rfl
@[simp] theorem onHif_pending : (s.onHif g).pending = s.pending := rfl
end

/-! `onFns` -/
section
variable (g : Fns → Fns)
@[simp] theorem onFns_cfg : (s.onFns g).cfg = s.cfg := rfl
@[simp] theorem onFns_sys : (s.onFns g).sys = s.sys := rfl
@[simp] theorem onFns_sdr : (s.onFns g).sdr = s.sdr := rfl
@[simp] theorem onFns_hif : (s.onFns g).hif = s.hif := rfl
@[simp] theorem onFns_fns : (s.onFns g).fns = g s.fns := rfl
@[simp] theorem onFns_job : (s.onFns g).job = s.job := rfl
@[simp] theorem onFns_exp : (s.onFns g).exp = s.exp := rfl
@[simp] theorem onFns_bar : (s.onFns g).bar = s.bar := rfl
@[simp] theorem onFns_se : (s.onFns g).se = s.se := rfl
@[simp] theorem onFns_port : (s.onFns g).port = s.port := rfl
@[simp] theorem onFns_hls : (s.onFns g).hls = s.hls := rfl
@[simp] theorem onFns_mer : (s.onFns g).mer = s.mer := rfl
@[simp] theorem onFns_axis : (s.onFns g).axis = s.axis := rfl
@[simp] theorem onFns_eye : (s.onFns g).eye = s.eye := rfl
@[simp] theorem onFns_cal : (s.onFns g).cal = s.cal := rfl
@[simp] theorem onFns_occ : (s.onFns g).occ = s.occ := rfl
@[simp] theorem onFns_spl : (s.onFns g).spl = s.spl := rfl
@[simp] theorem onFns_mem : (s.onFns g).mem = s.mem := rfl
@[simp] theorem onFns_eth : (s.onFns g).eth = s.eth := rfl
@[simp] theorem onFns_dma : (s.onFns g).dma = s.dma := rfl
@[simp] theorem onFns_ovl : (s.onFns g).ovl = s.ovl := rfl
@[simp] theorem onFns_integ : (s.onFns g).integ = s.integ := rfl
@[simp] theorem onFns_pmc : (s.onFns g).pmc = s.pmc := rfl
@[simp] theorem onFns_gpioIn : (s.onFns g).gpioIn = s.gpioIn := rfl
@[simp] theorem onFns_out : (s.onFns g).out = s.out := rfl
@[simp] theorem onFns_tick : (s.onFns g).tick = s.tick := rfl
@[simp] theorem onFns_free : (s.onFns g).free = s.free := rfl
@[simp] theorem onFns_setNow : (s.onFns g).setNow = s.setNow := rfl
@[simp] theorem onFns_pending : (s.onFns g).pending = s.pending := rfl
end

/-! `onJob` -/
section
variable (g : JobState → JobState)
@[simp] theorem onJob_cfg : (s.onJob g).cfg = s.cfg := rfl
@[simp] theorem onJob_sys : (s.onJob g).sys = s.sys := rfl
@[simp] theorem onJob_sdr : (s.onJob g).sdr = s.sdr := rfl
@[simp] theorem onJob_hif : (s.onJob g).hif = s.hif := rfl
@[simp] theorem onJob_fns : (s.onJob g).fns = s.fns := rfl
@[simp] theorem onJob_job : (s.onJob g).job = g s.job := rfl
@[simp] theorem onJob_exp : (s.onJob g).exp = s.exp := rfl
@[simp] theorem onJob_bar : (s.onJob g).bar = s.bar := rfl
@[simp] theorem onJob_se : (s.onJob g).se = s.se := rfl
@[simp] theorem onJob_port : (s.onJob g).port = s.port := rfl
@[simp] theorem onJob_hls : (s.onJob g).hls = s.hls := rfl
@[simp] theorem onJob_mer : (s.onJob g).mer = s.mer := rfl
@[simp] theorem onJob_axis : (s.onJob g).axis = s.axis := rfl
@[simp] theorem onJob_eye : (s.onJob g).eye = s.eye := rfl
@[simp] theorem onJob_cal : (s.onJob g).cal = s.cal := rfl
@[simp] theorem onJob_occ : (s.onJob g).occ = s.occ := rfl
@[simp] theorem onJob_spl : (s.onJob g).spl = s.spl := rfl
@[simp] theorem onJob_mem : (s.onJob g).mem = s.mem := rfl
@[simp] theorem onJob_eth : (s.onJob g).eth = s.eth := rfl
@[simp] theorem onJob_dma : (s.onJob g).dma = s.dma := rfl
@[simp] theorem onJob_ovl : (s.onJob g).ovl = s.ovl := rfl
@[simp] theorem onJob_integ : (s.onJob g).integ = s.integ := rfl
@[simp] theorem onJob_pmc : (s.onJob g).pmc = s.pmc := rfl
@[simp] theorem onJob_gpioIn : (s.onJob g).gpioIn = s.gpioIn := rfl
@[simp] theorem onJob_out : (s.onJob g).out = s.out := rfl
@[simp] theorem onJob_tick : (s.onJob g).tick = s.tick := rfl
@[simp] theorem onJob_free : (s.onJob g).free = s.free := rfl
@[simp] theorem onJob_setNow : (s.onJob g).setNow = s.setNow := rfl
@[simp] theorem onJob_pending : (s.onJob g).pending = s.pending := rfl
end

/-! `onExp` -/
section
variable (g : Expand → Expand)
@[simp] theorem onExp_cfg : (s.onExp g).cfg = s.cfg := rfl
@[simp] theorem onExp_sys : (s.onExp g).sys = s.sys := rfl
@[simp] theorem onExp_sdr : (s.onExp g).sdr = s.sdr := rfl
@[simp] theorem onExp_hif : (s.onExp g).hif = s.hif := rfl
@[simp] theorem onExp_fns : (s.onExp g).fns = s.fns := rfl
@[simp] theorem onExp_job : (s.onExp g).job = s.job := rfl
@[simp] theorem onExp_exp : (s.onExp g).exp = g s.exp := rfl
@[simp] theorem onExp_bar : (s.onExp g).bar = s.bar := rfl
@[simp] theorem onExp_se : (s.onExp g).se = s.se := rfl
@[simp] theorem onExp_port : (s.onExp g).port = s.port := rfl
@[simp] theorem onExp_hls : (s.onExp g).hls = s.hls := rfl
@[simp] theorem onExp_mer : (s.onExp g).mer = s.mer := rfl
@[simp] theorem onExp_axis : (s.onExp g).axis = s.axis := rfl
@[simp] theorem onExp_eye : (s.onExp g).eye = s.eye := rfl
@[simp] theorem onExp_cal : (s.onExp g).cal = s.cal := rfl
@[simp] theorem onExp_occ : (s.onExp g).occ = s.occ := rfl
@[simp] theorem onExp_spl : (s.onExp g).spl = s.spl := rfl
@[simp] theorem onExp_mem : (s.onExp g).mem = s.mem := rfl
@[simp] theorem onExp_eth : (s.onExp g).eth = s.eth := rfl
@[simp] theorem onExp_dma : (s.onExp g).dma = s.dma := rfl
@[simp] theorem onExp_ovl : (s.onExp g).ovl = s.ovl := rfl
@[simp] theorem onExp_integ : (s.onExp g).integ = s.integ := rfl
@[simp] theorem onExp_pmc : (s.onExp g).pmc = s.pmc := rfl
@[simp] theorem onExp_gpioIn : (s.onExp g).gpioIn = s.gpioIn := rfl
@[simp] theorem onExp_out : (s.onExp g).out = s.out := rfl
@[simp] theorem onExp_tick : (s.onExp g).tick = s.tick := rfl
@[simp] theorem onExp_free : (s.onExp g).free = s.free := rfl
@[simp] theorem onExp_setNow : (s.onExp g).setNow = s.setNow := rfl
@[simp] theorem onExp_pending : (s.onExp g).pending = s.pending := rfl
end

/-! `onBars` -/
section
variable (g : Vector Bar 8 → Vector Bar 8)
@[simp] theorem onBars_cfg : (s.onBars g).cfg = s.cfg := rfl
@[simp] theorem onBars_sys : (s.onBars g).sys = s.sys := rfl
@[simp] theorem onBars_sdr : (s.onBars g).sdr = s.sdr := rfl
@[simp] theorem onBars_hif : (s.onBars g).hif = s.hif := rfl
@[simp] theorem onBars_fns : (s.onBars g).fns = s.fns := rfl
@[simp] theorem onBars_job : (s.onBars g).job = s.job := rfl
@[simp] theorem onBars_exp : (s.onBars g).exp = s.exp := rfl
@[simp] theorem onBars_bar : (s.onBars g).bar = g s.bar := rfl
@[simp] theorem onBars_se : (s.onBars g).se = s.se := rfl
@[simp] theorem onBars_port : (s.onBars g).port = s.port := rfl
@[simp] theorem onBars_hls : (s.onBars g).hls = s.hls := rfl
@[simp] theorem onBars_mer : (s.onBars g).mer = s.mer := rfl
@[simp] theorem onBars_axis : (s.onBars g).axis = s.axis := rfl
@[simp] theorem onBars_eye : (s.onBars g).eye = s.eye := rfl
@[simp] theorem onBars_cal : (s.onBars g).cal = s.cal := rfl
@[simp] theorem onBars_occ : (s.onBars g).occ = s.occ := rfl
@[simp] theorem onBars_spl : (s.onBars g).spl = s.spl := rfl
@[simp] theorem onBars_mem : (s.onBars g).mem = s.mem := rfl
@[simp] theorem onBars_eth : (s.onBars g).eth = s.eth := rfl
@[simp] theorem onBars_dma : (s.onBars g).dma = s.dma := rfl
@[simp] theorem onBars_ovl : (s.onBars g).ovl = s.ovl := rfl
@[simp] theorem onBars_integ : (s.onBars g).integ = s.integ := rfl
@[simp] theorem onBars_pmc : (s.onBars g).pmc = s.pmc := rfl
@[simp] theorem onBars_gpioIn : (s.onBars g).gpioIn = s.gpioIn := rfl
@[simp] theorem onBars_out : (s.onBars g).out = s.out := rfl
@[simp] theorem onBars_tick : (s.onBars g).tick = s.tick := rfl
@[simp] theorem onBars_free : (s.onBars g).free = s.free := rfl
@[simp] theorem onBars_setNow : (s.onBars g).setNow = s.setNow := rfl
@[simp] theorem onBars_pending : (s.onBars g).pending = s.pending := rfl
end

/-! `onSe` -/
section
variable (g : Stripe → Stripe)
@[simp] theorem onSe_cfg : (s.onSe g).cfg = s.cfg := rfl
@[simp] theorem onSe_sys : (s.onSe g).sys = s.sys := rfl
@[simp] theorem onSe_sdr : (s.onSe g).sdr = s.sdr := rfl
@[simp] theorem onSe_hif : (s.onSe g).hif = s.hif := rfl
@[simp] theorem onSe_fns : (s.onSe g).fns = s.fns := rfl
@[simp] theorem onSe_job : (s.onSe g).job = s.job := rfl
@[simp] theorem onSe_exp : (s.onSe g).exp = s.exp := rfl
@[simp] theorem onSe_bar : (s.onSe g).bar = s.bar := rfl
@[simp] theorem onSe_se : (s.onSe g).se = g s.se := rfl
@[simp] theorem onSe_port : (s.onSe g).port = s.port := rfl
@[simp] theorem onSe_hls : (s.onSe g).hls = s.hls := rfl
@[simp] theorem onSe_mer : (s.onSe g).mer = s.mer := rfl
@[simp] theorem onSe_axis : (s.onSe g).axis = s.axis := rfl
@[simp] theorem onSe_eye : (s.onSe g).eye = s.eye := rfl
@[simp] theorem onSe_cal : (s.onSe g).cal = s.cal := rfl
@[simp] theorem onSe_occ : (s.onSe g).occ = s.occ := rfl
@[simp] theorem onSe_spl : (s.onSe g).spl = s.spl := rfl
@[simp] theorem onSe_mem : (s.onSe g).mem = s.mem := rfl
@[simp] theorem onSe_eth : (s.onSe g).eth = s.eth := rfl
@[simp] theorem onSe_dma : (s.onSe g).dma = s.dma := rfl
@[simp] theorem onSe_ovl : (s.onSe g).ovl = s.ovl := rfl
@[simp] theorem onSe_integ : (s.onSe g).integ = s.integ := rfl
@[simp] theorem onSe_pmc : (s.onSe g).pmc = s.pmc := rfl
@[simp] theorem onSe_gpioIn : (s.onSe g).gpioIn = s.gpioIn := rfl
@[simp] theorem onSe_out : (s.onSe g).out = s.out := rfl
@[simp] theorem onSe_tick : (s.onSe g).tick = s.tick := rfl
@[simp] theorem onSe_free : (s.onSe g).free = s.free := rfl
@[simp] theorem onSe_setNow : (s.onSe g).setNow = s.setNow := rfl
@[simp] theorem onSe_pending : (s.onSe g).pending = s.pending := rfl
end

/-! `onPorts` -/
section
variable (g : Vector Port 32 → Vector Port 32)
@[simp] theorem onPorts_cfg : (s.onPorts g).cfg = s.cfg := rfl
@[simp] theorem onPorts_sys : (s.onPorts g).sys = s.sys := rfl
@[simp] theorem onPorts_sdr : (s.onPorts g).sdr = s.sdr := rfl
@[simp] theorem onPorts_hif : (s.onPorts g).hif = s.hif := rfl
@[simp] theorem onPorts_fns : (s.onPorts g).fns = s.fns := rfl
@[simp] theorem onPorts_job : (s.onPorts g).job = s.job := rfl
@[simp] theorem onPorts_exp : (s.onPorts g).exp = s.exp := rfl
@[simp] theorem onPorts_bar : (s.onPorts g).bar = s.bar := rfl
@[simp] theorem onPorts_se : (s.onPorts g).se = s.se := rfl
@[simp] theorem onPorts_port : (s.onPorts g).port = g s.port := rfl
@[simp] theorem onPorts_hls : (s.onPorts g).hls = s.hls := rfl
@[simp] theorem onPorts_mer : (s.onPorts g).mer = s.mer := rfl
@[simp] theorem onPorts_axis : (s.onPorts g).axis = s.axis := rfl
@[simp] theorem onPorts_eye : (s.onPorts g).eye = s.eye := rfl
@[simp] theorem onPorts_cal : (s.onPorts g).cal = s.cal := rfl
@[simp] theorem onPorts_occ : (s.onPorts g).occ = s.occ := rfl
@[simp] theorem onPorts_spl : (s.onPorts g).spl = s.spl := rfl
@[simp] theorem onPorts_mem : (s.onPorts g).mem = s.mem := rfl
@[simp] theorem onPorts_eth : (s.onPorts g).eth = s.eth := rfl
@[simp] theorem onPorts_dma : (s.onPorts g).dma = s.dma := rfl
@[simp] theorem onPorts_ovl : (s.onPorts g).ovl = s.ovl := rfl
@[simp] theorem onPorts_integ : (s.onPorts g).integ = s.integ := rfl
@[simp] theorem onPorts_pmc : (s.onPorts g).pmc = s.pmc := rfl
@[simp] theorem onPorts_gpioIn : (s.onPorts g).gpioIn = s.gpioIn := rfl
@[simp] theorem onPorts_out : (s.onPorts g).out = s.out := rfl
@[simp] theorem onPorts_tick : (s.onPorts g).tick = s.tick := rfl
@[simp] theorem onPorts_free : (s.onPorts g).free = s.free := rfl
@[simp] theorem onPorts_setNow : (s.onPorts g).setNow = s.setNow := rfl
@[simp] theorem onPorts_pending : (s.onPorts g).pending = s.pending := rfl
end

/-! `onHls` -/
section
variable (g : Heliostat → Heliostat)
@[simp] theorem onHls_cfg : (s.onHls g).cfg = s.cfg := rfl
@[simp] theorem onHls_sys : (s.onHls g).sys = s.sys := rfl
@[simp] theorem onHls_sdr : (s.onHls g).sdr = s.sdr := rfl
@[simp] theorem onHls_hif : (s.onHls g).hif = s.hif := rfl
@[simp] theorem onHls_fns : (s.onHls g).fns = s.fns := rfl
@[simp] theorem onHls_job : (s.onHls g).job = s.job := rfl
@[simp] theorem onHls_exp : (s.onHls g).exp = s.exp := rfl
@[simp] theorem onHls_bar : (s.onHls g).bar = s.bar := rfl
@[simp] theorem onHls_se : (s.onHls g).se = s.se := rfl
@[simp] theorem onHls_port : (s.onHls g).port = s.port := rfl
@[simp] theorem onHls_hls : (s.onHls g).hls = g s.hls := rfl
@[simp] theorem onHls_mer : (s.onHls g).mer = s.mer := rfl
@[simp] theorem onHls_axis : (s.onHls g).axis = s.axis := rfl
@[simp] theorem onHls_eye : (s.onHls g).eye = s.eye := rfl
@[simp] theorem onHls_cal : (s.onHls g).cal = s.cal := rfl
@[simp] theorem onHls_occ : (s.onHls g).occ = s.occ := rfl
@[simp] theorem onHls_spl : (s.onHls g).spl = s.spl := rfl
@[simp] theorem onHls_mem : (s.onHls g).mem = s.mem := rfl
@[simp] theorem onHls_eth : (s.onHls g).eth = s.eth := rfl
@[simp] theorem onHls_dma : (s.onHls g).dma = s.dma := rfl
@[simp] theorem onHls_ovl : (s.onHls g).ovl = s.ovl := rfl
@[simp] theorem onHls_integ : (s.onHls g).integ = s.integ := rfl
@[simp] theorem onHls_pmc : (s.onHls g).pmc = s.pmc := rfl
@[simp] theorem onHls_gpioIn : (s.onHls g).gpioIn = s.gpioIn := rfl
@[simp] theorem onHls_out : (s.onHls g).out = s.out := rfl
@[simp] theorem onHls_tick : (s.onHls g).tick = s.tick := rfl
@[simp] theorem onHls_free : (s.onHls g).free = s.free := rfl
@[simp] theorem onHls_setNow : (s.onHls g).setNow = s.setNow := rfl
@[simp] theorem onHls_pending : (s.onHls g).pending = s.pending := rfl
end

/-! `onMer` -/
section
variable (g : Meridian → Meridian)
@[simp] theorem onMer_cfg : (s.onMer g).cfg = s.cfg := rfl
@[simp] theorem onMer_sys : (s.onMer g).sys = s.sys := rfl
@[simp] theorem onMer_sdr : (s.onMer g).sdr = s.sdr := rfl
@[simp] theorem onMer_hif : (s.onMer g).hif = s.hif := rfl
@[simp] theorem onMer_fns : (s.onMer g).fns = s.fns := rfl
@[simp] theorem onMer_job : (s.onMer g).job = s.job := rfl
@[simp] theorem onMer_exp : (s.onMer g).exp = s.exp := rfl
@[simp] theorem onMer_bar : (s.onMer g).bar = s.bar := rfl
@[simp] theorem onMer_se : (s.onMer g).se = s.se := rfl
@[simp] theorem onMer_port : (s.onMer g).port = s.port := rfl
@[simp] theorem onMer_hls : (s.onMer g).hls = s.hls := rfl
@[simp] theorem onMer_mer : (s.onMer g).mer = g s.mer := rfl
@[simp] theorem onMer_axis : (s.onMer g).axis = s.axis := rfl
@[simp] theorem onMer_eye : (s.onMer g).eye = s.eye := rfl
@[simp] theorem onMer_cal : (s.onMer g).cal = s.cal := rfl
@[simp] theorem onMer_occ : (s.onMer g).occ = s.occ := rfl
@[simp] theorem onMer_spl : (s.onMer g).spl = s.spl := rfl
@[simp] theorem onMer_mem : (s.onMer g).mem = s.mem := rfl
@[simp] theorem onMer_eth : (s.onMer g).eth = s.eth := rfl
@[simp] theorem onMer_dma : (s.onMer g).dma = s.dma := rfl
@[simp] theorem onMer_ovl : (s.onMer g).ovl = s.ovl := rfl
@[simp] theorem onMer_integ : (s.onMer g).integ = s.integ := rfl
@[simp] theorem onMer_pmc : (s.onMer g).pmc = s.pmc := rfl
@[simp] theorem onMer_gpioIn : (s.onMer g).gpioIn = s.gpioIn := rfl
@[simp] theorem onMer_out : (s.onMer g).out = s.out := rfl
@[simp] theorem onMer_tick : (s.onMer g).tick = s.tick := rfl
@[simp] theorem onMer_free : (s.onMer g).free = s.free := rfl
@[simp] theorem onMer_setNow : (s.onMer g).setNow = s.setNow := rfl
@[simp] theorem onMer_pending : (s.onMer g).pending = s.pending := rfl
end

/-! `onAxes` -/
section
variable (g : Vector Axis 8 → Vector Axis 8)
@[simp] theorem onAxes_cfg : (s.onAxes g).cfg = s.cfg := rfl
@[simp] theorem onAxes_sys : (s.onAxes g).sys = s.sys := rfl
@[simp] theorem onAxes_sdr : (s.onAxes g).sdr = s.sdr := rfl
@[simp] theorem onAxes_hif : (s.onAxes g).hif = s.hif := rfl
@[simp] theorem onAxes_fns : (s.onAxes g).fns = s.fns := rfl
@[simp] theorem onAxes_job : (s.onAxes g).job = s.job := rfl
@[simp] theorem onAxes_exp : (s.onAxes g).exp = s.exp := rfl
@[simp] theorem onAxes_bar : (s.onAxes g).bar = s.bar := rfl
@[simp] theorem onAxes_se : (s.onAxes g).se = s.se := rfl
@[simp] theorem onAxes_port : (s.onAxes g).port = s.port := rfl
@[simp] theorem onAxes_hls : (s.onAxes g).hls = s.hls := rfl
@[simp] theorem onAxes_mer : (s.onAxes g).mer = s.mer := rfl
@[simp] theorem onAxes_axis : (s.onAxes g).axis = g s.axis := rfl
@[simp] theorem onAxes_eye : (s.onAxes g).eye = s.eye := rfl
@[simp] theorem onAxes_cal : (s.onAxes g).cal = s.cal := rfl
@[simp] theorem onAxes_occ : (s.onAxes g).occ = s.occ := rfl
@[simp] theorem onAxes_spl : (s.onAxes g).spl = s.spl := rfl
@[simp] theorem onAxes_mem : (s.onAxes g).mem = s.mem := rfl
@[simp] theorem onAxes_eth : (s.onAxes g).eth = s.eth := rfl
@[simp] theorem onAxes_dma : (s.onAxes g).dma = s.dma := rfl
@[simp] theorem onAxes_ovl : (s.onAxes g).ovl = s.ovl := rfl
@[simp] theorem onAxes_integ : (s.onAxes g).integ = s.integ := rfl
@[simp] theorem onAxes_pmc : (s.onAxes g).pmc = s.pmc := rfl
@[simp] theorem onAxes_gpioIn : (s.onAxes g).gpioIn = s.gpioIn := rfl
@[simp] theorem onAxes_out : (s.onAxes g).out = s.out := rfl
@[simp] theorem onAxes_tick : (s.onAxes g).tick = s.tick := rfl
@[simp] theorem onAxes_free : (s.onAxes g).free = s.free := rfl
@[simp] theorem onAxes_setNow : (s.onAxes g).setNow = s.setNow := rfl
@[simp] theorem onAxes_pending : (s.onAxes g).pending = s.pending := rfl
end

/-! `onEye` -/
section
variable (g : Eyepiece → Eyepiece)
@[simp] theorem onEye_cfg : (s.onEye g).cfg = s.cfg := rfl
@[simp] theorem onEye_sys : (s.onEye g).sys = s.sys := rfl
@[simp] theorem onEye_sdr : (s.onEye g).sdr = s.sdr := rfl
@[simp] theorem onEye_hif : (s.onEye g).hif = s.hif := rfl
@[simp] theorem onEye_fns : (s.onEye g).fns = s.fns := rfl
@[simp] theorem onEye_job : (s.onEye g).job = s.job := rfl
@[simp] theorem onEye_exp : (s.onEye g).exp = s.exp := rfl
@[simp] theorem onEye_bar : (s.onEye g).bar = s.bar := rfl
@[simp] theorem onEye_se : (s.onEye g).se = s.se := rfl
@[simp] theorem onEye_port : (s.onEye g).port = s.port := rfl
@[simp] theorem onEye_hls : (s.onEye g).hls = s.hls := rfl
@[simp] theorem onEye_mer : (s.onEye g).mer = s.mer := rfl
@[simp] theorem onEye_axis : (s.onEye g).axis = s.axis := rfl
@[simp] theorem onEye_eye : (s.onEye g).eye = g s.eye := rfl
@[simp] theorem onEye_cal : (s.onEye g).cal = s.cal := rfl
@[simp] theorem onEye_occ : (s.onEye g).occ = s.occ := rfl
@[simp] theorem onEye_spl : (s.onEye g).spl = s.spl := rfl
@[simp] theorem onEye_mem : (s.onEye g).mem = s.mem := rfl
@[simp] theorem onEye_eth : (s.onEye g).eth = s.eth := rfl
@[simp] theorem onEye_dma : (s.onEye g).dma = s.dma := rfl
@[simp] theorem onEye_ovl : (s.onEye g).ovl = s.ovl := rfl
@[simp] theorem onEye_integ : (s.onEye g).integ = s.integ := rfl
@[simp] theorem onEye_pmc : (s.onEye g).pmc = s.pmc := rfl
@[simp] theorem onEye_gpioIn : (s.onEye g).gpioIn = s.gpioIn := rfl
@[simp] theorem onEye_out : (s.onEye g).out = s.out := rfl
@[simp] theorem onEye_tick : (s.onEye g).tick = s.tick := rfl
@[simp] theorem onEye_free : (s.onEye g).free = s.free := rfl
@[simp] theorem onEye_setNow : (s.onEye g).setNow = s.setNow := rfl
@[simp] theorem onEye_pending : (s.onEye g).pending = s.pending := rfl
end

/-! `onCal` -/
section
variable (g : Calib → Calib)
@[simp] theorem onCal_cfg : (s.onCal g).cfg = s.cfg := rfl
@[simp] theorem onCal_sys : (s.onCal g).sys = s.sys := rfl
@[simp] theorem onCal_sdr : (s.onCal g).sdr = s.sdr := rfl
@[simp] theorem onCal_hif : (s.onCal g).hif = s.hif := rfl
@[simp] theorem onCal_fns : (s.onCal g).fns = s.fns := rfl
@[simp] theorem onCal_job : (s.onCal g).job = s.job := rfl
@[simp] theorem onCal_exp : (s.onCal g).exp = s.exp := rfl
@[simp] theorem onCal_bar : (s.onCal g).bar = s.bar := rfl
@[simp] theorem onCal_se : (s.onCal g).se = s.se := rfl
@[simp] theorem onCal_port : (s.onCal g).port = s.port := rfl
@[simp] theorem onCal_hls : (s.onCal g).hls = s.hls := rfl
@[simp] theorem onCal_mer : (s.onCal g).mer = s.mer := rfl
@[simp] theorem onCal_axis : (s.onCal g).axis = s.axis := rfl
@[simp] theorem onCal_eye : (s.onCal g).eye = s.eye := rfl
@[simp] theorem onCal_cal : (s.onCal g).cal = g s.cal := rfl
@[simp] theorem onCal_occ : (s.onCal g).occ = s.occ := rfl
@[simp] theorem onCal_spl : (s.onCal g).spl = s.spl := rfl
@[simp] theorem onCal_mem : (s.onCal g).mem = s.mem := rfl
@[simp] theorem onCal_eth : (s.onCal g).eth = s.eth := rfl
@[simp] theorem onCal_dma : (s.onCal g).dma = s.dma := rfl
@[simp] theorem onCal_ovl : (s.onCal g).ovl = s.ovl := rfl
@[simp] theorem onCal_integ : (s.onCal g).integ = s.integ := rfl
@[simp] theorem onCal_pmc : (s.onCal g).pmc = s.pmc := rfl
@[simp] theorem onCal_gpioIn : (s.onCal g).gpioIn = s.gpioIn := rfl
@[simp] theorem onCal_out : (s.onCal g).out = s.out := rfl
@[simp] theorem onCal_tick : (s.onCal g).tick = s.tick := rfl
@[simp] theorem onCal_free : (s.onCal g).free = s.free := rfl
@[simp] theorem onCal_setNow : (s.onCal g).setNow = s.setNow := rfl
@[simp] theorem onCal_pending : (s.onCal g).pending = s.pending := rfl
end

/-! `onOcc` -/
section
variable (g : Occulter → Occulter)
@[simp] theorem onOcc_cfg : (s.onOcc g).cfg = s.cfg := rfl
@[simp] theorem onOcc_sys : (s.onOcc g).sys = s.sys := rfl
@[simp] theorem onOcc_sdr : (s.onOcc g).sdr = s.sdr := rfl
@[simp] theorem onOcc_hif : (s.onOcc g).hif = s.hif := rfl
@[simp] theorem onOcc_fns : (s.onOcc g).fns = s.fns := rfl
@[simp] theorem onOcc_job : (s.onOcc g).job = s.job := rfl
@[simp] theorem onOcc_exp : (s.onOcc g).exp = s.exp := rfl
@[simp] theorem onOcc_bar : (s.onOcc g).bar = s.bar := rfl
@[simp] theorem onOcc_se : (s.onOcc g).se = s.se := rfl
@[simp] theorem onOcc_port : (s.onOcc g).port = s.port := rfl
@[simp] theorem onOcc_hls : (s.onOcc g).hls = s.hls := rfl
@[simp] theorem onOcc_mer : (s.onOcc g).mer = s.mer := rfl
@[simp] theorem onOcc_axis : (s.onOcc g).axis = s.axis := rfl
@[simp] theorem onOcc_eye : (s.onOcc g).eye = s.eye := rfl
@[simp] theorem onOcc_cal : (s.onOcc g).cal = s.cal := rfl
@[simp] theorem onOcc_occ : (s.onOcc g).occ = g s.occ := rfl
@[simp] theorem onOcc_spl : (s.onOcc g).spl = s.spl := rfl
@[simp] theorem onOcc_mem : (s.onOcc g).mem = s.mem := rfl
@[simp] theorem onOcc_eth : (s.onOcc g).eth = s.eth := rfl
@[simp] theorem onOcc_dma : (s.onOcc g).dma = s.dma := rfl
@[simp] theorem onOcc_ovl : (s.onOcc g).ovl = s.ovl := rfl
@[simp] theorem onOcc_integ : (s.onOcc g).integ = s.integ := rfl
@[simp] theorem onOcc_pmc : (s.onOcc g).pmc = s.pmc := rfl
@[simp] theorem onOcc_gpioIn : (s.onOcc g).gpioIn = s.gpioIn := rfl
@[simp] theorem onOcc_out : (s.onOcc g).out = s.out := rfl
@[simp] theorem onOcc_tick : (s.onOcc g).tick = s.tick := rfl
@[simp] theorem onOcc_free : (s.onOcc g).free = s.free := rfl
@[simp] theorem onOcc_setNow : (s.onOcc g).setNow = s.setNow := rfl
@[simp] theorem onOcc_pending : (s.onOcc g).pending = s.pending := rfl
end

/-! `onSpl` -/
section
variable (g : Spool → Spool)
@[simp] theorem onSpl_cfg : (s.onSpl g).cfg = s.cfg := rfl
@[simp] theorem onSpl_sys : (s.onSpl g).sys = s.sys := rfl
@[simp] theorem onSpl_sdr : (s.onSpl g).sdr = s.sdr := rfl
@[simp] theorem onSpl_hif : (s.onSpl g).hif = s.hif := rfl
@[simp] theorem onSpl_fns : (s.onSpl g).fns = s.fns := rfl
@[simp] theorem onSpl_job : (s.onSpl g).job = s.job := rfl
@[simp] theorem onSpl_exp : (s.onSpl g).exp = s.exp := rfl
@[simp] theorem onSpl_bar : (s.onSpl g).bar = s.bar := rfl
@[simp] theorem onSpl_se : (s.onSpl g).se = s.se := rfl
@[simp] theorem onSpl_port : (s.onSpl g).port = s.port := rfl
@[simp] theorem onSpl_hls : (s.onSpl g).hls = s.hls := rfl
@[simp] theorem onSpl_mer : (s.onSpl g).mer = s.mer := rfl
@[simp] theorem onSpl_axis : (s.onSpl g).axis = s.axis := rfl
@[simp] theorem onSpl_eye : (s.onSpl g).eye = s.eye := rfl
@[simp] theorem onSpl_cal : (s.onSpl g).cal = s.cal := rfl
@[simp] theorem onSpl_occ : (s.onSpl g).occ = s.occ := rfl
@[simp] theorem onSpl_spl : (s.onSpl g).spl = g s.spl := rfl
@[simp] theorem onSpl_mem : (s.onSpl g).mem = s.mem := rfl
@[simp] theorem onSpl_eth : (s.onSpl g).eth = s.eth := rfl
@[simp] theorem onSpl_dma : (s.onSpl g).dma = s.dma := rfl
@[simp] theorem onSpl_ovl : (s.onSpl g).ovl = s.ovl := rfl
@[simp] theorem onSpl_integ : (s.onSpl g).integ = s.integ := rfl
@[simp] theorem onSpl_pmc : (s.onSpl g).pmc = s.pmc := rfl
@[simp] theorem onSpl_gpioIn : (s.onSpl g).gpioIn = s.gpioIn := rfl
@[simp] theorem onSpl_out : (s.onSpl g).out = s.out := rfl
@[simp] theorem onSpl_tick : (s.onSpl g).tick = s.tick := rfl
@[simp] theorem onSpl_free : (s.onSpl g).free = s.free := rfl
@[simp] theorem onSpl_setNow : (s.onSpl g).setNow = s.setNow := rfl
@[simp] theorem onSpl_pending : (s.onSpl g).pending = s.pending := rfl
end

/-! `onMem` -/
section
variable (g : List Host.Cell → List Host.Cell)
@[simp] theorem onMem_cfg : (s.onMem g).cfg = s.cfg := rfl
@[simp] theorem onMem_sys : (s.onMem g).sys = s.sys := rfl
@[simp] theorem onMem_sdr : (s.onMem g).sdr = s.sdr := rfl
@[simp] theorem onMem_hif : (s.onMem g).hif = s.hif := rfl
@[simp] theorem onMem_fns : (s.onMem g).fns = s.fns := rfl
@[simp] theorem onMem_job : (s.onMem g).job = s.job := rfl
@[simp] theorem onMem_exp : (s.onMem g).exp = s.exp := rfl
@[simp] theorem onMem_bar : (s.onMem g).bar = s.bar := rfl
@[simp] theorem onMem_se : (s.onMem g).se = s.se := rfl
@[simp] theorem onMem_port : (s.onMem g).port = s.port := rfl
@[simp] theorem onMem_hls : (s.onMem g).hls = s.hls := rfl
@[simp] theorem onMem_mer : (s.onMem g).mer = s.mer := rfl
@[simp] theorem onMem_axis : (s.onMem g).axis = s.axis := rfl
@[simp] theorem onMem_eye : (s.onMem g).eye = s.eye := rfl
@[simp] theorem onMem_cal : (s.onMem g).cal = s.cal := rfl
@[simp] theorem onMem_occ : (s.onMem g).occ = s.occ := rfl
@[simp] theorem onMem_spl : (s.onMem g).spl = s.spl := rfl
@[simp] theorem onMem_mem : (s.onMem g).mem = g s.mem := rfl
@[simp] theorem onMem_eth : (s.onMem g).eth = s.eth := rfl
@[simp] theorem onMem_dma : (s.onMem g).dma = s.dma := rfl
@[simp] theorem onMem_ovl : (s.onMem g).ovl = s.ovl := rfl
@[simp] theorem onMem_integ : (s.onMem g).integ = s.integ := rfl
@[simp] theorem onMem_pmc : (s.onMem g).pmc = s.pmc := rfl
@[simp] theorem onMem_gpioIn : (s.onMem g).gpioIn = s.gpioIn := rfl
@[simp] theorem onMem_out : (s.onMem g).out = s.out := rfl
@[simp] theorem onMem_tick : (s.onMem g).tick = s.tick := rfl
@[simp] theorem onMem_free : (s.onMem g).free = s.free := rfl
@[simp] theorem onMem_setNow : (s.onMem g).setNow = s.setNow := rfl
@[simp] theorem onMem_pending : (s.onMem g).pending = s.pending := rfl
end

/-! `onEth` -/
section
variable (g : Ethernet → Ethernet)
@[simp] theorem onEth_cfg : (s.onEth g).cfg = s.cfg := rfl
@[simp] theorem onEth_sys : (s.onEth g).sys = s.sys := rfl
@[simp] theorem onEth_sdr : (s.onEth g).sdr = s.sdr := rfl
@[simp] theorem onEth_hif : (s.onEth g).hif = s.hif := rfl
@[simp] theorem onEth_fns : (s.onEth g).fns = s.fns := rfl
@[simp] theorem onEth_job : (s.onEth g).job = s.job := rfl
@[simp] theorem onEth_exp : (s.onEth g).exp = s.exp := rfl
@[simp] theorem onEth_bar : (s.onEth g).bar = s.bar := rfl
@[simp] theorem onEth_se : (s.onEth g).se = s.se := rfl
@[simp] theorem onEth_port : (s.onEth g).port = s.port := rfl
@[simp] theorem onEth_hls : (s.onEth g).hls = s.hls := rfl
@[simp] theorem onEth_mer : (s.onEth g).mer = s.mer := rfl
@[simp] theorem onEth_axis : (s.onEth g).axis = s.axis := rfl
@[simp] theorem onEth_eye : (s.onEth g).eye = s.eye := rfl
@[simp] theorem onEth_cal : (s.onEth g).cal = s.cal := rfl
@[simp] theorem onEth_occ : (s.onEth g).occ = s.occ := rfl
@[simp] theorem onEth_spl : (s.onEth g).spl = s.spl := rfl
@[simp] theorem onEth_mem : (s.onEth g).mem = s.mem := rfl
@[simp] theorem onEth_eth : (s.onEth g).eth = g s.eth := rfl
@[simp] theorem onEth_dma : (s.onEth g).dma = s.dma := rfl
@[simp] theorem onEth_ovl : (s.onEth g).ovl = s.ovl := rfl
@[simp] theorem onEth_integ : (s.onEth g).integ = s.integ := rfl
@[simp] theorem onEth_pmc : (s.onEth g).pmc = s.pmc := rfl
@[simp] theorem onEth_gpioIn : (s.onEth g).gpioIn = s.gpioIn := rfl
@[simp] theorem onEth_out : (s.onEth g).out = s.out := rfl
@[simp] theorem onEth_tick : (s.onEth g).tick = s.tick := rfl
@[simp] theorem onEth_free : (s.onEth g).free = s.free := rfl
@[simp] theorem onEth_setNow : (s.onEth g).setNow = s.setNow := rfl
@[simp] theorem onEth_pending : (s.onEth g).pending = s.pending := rfl
end

/-! `onDma` -/
section
variable (g : Dma → Dma)
@[simp] theorem onDma_cfg : (s.onDma g).cfg = s.cfg := rfl
@[simp] theorem onDma_sys : (s.onDma g).sys = s.sys := rfl
@[simp] theorem onDma_sdr : (s.onDma g).sdr = s.sdr := rfl
@[simp] theorem onDma_hif : (s.onDma g).hif = s.hif := rfl
@[simp] theorem onDma_fns : (s.onDma g).fns = s.fns := rfl
@[simp] theorem onDma_job : (s.onDma g).job = s.job := rfl
@[simp] theorem onDma_exp : (s.onDma g).exp = s.exp := rfl
@[simp] theorem onDma_bar : (s.onDma g).bar = s.bar := rfl
@[simp] theorem onDma_se : (s.onDma g).se = s.se := rfl
@[simp] theorem onDma_port : (s.onDma g).port = s.port := rfl
@[simp] theorem onDma_hls : (s.onDma g).hls = s.hls := rfl
@[simp] theorem onDma_mer : (s.onDma g).mer = s.mer := rfl
@[simp] theorem onDma_axis : (s.onDma g).axis = s.axis := rfl
@[simp] theorem onDma_eye : (s.onDma g).eye = s.eye := rfl
@[simp] theorem onDma_cal : (s.onDma g).cal = s.cal := rfl
@[simp] theorem onDma_occ : (s.onDma g).occ = s.occ := rfl
@[simp] theorem onDma_spl : (s.onDma g).spl = s.spl := rfl
@[simp] theorem onDma_mem : (s.onDma g).mem = s.mem := rfl
@[simp] theorem onDma_eth : (s.onDma g).eth = s.eth := rfl
@[simp] theorem onDma_dma : (s.onDma g).dma = g s.dma := rfl
@[simp] theorem onDma_ovl : (s.onDma g).ovl = s.ovl := rfl
@[simp] theorem onDma_integ : (s.onDma g).integ = s.integ := rfl
@[simp] theorem onDma_pmc : (s.onDma g).pmc = s.pmc := rfl
@[simp] theorem onDma_gpioIn : (s.onDma g).gpioIn = s.gpioIn := rfl
@[simp] theorem onDma_out : (s.onDma g).out = s.out := rfl
@[simp] theorem onDma_tick : (s.onDma g).tick = s.tick := rfl
@[simp] theorem onDma_free : (s.onDma g).free = s.free := rfl
@[simp] theorem onDma_setNow : (s.onDma g).setNow = s.setNow := rfl
@[simp] theorem onDma_pending : (s.onDma g).pending = s.pending := rfl
end

/-! `onOvl` -/
section
variable (g : Overlay → Overlay)
@[simp] theorem onOvl_cfg : (s.onOvl g).cfg = s.cfg := rfl
@[simp] theorem onOvl_sys : (s.onOvl g).sys = s.sys := rfl
@[simp] theorem onOvl_sdr : (s.onOvl g).sdr = s.sdr := rfl
@[simp] theorem onOvl_hif : (s.onOvl g).hif = s.hif := rfl
@[simp] theorem onOvl_fns : (s.onOvl g).fns = s.fns := rfl
@[simp] theorem onOvl_job : (s.onOvl g).job = s.job := rfl
@[simp] theorem onOvl_exp : (s.onOvl g).exp = s.exp := rfl
@[simp] theorem onOvl_bar : (s.onOvl g).bar = s.bar := rfl
@[simp] theorem onOvl_se : (s.onOvl g).se = s.se := rfl
@[simp] theorem onOvl_port : (s.onOvl g).port = s.port := rfl
@[simp] theorem onOvl_hls : (s.onOvl g).hls = s.hls := rfl
@[simp] theorem onOvl_mer : (s.onOvl g).mer = s.mer := rfl
@[simp] theorem onOvl_axis : (s.onOvl g).axis = s.axis := rfl
@[simp] theorem onOvl_eye : (s.onOvl g).eye = s.eye := rfl
@[simp] theorem onOvl_cal : (s.onOvl g).cal = s.cal := rfl
@[simp] theorem onOvl_occ : (s.onOvl g).occ = s.occ := rfl
@[simp] theorem onOvl_spl : (s.onOvl g).spl = s.spl := rfl
@[simp] theorem onOvl_mem : (s.onOvl g).mem = s.mem := rfl
@[simp] theorem onOvl_eth : (s.onOvl g).eth = s.eth := rfl
@[simp] theorem onOvl_dma : (s.onOvl g).dma = s.dma := rfl
@[simp] theorem onOvl_ovl : (s.onOvl g).ovl = g s.ovl := rfl
@[simp] theorem onOvl_integ : (s.onOvl g).integ = s.integ := rfl
@[simp] theorem onOvl_pmc : (s.onOvl g).pmc = s.pmc := rfl
@[simp] theorem onOvl_gpioIn : (s.onOvl g).gpioIn = s.gpioIn := rfl
@[simp] theorem onOvl_out : (s.onOvl g).out = s.out := rfl
@[simp] theorem onOvl_tick : (s.onOvl g).tick = s.tick := rfl
@[simp] theorem onOvl_free : (s.onOvl g).free = s.free := rfl
@[simp] theorem onOvl_setNow : (s.onOvl g).setNow = s.setNow := rfl
@[simp] theorem onOvl_pending : (s.onOvl g).pending = s.pending := rfl
end

/-! `onInteg` -/
section
variable (g : Integrity → Integrity)
@[simp] theorem onInteg_cfg : (s.onInteg g).cfg = s.cfg := rfl
@[simp] theorem onInteg_sys : (s.onInteg g).sys = s.sys := rfl
@[simp] theorem onInteg_sdr : (s.onInteg g).sdr = s.sdr := rfl
@[simp] theorem onInteg_hif : (s.onInteg g).hif = s.hif := rfl
@[simp] theorem onInteg_fns : (s.onInteg g).fns = s.fns := rfl
@[simp] theorem onInteg_job : (s.onInteg g).job = s.job := rfl
@[simp] theorem onInteg_exp : (s.onInteg g).exp = s.exp := rfl
@[simp] theorem onInteg_bar : (s.onInteg g).bar = s.bar := rfl
@[simp] theorem onInteg_se : (s.onInteg g).se = s.se := rfl
@[simp] theorem onInteg_port : (s.onInteg g).port = s.port := rfl
@[simp] theorem onInteg_hls : (s.onInteg g).hls = s.hls := rfl
@[simp] theorem onInteg_mer : (s.onInteg g).mer = s.mer := rfl
@[simp] theorem onInteg_axis : (s.onInteg g).axis = s.axis := rfl
@[simp] theorem onInteg_eye : (s.onInteg g).eye = s.eye := rfl
@[simp] theorem onInteg_cal : (s.onInteg g).cal = s.cal := rfl
@[simp] theorem onInteg_occ : (s.onInteg g).occ = s.occ := rfl
@[simp] theorem onInteg_spl : (s.onInteg g).spl = s.spl := rfl
@[simp] theorem onInteg_mem : (s.onInteg g).mem = s.mem := rfl
@[simp] theorem onInteg_eth : (s.onInteg g).eth = s.eth := rfl
@[simp] theorem onInteg_dma : (s.onInteg g).dma = s.dma := rfl
@[simp] theorem onInteg_ovl : (s.onInteg g).ovl = s.ovl := rfl
@[simp] theorem onInteg_integ : (s.onInteg g).integ = g s.integ := rfl
@[simp] theorem onInteg_pmc : (s.onInteg g).pmc = s.pmc := rfl
@[simp] theorem onInteg_gpioIn : (s.onInteg g).gpioIn = s.gpioIn := rfl
@[simp] theorem onInteg_out : (s.onInteg g).out = s.out := rfl
@[simp] theorem onInteg_tick : (s.onInteg g).tick = s.tick := rfl
@[simp] theorem onInteg_free : (s.onInteg g).free = s.free := rfl
@[simp] theorem onInteg_setNow : (s.onInteg g).setNow = s.setNow := rfl
@[simp] theorem onInteg_pending : (s.onInteg g).pending = s.pending := rfl
end

/-! `onPmc` -/
section
variable (g : Pmc → Pmc)
@[simp] theorem onPmc_cfg : (s.onPmc g).cfg = s.cfg := rfl
@[simp] theorem onPmc_sys : (s.onPmc g).sys = s.sys := rfl
@[simp] theorem onPmc_sdr : (s.onPmc g).sdr = s.sdr := rfl
@[simp] theorem onPmc_hif : (s.onPmc g).hif = s.hif := rfl
@[simp] theorem onPmc_fns : (s.onPmc g).fns = s.fns := rfl
@[simp] theorem onPmc_job : (s.onPmc g).job = s.job := rfl
@[simp] theorem onPmc_exp : (s.onPmc g).exp = s.exp := rfl
@[simp] theorem onPmc_bar : (s.onPmc g).bar = s.bar := rfl
@[simp] theorem onPmc_se : (s.onPmc g).se = s.se := rfl
@[simp] theorem onPmc_port : (s.onPmc g).port = s.port := rfl
@[simp] theorem onPmc_hls : (s.onPmc g).hls = s.hls := rfl
@[simp] theorem onPmc_mer : (s.onPmc g).mer = s.mer := rfl
@[simp] theorem onPmc_axis : (s.onPmc g).axis = s.axis := rfl
@[simp] theorem onPmc_eye : (s.onPmc g).eye = s.eye := rfl
@[simp] theorem onPmc_cal : (s.onPmc g).cal = s.cal := rfl
@[simp] theorem onPmc_occ : (s.onPmc g).occ = s.occ := rfl
@[simp] theorem onPmc_spl : (s.onPmc g).spl = s.spl := rfl
@[simp] theorem onPmc_mem : (s.onPmc g).mem = s.mem := rfl
@[simp] theorem onPmc_eth : (s.onPmc g).eth = s.eth := rfl
@[simp] theorem onPmc_dma : (s.onPmc g).dma = s.dma := rfl
@[simp] theorem onPmc_ovl : (s.onPmc g).ovl = s.ovl := rfl
@[simp] theorem onPmc_integ : (s.onPmc g).integ = s.integ := rfl
@[simp] theorem onPmc_pmc : (s.onPmc g).pmc = g s.pmc := rfl
@[simp] theorem onPmc_gpioIn : (s.onPmc g).gpioIn = s.gpioIn := rfl
@[simp] theorem onPmc_out : (s.onPmc g).out = s.out := rfl
@[simp] theorem onPmc_tick : (s.onPmc g).tick = s.tick := rfl
@[simp] theorem onPmc_free : (s.onPmc g).free = s.free := rfl
@[simp] theorem onPmc_setNow : (s.onPmc g).setNow = s.setNow := rfl
@[simp] theorem onPmc_pending : (s.onPmc g).pending = s.pending := rfl
end

/-! `onOut` -/
section
variable (g : List Output → List Output)
@[simp] theorem onOut_cfg : (s.onOut g).cfg = s.cfg := rfl
@[simp] theorem onOut_sys : (s.onOut g).sys = s.sys := rfl
@[simp] theorem onOut_sdr : (s.onOut g).sdr = s.sdr := rfl
@[simp] theorem onOut_hif : (s.onOut g).hif = s.hif := rfl
@[simp] theorem onOut_fns : (s.onOut g).fns = s.fns := rfl
@[simp] theorem onOut_job : (s.onOut g).job = s.job := rfl
@[simp] theorem onOut_exp : (s.onOut g).exp = s.exp := rfl
@[simp] theorem onOut_bar : (s.onOut g).bar = s.bar := rfl
@[simp] theorem onOut_se : (s.onOut g).se = s.se := rfl
@[simp] theorem onOut_port : (s.onOut g).port = s.port := rfl
@[simp] theorem onOut_hls : (s.onOut g).hls = s.hls := rfl
@[simp] theorem onOut_mer : (s.onOut g).mer = s.mer := rfl
@[simp] theorem onOut_axis : (s.onOut g).axis = s.axis := rfl
@[simp] theorem onOut_eye : (s.onOut g).eye = s.eye := rfl
@[simp] theorem onOut_cal : (s.onOut g).cal = s.cal := rfl
@[simp] theorem onOut_occ : (s.onOut g).occ = s.occ := rfl
@[simp] theorem onOut_spl : (s.onOut g).spl = s.spl := rfl
@[simp] theorem onOut_mem : (s.onOut g).mem = s.mem := rfl
@[simp] theorem onOut_eth : (s.onOut g).eth = s.eth := rfl
@[simp] theorem onOut_dma : (s.onOut g).dma = s.dma := rfl
@[simp] theorem onOut_ovl : (s.onOut g).ovl = s.ovl := rfl
@[simp] theorem onOut_integ : (s.onOut g).integ = s.integ := rfl
@[simp] theorem onOut_pmc : (s.onOut g).pmc = s.pmc := rfl
@[simp] theorem onOut_gpioIn : (s.onOut g).gpioIn = s.gpioIn := rfl
@[simp] theorem onOut_out : (s.onOut g).out = g s.out := rfl
@[simp] theorem onOut_tick : (s.onOut g).tick = s.tick := rfl
@[simp] theorem onOut_free : (s.onOut g).free = s.free := rfl
@[simp] theorem onOut_setNow : (s.onOut g).setNow = s.setNow := rfl
@[simp] theorem onOut_pending : (s.onOut g).pending = s.pending := rfl
end

/-! `onFree` -/
section
variable (g : Nat → Nat)
@[simp] theorem onFree_cfg : (s.onFree g).cfg = s.cfg := rfl
@[simp] theorem onFree_sys : (s.onFree g).sys = s.sys := rfl
@[simp] theorem onFree_sdr : (s.onFree g).sdr = s.sdr := rfl
@[simp] theorem onFree_hif : (s.onFree g).hif = s.hif := rfl
@[simp] theorem onFree_fns : (s.onFree g).fns = s.fns := rfl
@[simp] theorem onFree_job : (s.onFree g).job = s.job := rfl
@[simp] theorem onFree_exp : (s.onFree g).exp = s.exp := rfl
@[simp] theorem onFree_bar : (s.onFree g).bar = s.bar := rfl
@[simp] theorem onFree_se : (s.onFree g).se = s.se := rfl
@[simp] theorem onFree_port : (s.onFree g).port = s.port := rfl
@[simp] theorem onFree_hls : (s.onFree g).hls = s.hls := rfl
@[simp] theorem onFree_mer : (s.onFree g).mer = s.mer := rfl
@[simp] theorem onFree_axis : (s.onFree g).axis = s.axis := rfl
@[simp] theorem onFree_eye : (s.onFree g).eye = s.eye := rfl
@[simp] theorem onFree_cal : (s.onFree g).cal = s.cal := rfl
@[simp] theorem onFree_occ : (s.onFree g).occ = s.occ := rfl
@[simp] theorem onFree_spl : (s.onFree g).spl = s.spl := rfl
@[simp] theorem onFree_mem : (s.onFree g).mem = s.mem := rfl
@[simp] theorem onFree_eth : (s.onFree g).eth = s.eth := rfl
@[simp] theorem onFree_dma : (s.onFree g).dma = s.dma := rfl
@[simp] theorem onFree_ovl : (s.onFree g).ovl = s.ovl := rfl
@[simp] theorem onFree_integ : (s.onFree g).integ = s.integ := rfl
@[simp] theorem onFree_pmc : (s.onFree g).pmc = s.pmc := rfl
@[simp] theorem onFree_gpioIn : (s.onFree g).gpioIn = s.gpioIn := rfl
@[simp] theorem onFree_out : (s.onFree g).out = s.out := rfl
@[simp] theorem onFree_tick : (s.onFree g).tick = s.tick := rfl
@[simp] theorem onFree_free : (s.onFree g).free = g s.free := rfl
@[simp] theorem onFree_setNow : (s.onFree g).setNow = s.setNow := rfl
@[simp] theorem onFree_pending : (s.onFree g).pending = s.pending := rfl
end

/-! `onTick` -/
section
variable (g : Nat → Nat)
@[simp] theorem onTick_cfg : (s.onTick g).cfg = s.cfg := rfl
@[simp] theorem onTick_sys : (s.onTick g).sys = s.sys := rfl
@[simp] theorem onTick_sdr : (s.onTick g).sdr = s.sdr := rfl
@[simp] theorem onTick_hif : (s.onTick g).hif = s.hif := rfl
@[simp] theorem onTick_fns : (s.onTick g).fns = s.fns := rfl
@[simp] theorem onTick_job : (s.onTick g).job = s.job := rfl
@[simp] theorem onTick_exp : (s.onTick g).exp = s.exp := rfl
@[simp] theorem onTick_bar : (s.onTick g).bar = s.bar := rfl
@[simp] theorem onTick_se : (s.onTick g).se = s.se := rfl
@[simp] theorem onTick_port : (s.onTick g).port = s.port := rfl
@[simp] theorem onTick_hls : (s.onTick g).hls = s.hls := rfl
@[simp] theorem onTick_mer : (s.onTick g).mer = s.mer := rfl
@[simp] theorem onTick_axis : (s.onTick g).axis = s.axis := rfl
@[simp] theorem onTick_eye : (s.onTick g).eye = s.eye := rfl
@[simp] theorem onTick_cal : (s.onTick g).cal = s.cal := rfl
@[simp] theorem onTick_occ : (s.onTick g).occ = s.occ := rfl
@[simp] theorem onTick_spl : (s.onTick g).spl = s.spl := rfl
@[simp] theorem onTick_mem : (s.onTick g).mem = s.mem := rfl
@[simp] theorem onTick_eth : (s.onTick g).eth = s.eth := rfl
@[simp] theorem onTick_dma : (s.onTick g).dma = s.dma := rfl
@[simp] theorem onTick_ovl : (s.onTick g).ovl = s.ovl := rfl
@[simp] theorem onTick_integ : (s.onTick g).integ = s.integ := rfl
@[simp] theorem onTick_pmc : (s.onTick g).pmc = s.pmc := rfl
@[simp] theorem onTick_gpioIn : (s.onTick g).gpioIn = s.gpioIn := rfl
@[simp] theorem onTick_out : (s.onTick g).out = s.out := rfl
@[simp] theorem onTick_tick : (s.onTick g).tick = g s.tick := rfl
@[simp] theorem onTick_free : (s.onTick g).free = s.free := rfl
@[simp] theorem onTick_setNow : (s.onTick g).setNow = s.setNow := rfl
@[simp] theorem onTick_pending : (s.onTick g).pending = s.pending := rfl
end

/-! `onSetNow` -/
section
variable (g : List Nat → List Nat)
@[simp] theorem onSetNow_cfg : (s.onSetNow g).cfg = s.cfg := rfl
@[simp] theorem onSetNow_sys : (s.onSetNow g).sys = s.sys := rfl
@[simp] theorem onSetNow_sdr : (s.onSetNow g).sdr = s.sdr := rfl
@[simp] theorem onSetNow_hif : (s.onSetNow g).hif = s.hif := rfl
@[simp] theorem onSetNow_fns : (s.onSetNow g).fns = s.fns := rfl
@[simp] theorem onSetNow_job : (s.onSetNow g).job = s.job := rfl
@[simp] theorem onSetNow_exp : (s.onSetNow g).exp = s.exp := rfl
@[simp] theorem onSetNow_bar : (s.onSetNow g).bar = s.bar := rfl
@[simp] theorem onSetNow_se : (s.onSetNow g).se = s.se := rfl
@[simp] theorem onSetNow_port : (s.onSetNow g).port = s.port := rfl
@[simp] theorem onSetNow_hls : (s.onSetNow g).hls = s.hls := rfl
@[simp] theorem onSetNow_mer : (s.onSetNow g).mer = s.mer := rfl
@[simp] theorem onSetNow_axis : (s.onSetNow g).axis = s.axis := rfl
@[simp] theorem onSetNow_eye : (s.onSetNow g).eye = s.eye := rfl
@[simp] theorem onSetNow_cal : (s.onSetNow g).cal = s.cal := rfl
@[simp] theorem onSetNow_occ : (s.onSetNow g).occ = s.occ := rfl
@[simp] theorem onSetNow_spl : (s.onSetNow g).spl = s.spl := rfl
@[simp] theorem onSetNow_mem : (s.onSetNow g).mem = s.mem := rfl
@[simp] theorem onSetNow_eth : (s.onSetNow g).eth = s.eth := rfl
@[simp] theorem onSetNow_dma : (s.onSetNow g).dma = s.dma := rfl
@[simp] theorem onSetNow_ovl : (s.onSetNow g).ovl = s.ovl := rfl
@[simp] theorem onSetNow_integ : (s.onSetNow g).integ = s.integ := rfl
@[simp] theorem onSetNow_pmc : (s.onSetNow g).pmc = s.pmc := rfl
@[simp] theorem onSetNow_gpioIn : (s.onSetNow g).gpioIn = s.gpioIn := rfl
@[simp] theorem onSetNow_out : (s.onSetNow g).out = s.out := rfl
@[simp] theorem onSetNow_tick : (s.onSetNow g).tick = s.tick := rfl
@[simp] theorem onSetNow_free : (s.onSetNow g).free = s.free := rfl
@[simp] theorem onSetNow_setNow : (s.onSetNow g).setNow = g s.setNow := rfl
@[simp] theorem onSetNow_pending : (s.onSetNow g).pending = s.pending := rfl
end

/-! `onGpio` -/
section
variable (g : Word → Word)
@[simp] theorem onGpio_cfg : (s.onGpio g).cfg = s.cfg := rfl
@[simp] theorem onGpio_sys : (s.onGpio g).sys = s.sys := rfl
@[simp] theorem onGpio_sdr : (s.onGpio g).sdr = s.sdr := rfl
@[simp] theorem onGpio_hif : (s.onGpio g).hif = s.hif := rfl
@[simp] theorem onGpio_fns : (s.onGpio g).fns = s.fns := rfl
@[simp] theorem onGpio_job : (s.onGpio g).job = s.job := rfl
@[simp] theorem onGpio_exp : (s.onGpio g).exp = s.exp := rfl
@[simp] theorem onGpio_bar : (s.onGpio g).bar = s.bar := rfl
@[simp] theorem onGpio_se : (s.onGpio g).se = s.se := rfl
@[simp] theorem onGpio_port : (s.onGpio g).port = s.port := rfl
@[simp] theorem onGpio_hls : (s.onGpio g).hls = s.hls := rfl
@[simp] theorem onGpio_mer : (s.onGpio g).mer = s.mer := rfl
@[simp] theorem onGpio_axis : (s.onGpio g).axis = s.axis := rfl
@[simp] theorem onGpio_eye : (s.onGpio g).eye = s.eye := rfl
@[simp] theorem onGpio_cal : (s.onGpio g).cal = s.cal := rfl
@[simp] theorem onGpio_occ : (s.onGpio g).occ = s.occ := rfl
@[simp] theorem onGpio_spl : (s.onGpio g).spl = s.spl := rfl
@[simp] theorem onGpio_mem : (s.onGpio g).mem = s.mem := rfl
@[simp] theorem onGpio_eth : (s.onGpio g).eth = s.eth := rfl
@[simp] theorem onGpio_dma : (s.onGpio g).dma = s.dma := rfl
@[simp] theorem onGpio_ovl : (s.onGpio g).ovl = s.ovl := rfl
@[simp] theorem onGpio_integ : (s.onGpio g).integ = s.integ := rfl
@[simp] theorem onGpio_pmc : (s.onGpio g).pmc = s.pmc := rfl
@[simp] theorem onGpio_gpioIn : (s.onGpio g).gpioIn = g s.gpioIn := rfl
@[simp] theorem onGpio_out : (s.onGpio g).out = s.out := rfl
@[simp] theorem onGpio_tick : (s.onGpio g).tick = s.tick := rfl
@[simp] theorem onGpio_free : (s.onGpio g).free = s.free := rfl
@[simp] theorem onGpio_setNow : (s.onGpio g).setNow = s.setNow := rfl
@[simp] theorem onGpio_pending : (s.onGpio g).pending = s.pending := rfl
end

/-! `onRing` -/
section
variable (r : RingIx) (g : Ring → Ring)
@[simp] theorem onRing_cfg : (s.onRing r g).cfg = s.cfg := rfl
@[simp] theorem onRing_sys : (s.onRing r g).sys = s.sys := rfl
@[simp] theorem onRing_sdr : (s.onRing r g).sdr = s.sdr := rfl
@[simp] theorem onRing_fns : (s.onRing r g).fns = s.fns := rfl
@[simp] theorem onRing_job : (s.onRing r g).job = s.job := rfl
@[simp] theorem onRing_exp : (s.onRing r g).exp = s.exp := rfl
@[simp] theorem onRing_bar : (s.onRing r g).bar = s.bar := rfl
@[simp] theorem onRing_se : (s.onRing r g).se = s.se := rfl
@[simp] theorem onRing_port : (s.onRing r g).port = s.port := rfl
@[simp] theorem onRing_hls : (s.onRing r g).hls = s.hls := rfl
@[simp] theorem onRing_mer : (s.onRing r g).mer = s.mer := rfl
@[simp] theorem onRing_axis : (s.onRing r g).axis = s.axis := rfl
@[simp] theorem onRing_eye : (s.onRing r g).eye = s.eye := rfl
@[simp] theorem onRing_cal : (s.onRing r g).cal = s.cal := rfl
@[simp] theorem onRing_occ : (s.onRing r g).occ = s.occ := rfl
@[simp] theorem onRing_spl : (s.onRing r g).spl = s.spl := rfl
@[simp] theorem onRing_mem : (s.onRing r g).mem = s.mem := rfl
@[simp] theorem onRing_eth : (s.onRing r g).eth = s.eth := rfl
@[simp] theorem onRing_dma : (s.onRing r g).dma = s.dma := rfl
@[simp] theorem onRing_ovl : (s.onRing r g).ovl = s.ovl := rfl
@[simp] theorem onRing_integ : (s.onRing r g).integ = s.integ := rfl
@[simp] theorem onRing_pmc : (s.onRing r g).pmc = s.pmc := rfl
@[simp] theorem onRing_gpioIn : (s.onRing r g).gpioIn = s.gpioIn := rfl
@[simp] theorem onRing_out : (s.onRing r g).out = s.out := rfl
@[simp] theorem onRing_tick : (s.onRing r g).tick = s.tick := rfl
@[simp] theorem onRing_free : (s.onRing r g).free = s.free := rfl
@[simp] theorem onRing_setNow : (s.onRing r g).setNow = s.setNow := rfl
@[simp] theorem onRing_pending : (s.onRing r g).pending = s.pending := rfl
end

/-! `onBar` -/
section
variable (k : BarIx) (g : Bar → Bar)
@[simp] theorem onBar_cfg : (s.onBar k g).cfg = s.cfg := rfl
@[simp] theorem onBar_sys : (s.onBar k g).sys = s.sys := rfl
@[simp] theorem onBar_sdr : (s.onBar k g).sdr = s.sdr := rfl
@[simp] theorem onBar_hif : (s.onBar k g).hif = s.hif := rfl
@[simp] theorem onBar_fns : (s.onBar k g).fns = s.fns := rfl
@[simp] theorem onBar_job : (s.onBar k g).job = s.job := rfl
@[simp] theorem onBar_exp : (s.onBar k g).exp = s.exp := rfl
@[simp] theorem onBar_se : (s.onBar k g).se = s.se := rfl
@[simp] theorem onBar_port : (s.onBar k g).port = s.port := rfl
@[simp] theorem onBar_hls : (s.onBar k g).hls = s.hls := rfl
@[simp] theorem onBar_mer : (s.onBar k g).mer = s.mer := rfl
@[simp] theorem onBar_axis : (s.onBar k g).axis = s.axis := rfl
@[simp] theorem onBar_eye : (s.onBar k g).eye = s.eye := rfl
@[simp] theorem onBar_cal : (s.onBar k g).cal = s.cal := rfl
@[simp] theorem onBar_occ : (s.onBar k g).occ = s.occ := rfl
@[simp] theorem onBar_spl : (s.onBar k g).spl = s.spl := rfl
@[simp] theorem onBar_mem : (s.onBar k g).mem = s.mem := rfl
@[simp] theorem onBar_eth : (s.onBar k g).eth = s.eth := rfl
@[simp] theorem onBar_dma : (s.onBar k g).dma = s.dma := rfl
@[simp] theorem onBar_ovl : (s.onBar k g).ovl = s.ovl := rfl
@[simp] theorem onBar_integ : (s.onBar k g).integ = s.integ := rfl
@[simp] theorem onBar_pmc : (s.onBar k g).pmc = s.pmc := rfl
@[simp] theorem onBar_gpioIn : (s.onBar k g).gpioIn = s.gpioIn := rfl
@[simp] theorem onBar_out : (s.onBar k g).out = s.out := rfl
@[simp] theorem onBar_tick : (s.onBar k g).tick = s.tick := rfl
@[simp] theorem onBar_free : (s.onBar k g).free = s.free := rfl
@[simp] theorem onBar_setNow : (s.onBar k g).setNow = s.setNow := rfl
@[simp] theorem onBar_pending : (s.onBar k g).pending = s.pending := rfl
end

/-! `onPort` -/
section
variable (p : PortIx) (g : Port → Port)
@[simp] theorem onPort_cfg : (s.onPort p g).cfg = s.cfg := rfl
@[simp] theorem onPort_sys : (s.onPort p g).sys = s.sys := rfl
@[simp] theorem onPort_sdr : (s.onPort p g).sdr = s.sdr := rfl
@[simp] theorem onPort_hif : (s.onPort p g).hif = s.hif := rfl
@[simp] theorem onPort_fns : (s.onPort p g).fns = s.fns := rfl
@[simp] theorem onPort_job : (s.onPort p g).job = s.job := rfl
@[simp] theorem onPort_exp : (s.onPort p g).exp = s.exp := rfl
@[simp] theorem onPort_bar : (s.onPort p g).bar = s.bar := rfl
@[simp] theorem onPort_se : (s.onPort p g).se = s.se := rfl
@[simp] theorem onPort_hls : (s.onPort p g).hls = s.hls := rfl
@[simp] theorem onPort_mer : (s.onPort p g).mer = s.mer := rfl
@[simp] theorem onPort_axis : (s.onPort p g).axis = s.axis := rfl
@[simp] theorem onPort_eye : (s.onPort p g).eye = s.eye := rfl
@[simp] theorem onPort_cal : (s.onPort p g).cal = s.cal := rfl
@[simp] theorem onPort_occ : (s.onPort p g).occ = s.occ := rfl
@[simp] theorem onPort_spl : (s.onPort p g).spl = s.spl := rfl
@[simp] theorem onPort_mem : (s.onPort p g).mem = s.mem := rfl
@[simp] theorem onPort_eth : (s.onPort p g).eth = s.eth := rfl
@[simp] theorem onPort_dma : (s.onPort p g).dma = s.dma := rfl
@[simp] theorem onPort_ovl : (s.onPort p g).ovl = s.ovl := rfl
@[simp] theorem onPort_integ : (s.onPort p g).integ = s.integ := rfl
@[simp] theorem onPort_pmc : (s.onPort p g).pmc = s.pmc := rfl
@[simp] theorem onPort_gpioIn : (s.onPort p g).gpioIn = s.gpioIn := rfl
@[simp] theorem onPort_out : (s.onPort p g).out = s.out := rfl
@[simp] theorem onPort_tick : (s.onPort p g).tick = s.tick := rfl
@[simp] theorem onPort_free : (s.onPort p g).free = s.free := rfl
@[simp] theorem onPort_setNow : (s.onPort p g).setNow = s.setNow := rfl
@[simp] theorem onPort_pending : (s.onPort p g).pending = s.pending := rfl
end

/-! `onAxis` -/
section
variable (x : AxisIx) (g : Axis → Axis)
@[simp] theorem onAxis_cfg : (s.onAxis x g).cfg = s.cfg := rfl
@[simp] theorem onAxis_sys : (s.onAxis x g).sys = s.sys := rfl
@[simp] theorem onAxis_sdr : (s.onAxis x g).sdr = s.sdr := rfl
@[simp] theorem onAxis_hif : (s.onAxis x g).hif = s.hif := rfl
@[simp] theorem onAxis_fns : (s.onAxis x g).fns = s.fns := rfl
@[simp] theorem onAxis_job : (s.onAxis x g).job = s.job := rfl
@[simp] theorem onAxis_exp : (s.onAxis x g).exp = s.exp := rfl
@[simp] theorem onAxis_bar : (s.onAxis x g).bar = s.bar := rfl
@[simp] theorem onAxis_se : (s.onAxis x g).se = s.se := rfl
@[simp] theorem onAxis_port : (s.onAxis x g).port = s.port := rfl
@[simp] theorem onAxis_hls : (s.onAxis x g).hls = s.hls := rfl
@[simp] theorem onAxis_mer : (s.onAxis x g).mer = s.mer := rfl
@[simp] theorem onAxis_eye : (s.onAxis x g).eye = s.eye := rfl
@[simp] theorem onAxis_cal : (s.onAxis x g).cal = s.cal := rfl
@[simp] theorem onAxis_occ : (s.onAxis x g).occ = s.occ := rfl
@[simp] theorem onAxis_spl : (s.onAxis x g).spl = s.spl := rfl
@[simp] theorem onAxis_mem : (s.onAxis x g).mem = s.mem := rfl
@[simp] theorem onAxis_eth : (s.onAxis x g).eth = s.eth := rfl
@[simp] theorem onAxis_dma : (s.onAxis x g).dma = s.dma := rfl
@[simp] theorem onAxis_ovl : (s.onAxis x g).ovl = s.ovl := rfl
@[simp] theorem onAxis_integ : (s.onAxis x g).integ = s.integ := rfl
@[simp] theorem onAxis_pmc : (s.onAxis x g).pmc = s.pmc := rfl
@[simp] theorem onAxis_gpioIn : (s.onAxis x g).gpioIn = s.gpioIn := rfl
@[simp] theorem onAxis_out : (s.onAxis x g).out = s.out := rfl
@[simp] theorem onAxis_tick : (s.onAxis x g).tick = s.tick := rfl
@[simp] theorem onAxis_free : (s.onAxis x g).free = s.free := rfl
@[simp] theorem onAxis_setNow : (s.onAxis x g).setNow = s.setNow := rfl
@[simp] theorem onAxis_pending : (s.onAxis x g).pending = s.pending := rfl
end

/-! `onCam` -/
section
variable (c : CamIx) (g : Camera → Camera)
@[simp] theorem onCam_cfg : (s.onCam c g).cfg = s.cfg := rfl
@[simp] theorem onCam_sys : (s.onCam c g).sys = s.sys := rfl
@[simp] theorem onCam_sdr : (s.onCam c g).sdr = s.sdr := rfl
@[simp] theorem onCam_hif : (s.onCam c g).hif = s.hif := rfl
@[simp] theorem onCam_fns : (s.onCam c g).fns = s.fns := rfl
@[simp] theorem onCam_job : (s.onCam c g).job = s.job := rfl
@[simp] theorem onCam_exp : (s.onCam c g).exp = s.exp := rfl
@[simp] theorem onCam_bar : (s.onCam c g).bar = s.bar := rfl
@[simp] theorem onCam_se : (s.onCam c g).se = s.se := rfl
@[simp] theorem onCam_port : (s.onCam c g).port = s.port := rfl
@[simp] theorem onCam_hls : (s.onCam c g).hls = s.hls := rfl
@[simp] theorem onCam_mer : (s.onCam c g).mer = s.mer := rfl
@[simp] theorem onCam_axis : (s.onCam c g).axis = s.axis := rfl
@[simp] theorem onCam_cal : (s.onCam c g).cal = s.cal := rfl
@[simp] theorem onCam_occ : (s.onCam c g).occ = s.occ := rfl
@[simp] theorem onCam_spl : (s.onCam c g).spl = s.spl := rfl
@[simp] theorem onCam_mem : (s.onCam c g).mem = s.mem := rfl
@[simp] theorem onCam_eth : (s.onCam c g).eth = s.eth := rfl
@[simp] theorem onCam_dma : (s.onCam c g).dma = s.dma := rfl
@[simp] theorem onCam_ovl : (s.onCam c g).ovl = s.ovl := rfl
@[simp] theorem onCam_integ : (s.onCam c g).integ = s.integ := rfl
@[simp] theorem onCam_pmc : (s.onCam c g).pmc = s.pmc := rfl
@[simp] theorem onCam_gpioIn : (s.onCam c g).gpioIn = s.gpioIn := rfl
@[simp] theorem onCam_out : (s.onCam c g).out = s.out := rfl
@[simp] theorem onCam_tick : (s.onCam c g).tick = s.tick := rfl
@[simp] theorem onCam_free : (s.onCam c g).free = s.free := rfl
@[simp] theorem onCam_setNow : (s.onCam c g).setNow = s.setNow := rfl
@[simp] theorem onCam_pending : (s.onCam c g).pending = s.pending := rfl
end

/-! `onEnc` -/
section
variable (m : EncIx) (g : Encoder → Encoder)
@[simp] theorem onEnc_cfg : (s.onEnc m g).cfg = s.cfg := rfl
@[simp] theorem onEnc_sys : (s.onEnc m g).sys = s.sys := rfl
@[simp] theorem onEnc_sdr : (s.onEnc m g).sdr = s.sdr := rfl
@[simp] theorem onEnc_hif : (s.onEnc m g).hif = s.hif := rfl
@[simp] theorem onEnc_fns : (s.onEnc m g).fns = s.fns := rfl
@[simp] theorem onEnc_job : (s.onEnc m g).job = s.job := rfl
@[simp] theorem onEnc_exp : (s.onEnc m g).exp = s.exp := rfl
@[simp] theorem onEnc_bar : (s.onEnc m g).bar = s.bar := rfl
@[simp] theorem onEnc_se : (s.onEnc m g).se = s.se := rfl
@[simp] theorem onEnc_port : (s.onEnc m g).port = s.port := rfl
@[simp] theorem onEnc_mer : (s.onEnc m g).mer = s.mer := rfl
@[simp] theorem onEnc_axis : (s.onEnc m g).axis = s.axis := rfl
@[simp] theorem onEnc_eye : (s.onEnc m g).eye = s.eye := rfl
@[simp] theorem onEnc_cal : (s.onEnc m g).cal = s.cal := rfl
@[simp] theorem onEnc_occ : (s.onEnc m g).occ = s.occ := rfl
@[simp] theorem onEnc_spl : (s.onEnc m g).spl = s.spl := rfl
@[simp] theorem onEnc_mem : (s.onEnc m g).mem = s.mem := rfl
@[simp] theorem onEnc_eth : (s.onEnc m g).eth = s.eth := rfl
@[simp] theorem onEnc_dma : (s.onEnc m g).dma = s.dma := rfl
@[simp] theorem onEnc_ovl : (s.onEnc m g).ovl = s.ovl := rfl
@[simp] theorem onEnc_integ : (s.onEnc m g).integ = s.integ := rfl
@[simp] theorem onEnc_pmc : (s.onEnc m g).pmc = s.pmc := rfl
@[simp] theorem onEnc_gpioIn : (s.onEnc m g).gpioIn = s.gpioIn := rfl
@[simp] theorem onEnc_out : (s.onEnc m g).out = s.out := rfl
@[simp] theorem onEnc_tick : (s.onEnc m g).tick = s.tick := rfl
@[simp] theorem onEnc_free : (s.onEnc m g).free = s.free := rfl
@[simp] theorem onEnc_setNow : (s.onEnc m g).setNow = s.setNow := rfl
@[simp] theorem onEnc_pending : (s.onEnc m g).pending = s.pending := rfl
end

/-! `onChan` -/
section
variable (c : ChanIx) (g : Chan → Chan)
@[simp] theorem onChan_cfg : (s.onChan c g).cfg = s.cfg := rfl
@[simp] theorem onChan_sys : (s.onChan c g).sys = s.sys := rfl
@[simp] theorem onChan_sdr : (s.onChan c g).sdr = s.sdr := rfl
@[simp] theorem onChan_hif : (s.onChan c g).hif = s.hif := rfl
@[simp] theorem onChan_fns : (s.onChan c g).fns = s.fns := rfl
@[simp] theorem onChan_job : (s.onChan c g).job = s.job := rfl
@[simp] theorem onChan_exp : (s.onChan c g).exp = s.exp := rfl
@[simp] theorem onChan_bar : (s.onChan c g).bar = s.bar := rfl
@[simp] theorem onChan_se : (s.onChan c g).se = s.se := rfl
@[simp] theorem onChan_port : (s.onChan c g).port = s.port := rfl
@[simp] theorem onChan_hls : (s.onChan c g).hls = s.hls := rfl
@[simp] theorem onChan_mer : (s.onChan c g).mer = s.mer := rfl
@[simp] theorem onChan_axis : (s.onChan c g).axis = s.axis := rfl
@[simp] theorem onChan_eye : (s.onChan c g).eye = s.eye := rfl
@[simp] theorem onChan_cal : (s.onChan c g).cal = s.cal := rfl
@[simp] theorem onChan_occ : (s.onChan c g).occ = s.occ := rfl
@[simp] theorem onChan_mem : (s.onChan c g).mem = s.mem := rfl
@[simp] theorem onChan_eth : (s.onChan c g).eth = s.eth := rfl
@[simp] theorem onChan_dma : (s.onChan c g).dma = s.dma := rfl
@[simp] theorem onChan_ovl : (s.onChan c g).ovl = s.ovl := rfl
@[simp] theorem onChan_integ : (s.onChan c g).integ = s.integ := rfl
@[simp] theorem onChan_pmc : (s.onChan c g).pmc = s.pmc := rfl
@[simp] theorem onChan_gpioIn : (s.onChan c g).gpioIn = s.gpioIn := rfl
@[simp] theorem onChan_out : (s.onChan c g).out = s.out := rfl
@[simp] theorem onChan_tick : (s.onChan c g).tick = s.tick := rfl
@[simp] theorem onChan_free : (s.onChan c g).free = s.free := rfl
@[simp] theorem onChan_setNow : (s.onChan c g).setNow = s.setNow := rfl
@[simp] theorem onChan_pending : (s.onChan c g).pending = s.pending := rfl
end

/-! `onGroup` -/
section
variable (i : GroupIx) (g : Group → Group)
@[simp] theorem onGroup_cfg : (s.onGroup i g).cfg = s.cfg := rfl
@[simp] theorem onGroup_sys : (s.onGroup i g).sys = s.sys := rfl
@[simp] theorem onGroup_sdr : (s.onGroup i g).sdr = s.sdr := rfl
@[simp] theorem onGroup_hif : (s.onGroup i g).hif = s.hif := rfl
@[simp] theorem onGroup_fns : (s.onGroup i g).fns = s.fns := rfl
@[simp] theorem onGroup_job : (s.onGroup i g).job = s.job := rfl
@[simp] theorem onGroup_exp : (s.onGroup i g).exp = s.exp := rfl
@[simp] theorem onGroup_bar : (s.onGroup i g).bar = s.bar := rfl
@[simp] theorem onGroup_se : (s.onGroup i g).se = s.se := rfl
@[simp] theorem onGroup_port : (s.onGroup i g).port = s.port := rfl
@[simp] theorem onGroup_hls : (s.onGroup i g).hls = s.hls := rfl
@[simp] theorem onGroup_mer : (s.onGroup i g).mer = s.mer := rfl
@[simp] theorem onGroup_axis : (s.onGroup i g).axis = s.axis := rfl
@[simp] theorem onGroup_eye : (s.onGroup i g).eye = s.eye := rfl
@[simp] theorem onGroup_cal : (s.onGroup i g).cal = s.cal := rfl
@[simp] theorem onGroup_occ : (s.onGroup i g).occ = s.occ := rfl
@[simp] theorem onGroup_mem : (s.onGroup i g).mem = s.mem := rfl
@[simp] theorem onGroup_eth : (s.onGroup i g).eth = s.eth := rfl
@[simp] theorem onGroup_dma : (s.onGroup i g).dma = s.dma := rfl
@[simp] theorem onGroup_ovl : (s.onGroup i g).ovl = s.ovl := rfl
@[simp] theorem onGroup_integ : (s.onGroup i g).integ = s.integ := rfl
@[simp] theorem onGroup_pmc : (s.onGroup i g).pmc = s.pmc := rfl
@[simp] theorem onGroup_gpioIn : (s.onGroup i g).gpioIn = s.gpioIn := rfl
@[simp] theorem onGroup_out : (s.onGroup i g).out = s.out := rfl
@[simp] theorem onGroup_tick : (s.onGroup i g).tick = s.tick := rfl
@[simp] theorem onGroup_free : (s.onGroup i g).free = s.free := rfl
@[simp] theorem onGroup_setNow : (s.onGroup i g).setNow = s.setNow := rfl
@[simp] theorem onGroup_pending : (s.onGroup i g).pending = s.pending := rfl
end

/-! `onEthPort` -/
section
variable (p : EthIx) (g : EthPort → EthPort)
@[simp] theorem onEthPort_cfg : (s.onEthPort p g).cfg = s.cfg := rfl
@[simp] theorem onEthPort_sys : (s.onEthPort p g).sys = s.sys := rfl
@[simp] theorem onEthPort_sdr : (s.onEthPort p g).sdr = s.sdr := rfl
@[simp] theorem onEthPort_hif : (s.onEthPort p g).hif = s.hif := rfl
@[simp] theorem onEthPort_fns : (s.onEthPort p g).fns = s.fns := rfl
@[simp] theorem onEthPort_job : (s.onEthPort p g).job = s.job := rfl
@[simp] theorem onEthPort_exp : (s.onEthPort p g).exp = s.exp := rfl
@[simp] theorem onEthPort_bar : (s.onEthPort p g).bar = s.bar := rfl
@[simp] theorem onEthPort_se : (s.onEthPort p g).se = s.se := rfl
@[simp] theorem onEthPort_port : (s.onEthPort p g).port = s.port := rfl
@[simp] theorem onEthPort_hls : (s.onEthPort p g).hls = s.hls := rfl
@[simp] theorem onEthPort_mer : (s.onEthPort p g).mer = s.mer := rfl
@[simp] theorem onEthPort_axis : (s.onEthPort p g).axis = s.axis := rfl
@[simp] theorem onEthPort_eye : (s.onEthPort p g).eye = s.eye := rfl
@[simp] theorem onEthPort_cal : (s.onEthPort p g).cal = s.cal := rfl
@[simp] theorem onEthPort_occ : (s.onEthPort p g).occ = s.occ := rfl
@[simp] theorem onEthPort_spl : (s.onEthPort p g).spl = s.spl := rfl
@[simp] theorem onEthPort_mem : (s.onEthPort p g).mem = s.mem := rfl
@[simp] theorem onEthPort_dma : (s.onEthPort p g).dma = s.dma := rfl
@[simp] theorem onEthPort_ovl : (s.onEthPort p g).ovl = s.ovl := rfl
@[simp] theorem onEthPort_integ : (s.onEthPort p g).integ = s.integ := rfl
@[simp] theorem onEthPort_pmc : (s.onEthPort p g).pmc = s.pmc := rfl
@[simp] theorem onEthPort_gpioIn : (s.onEthPort p g).gpioIn = s.gpioIn := rfl
@[simp] theorem onEthPort_out : (s.onEthPort p g).out = s.out := rfl
@[simp] theorem onEthPort_tick : (s.onEthPort p g).tick = s.tick := rfl
@[simp] theorem onEthPort_free : (s.onEthPort p g).free = s.free := rfl
@[simp] theorem onEthPort_setNow : (s.onEthPort p g).setNow = s.setNow := rfl
@[simp] theorem onEthPort_pending : (s.onEthPort p g).pending = s.pending := rfl
end

/-! `onDmaCh` -/
section
variable (ch : DmaIx) (g : DmaChan → DmaChan)
@[simp] theorem onDmaCh_cfg : (s.onDmaCh ch g).cfg = s.cfg := rfl
@[simp] theorem onDmaCh_sys : (s.onDmaCh ch g).sys = s.sys := rfl
@[simp] theorem onDmaCh_sdr : (s.onDmaCh ch g).sdr = s.sdr := rfl
@[simp] theorem onDmaCh_hif : (s.onDmaCh ch g).hif = s.hif := rfl
@[simp] theorem onDmaCh_fns : (s.onDmaCh ch g).fns = s.fns := rfl
@[simp] theorem onDmaCh_job : (s.onDmaCh ch g).job = s.job := rfl
@[simp] theorem onDmaCh_exp : (s.onDmaCh ch g).exp = s.exp := rfl
@[simp] theorem onDmaCh_bar : (s.onDmaCh ch g).bar = s.bar := rfl
@[simp] theorem onDmaCh_se : (s.onDmaCh ch g).se = s.se := rfl
@[simp] theorem onDmaCh_port : (s.onDmaCh ch g).port = s.port := rfl
@[simp] theorem onDmaCh_hls : (s.onDmaCh ch g).hls = s.hls := rfl
@[simp] theorem onDmaCh_mer : (s.onDmaCh ch g).mer = s.mer := rfl
@[simp] theorem onDmaCh_axis : (s.onDmaCh ch g).axis = s.axis := rfl
@[simp] theorem onDmaCh_eye : (s.onDmaCh ch g).eye = s.eye := rfl
@[simp] theorem onDmaCh_cal : (s.onDmaCh ch g).cal = s.cal := rfl
@[simp] theorem onDmaCh_occ : (s.onDmaCh ch g).occ = s.occ := rfl
@[simp] theorem onDmaCh_spl : (s.onDmaCh ch g).spl = s.spl := rfl
@[simp] theorem onDmaCh_mem : (s.onDmaCh ch g).mem = s.mem := rfl
@[simp] theorem onDmaCh_eth : (s.onDmaCh ch g).eth = s.eth := rfl
@[simp] theorem onDmaCh_ovl : (s.onDmaCh ch g).ovl = s.ovl := rfl
@[simp] theorem onDmaCh_integ : (s.onDmaCh ch g).integ = s.integ := rfl
@[simp] theorem onDmaCh_pmc : (s.onDmaCh ch g).pmc = s.pmc := rfl
@[simp] theorem onDmaCh_gpioIn : (s.onDmaCh ch g).gpioIn = s.gpioIn := rfl
@[simp] theorem onDmaCh_out : (s.onDmaCh ch g).out = s.out := rfl
@[simp] theorem onDmaCh_tick : (s.onDmaCh ch g).tick = s.tick := rfl
@[simp] theorem onDmaCh_free : (s.onDmaCh ch g).free = s.free := rfl
@[simp] theorem onDmaCh_setNow : (s.onDmaCh ch g).setNow = s.setNow := rfl
@[simp] theorem onDmaCh_pending : (s.onDmaCh ch g).pending = s.pending := rfl
end

/-! `onCounter` -/
section
variable (n : Fin 64) (g : Counter → Counter)
@[simp] theorem onCounter_cfg : (s.onCounter n g).cfg = s.cfg := rfl
@[simp] theorem onCounter_sys : (s.onCounter n g).sys = s.sys := rfl
@[simp] theorem onCounter_sdr : (s.onCounter n g).sdr = s.sdr := rfl
@[simp] theorem onCounter_hif : (s.onCounter n g).hif = s.hif := rfl
@[simp] theorem onCounter_fns : (s.onCounter n g).fns = s.fns := rfl
@[simp] theorem onCounter_job : (s.onCounter n g).job = s.job := rfl
@[simp] theorem onCounter_exp : (s.onCounter n g).exp = s.exp := rfl
@[simp] theorem onCounter_bar : (s.onCounter n g).bar = s.bar := rfl
@[simp] theorem onCounter_se : (s.onCounter n g).se = s.se := rfl
@[simp] theorem onCounter_port : (s.onCounter n g).port = s.port := rfl
@[simp] theorem onCounter_hls : (s.onCounter n g).hls = s.hls := rfl
@[simp] theorem onCounter_mer : (s.onCounter n g).mer = s.mer := rfl
@[simp] theorem onCounter_axis : (s.onCounter n g).axis = s.axis := rfl
@[simp] theorem onCounter_eye : (s.onCounter n g).eye = s.eye := rfl
@[simp] theorem onCounter_cal : (s.onCounter n g).cal = s.cal := rfl
@[simp] theorem onCounter_occ : (s.onCounter n g).occ = s.occ := rfl
@[simp] theorem onCounter_spl : (s.onCounter n g).spl = s.spl := rfl
@[simp] theorem onCounter_mem : (s.onCounter n g).mem = s.mem := rfl
@[simp] theorem onCounter_eth : (s.onCounter n g).eth = s.eth := rfl
@[simp] theorem onCounter_dma : (s.onCounter n g).dma = s.dma := rfl
@[simp] theorem onCounter_ovl : (s.onCounter n g).ovl = s.ovl := rfl
@[simp] theorem onCounter_integ : (s.onCounter n g).integ = s.integ := rfl
@[simp] theorem onCounter_gpioIn : (s.onCounter n g).gpioIn = s.gpioIn := rfl
@[simp] theorem onCounter_out : (s.onCounter n g).out = s.out := rfl
@[simp] theorem onCounter_tick : (s.onCounter n g).tick = s.tick := rfl
@[simp] theorem onCounter_free : (s.onCounter n g).free = s.free := rfl
@[simp] theorem onCounter_setNow : (s.onCounter n g).setNow = s.setNow := rfl
@[simp] theorem onCounter_pending : (s.onCounter n g).pending = s.pending := rfl
end

/-! `onMonitor` -/
section
variable (m : Fin 16) (g : Monitor → Monitor)
@[simp] theorem onMonitor_cfg : (s.onMonitor m g).cfg = s.cfg := rfl
@[simp] theorem onMonitor_sys : (s.onMonitor m g).sys = s.sys := rfl
@[simp] theorem onMonitor_sdr : (s.onMonitor m g).sdr = s.sdr := rfl
@[simp] theorem onMonitor_hif : (s.onMonitor m g).hif = s.hif := rfl
@[simp] theorem onMonitor_fns : (s.onMonitor m g).fns = s.fns := rfl
@[simp] theorem onMonitor_job : (s.onMonitor m g).job = s.job := rfl
@[simp] theorem onMonitor_exp : (s.onMonitor m g).exp = s.exp := rfl
@[simp] theorem onMonitor_bar : (s.onMonitor m g).bar = s.bar := rfl
@[simp] theorem onMonitor_se : (s.onMonitor m g).se = s.se := rfl
@[simp] theorem onMonitor_port : (s.onMonitor m g).port = s.port := rfl
@[simp] theorem onMonitor_hls : (s.onMonitor m g).hls = s.hls := rfl
@[simp] theorem onMonitor_mer : (s.onMonitor m g).mer = s.mer := rfl
@[simp] theorem onMonitor_axis : (s.onMonitor m g).axis = s.axis := rfl
@[simp] theorem onMonitor_eye : (s.onMonitor m g).eye = s.eye := rfl
@[simp] theorem onMonitor_cal : (s.onMonitor m g).cal = s.cal := rfl
@[simp] theorem onMonitor_occ : (s.onMonitor m g).occ = s.occ := rfl
@[simp] theorem onMonitor_spl : (s.onMonitor m g).spl = s.spl := rfl
@[simp] theorem onMonitor_mem : (s.onMonitor m g).mem = s.mem := rfl
@[simp] theorem onMonitor_eth : (s.onMonitor m g).eth = s.eth := rfl
@[simp] theorem onMonitor_dma : (s.onMonitor m g).dma = s.dma := rfl
@[simp] theorem onMonitor_ovl : (s.onMonitor m g).ovl = s.ovl := rfl
@[simp] theorem onMonitor_integ : (s.onMonitor m g).integ = s.integ := rfl
@[simp] theorem onMonitor_gpioIn : (s.onMonitor m g).gpioIn = s.gpioIn := rfl
@[simp] theorem onMonitor_out : (s.onMonitor m g).out = s.out := rfl
@[simp] theorem onMonitor_tick : (s.onMonitor m g).tick = s.tick := rfl
@[simp] theorem onMonitor_free : (s.onMonitor m g).free = s.free := rfl
@[simp] theorem onMonitor_setNow : (s.onMonitor m g).setNow = s.setNow := rfl
@[simp] theorem onMonitor_pending : (s.onMonitor m g).pending = s.pending := rfl
end

/-! `onTSlot` -/
section
variable (i : Fin 256) (g : Slot → Slot)
@[simp] theorem onTSlot_cfg : (s.onTSlot i g).cfg = s.cfg := rfl
@[simp] theorem onTSlot_sys : (s.onTSlot i g).sys = s.sys := rfl
@[simp] theorem onTSlot_sdr : (s.onTSlot i g).sdr = s.sdr := rfl
@[simp] theorem onTSlot_hif : (s.onTSlot i g).hif = s.hif := rfl
@[simp] theorem onTSlot_fns : (s.onTSlot i g).fns = s.fns := rfl
@[simp] theorem onTSlot_job : (s.onTSlot i g).job = s.job := rfl
@[simp] theorem onTSlot_exp : (s.onTSlot i g).exp = s.exp := rfl
@[simp] theorem onTSlot_bar : (s.onTSlot i g).bar = s.bar := rfl
@[simp] theorem onTSlot_se : (s.onTSlot i g).se = s.se := rfl
@[simp] theorem onTSlot_port : (s.onTSlot i g).port = s.port := rfl
@[simp] theorem onTSlot_hls : (s.onTSlot i g).hls = s.hls := rfl
@[simp] theorem onTSlot_axis : (s.onTSlot i g).axis = s.axis := rfl
@[simp] theorem onTSlot_eye : (s.onTSlot i g).eye = s.eye := rfl
@[simp] theorem onTSlot_cal : (s.onTSlot i g).cal = s.cal := rfl
@[simp] theorem onTSlot_occ : (s.onTSlot i g).occ = s.occ := rfl
@[simp] theorem onTSlot_spl : (s.onTSlot i g).spl = s.spl := rfl
@[simp] theorem onTSlot_mem : (s.onTSlot i g).mem = s.mem := rfl
@[simp] theorem onTSlot_eth : (s.onTSlot i g).eth = s.eth := rfl
@[simp] theorem onTSlot_dma : (s.onTSlot i g).dma = s.dma := rfl
@[simp] theorem onTSlot_ovl : (s.onTSlot i g).ovl = s.ovl := rfl
@[simp] theorem onTSlot_integ : (s.onTSlot i g).integ = s.integ := rfl
@[simp] theorem onTSlot_pmc : (s.onTSlot i g).pmc = s.pmc := rfl
@[simp] theorem onTSlot_gpioIn : (s.onTSlot i g).gpioIn = s.gpioIn := rfl
@[simp] theorem onTSlot_out : (s.onTSlot i g).out = s.out := rfl
@[simp] theorem onTSlot_tick : (s.onTSlot i g).tick = s.tick := rfl
@[simp] theorem onTSlot_free : (s.onTSlot i g).free = s.free := rfl
@[simp] theorem onTSlot_setNow : (s.onTSlot i g).setNow = s.setNow := rfl
@[simp] theorem onTSlot_pending : (s.onTSlot i g).pending = s.pending := rfl
end

/-! `onPSlot` -/
section
variable (j : Fin 128) (g : Slot → Slot)
@[simp] theorem onPSlot_cfg : (s.onPSlot j g).cfg = s.cfg := rfl
@[simp] theorem onPSlot_sys : (s.onPSlot j g).sys = s.sys := rfl
@[simp] theorem onPSlot_sdr : (s.onPSlot j g).sdr = s.sdr := rfl
@[simp] theorem onPSlot_hif : (s.onPSlot j g).hif = s.hif := rfl
@[simp] theorem onPSlot_fns : (s.onPSlot j g).fns = s.fns := rfl
@[simp] theorem onPSlot_job : (s.onPSlot j g).job = s.job := rfl
@[simp] theorem onPSlot_exp : (s.onPSlot j g).exp = s.exp := rfl
@[simp] theorem onPSlot_bar : (s.onPSlot j g).bar = s.bar := rfl
@[simp] theorem onPSlot_se : (s.onPSlot j g).se = s.se := rfl
@[simp] theorem onPSlot_port : (s.onPSlot j g).port = s.port := rfl
@[simp] theorem onPSlot_hls : (s.onPSlot j g).hls = s.hls := rfl
@[simp] theorem onPSlot_axis : (s.onPSlot j g).axis = s.axis := rfl
@[simp] theorem onPSlot_eye : (s.onPSlot j g).eye = s.eye := rfl
@[simp] theorem onPSlot_cal : (s.onPSlot j g).cal = s.cal := rfl
@[simp] theorem onPSlot_occ : (s.onPSlot j g).occ = s.occ := rfl
@[simp] theorem onPSlot_spl : (s.onPSlot j g).spl = s.spl := rfl
@[simp] theorem onPSlot_mem : (s.onPSlot j g).mem = s.mem := rfl
@[simp] theorem onPSlot_eth : (s.onPSlot j g).eth = s.eth := rfl
@[simp] theorem onPSlot_dma : (s.onPSlot j g).dma = s.dma := rfl
@[simp] theorem onPSlot_ovl : (s.onPSlot j g).ovl = s.ovl := rfl
@[simp] theorem onPSlot_integ : (s.onPSlot j g).integ = s.integ := rfl
@[simp] theorem onPSlot_pmc : (s.onPSlot j g).pmc = s.pmc := rfl
@[simp] theorem onPSlot_gpioIn : (s.onPSlot j g).gpioIn = s.gpioIn := rfl
@[simp] theorem onPSlot_out : (s.onPSlot j g).out = s.out := rfl
@[simp] theorem onPSlot_tick : (s.onPSlot j g).tick = s.tick := rfl
@[simp] theorem onPSlot_free : (s.onPSlot j g).free = s.free := rfl
@[simp] theorem onPSlot_setNow : (s.onPSlot j g).setNow = s.setNow := rfl
@[simp] theorem onPSlot_pending : (s.onPSlot j g).pending = s.pending := rfl
end

/-! `onEngineU` -/
section
variable (e : Fin 68) (g : Engine → Engine)
@[simp] theorem onEngineU_cfg : (s.onEngineU e g).cfg = s.cfg := rfl
@[simp] theorem onEngineU_sys : (s.onEngineU e g).sys = s.sys := rfl
@[simp] theorem onEngineU_sdr : (s.onEngineU e g).sdr = s.sdr := rfl
@[simp] theorem onEngineU_hif : (s.onEngineU e g).hif = s.hif := rfl
@[simp] theorem onEngineU_fns : (s.onEngineU e g).fns = s.fns := rfl
@[simp] theorem onEngineU_job : (s.onEngineU e g).job = s.job := rfl
@[simp] theorem onEngineU_exp : (s.onEngineU e g).exp = s.exp := rfl
@[simp] theorem onEngineU_bar : (s.onEngineU e g).bar = s.bar := rfl
@[simp] theorem onEngineU_port : (s.onEngineU e g).port = s.port := rfl
@[simp] theorem onEngineU_hls : (s.onEngineU e g).hls = s.hls := rfl
@[simp] theorem onEngineU_mer : (s.onEngineU e g).mer = s.mer := rfl
@[simp] theorem onEngineU_axis : (s.onEngineU e g).axis = s.axis := rfl
@[simp] theorem onEngineU_eye : (s.onEngineU e g).eye = s.eye := rfl
@[simp] theorem onEngineU_cal : (s.onEngineU e g).cal = s.cal := rfl
@[simp] theorem onEngineU_occ : (s.onEngineU e g).occ = s.occ := rfl
@[simp] theorem onEngineU_spl : (s.onEngineU e g).spl = s.spl := rfl
@[simp] theorem onEngineU_mem : (s.onEngineU e g).mem = s.mem := rfl
@[simp] theorem onEngineU_eth : (s.onEngineU e g).eth = s.eth := rfl
@[simp] theorem onEngineU_dma : (s.onEngineU e g).dma = s.dma := rfl
@[simp] theorem onEngineU_ovl : (s.onEngineU e g).ovl = s.ovl := rfl
@[simp] theorem onEngineU_integ : (s.onEngineU e g).integ = s.integ := rfl
@[simp] theorem onEngineU_pmc : (s.onEngineU e g).pmc = s.pmc := rfl
@[simp] theorem onEngineU_gpioIn : (s.onEngineU e g).gpioIn = s.gpioIn := rfl
@[simp] theorem onEngineU_out : (s.onEngineU e g).out = s.out := rfl
@[simp] theorem onEngineU_tick : (s.onEngineU e g).tick = s.tick := rfl
@[simp] theorem onEngineU_free : (s.onEngineU e g).free = s.free := rfl
@[simp] theorem onEngineU_setNow : (s.onEngineU e g).setNow = s.setNow := rfl
@[simp] theorem onEngineU_pending : (s.onEngineU e g).pending = s.pending := rfl
end

/-! `onLink` -/
section
variable (p : PortIx) (g : Link → Link)
@[simp] theorem onLink_cfg : (s.onLink p g).cfg = s.cfg := rfl
@[simp] theorem onLink_sys : (s.onLink p g).sys = s.sys := rfl
@[simp] theorem onLink_sdr : (s.onLink p g).sdr = s.sdr := rfl
@[simp] theorem onLink_hif : (s.onLink p g).hif = s.hif := rfl
@[simp] theorem onLink_fns : (s.onLink p g).fns = s.fns := rfl
@[simp] theorem onLink_job : (s.onLink p g).job = s.job := rfl
@[simp] theorem onLink_exp : (s.onLink p g).exp = s.exp := rfl
@[simp] theorem onLink_bar : (s.onLink p g).bar = s.bar := rfl
@[simp] theorem onLink_se : (s.onLink p g).se = s.se := rfl
@[simp] theorem onLink_hls : (s.onLink p g).hls = s.hls := rfl
@[simp] theorem onLink_mer : (s.onLink p g).mer = s.mer := rfl
@[simp] theorem onLink_axis : (s.onLink p g).axis = s.axis := rfl
@[simp] theorem onLink_eye : (s.onLink p g).eye = s.eye := rfl
@[simp] theorem onLink_cal : (s.onLink p g).cal = s.cal := rfl
@[simp] theorem onLink_occ : (s.onLink p g).occ = s.occ := rfl
@[simp] theorem onLink_spl : (s.onLink p g).spl = s.spl := rfl
@[simp] theorem onLink_mem : (s.onLink p g).mem = s.mem := rfl
@[simp] theorem onLink_eth : (s.onLink p g).eth = s.eth := rfl
@[simp] theorem onLink_dma : (s.onLink p g).dma = s.dma := rfl
@[simp] theorem onLink_ovl : (s.onLink p g).ovl = s.ovl := rfl
@[simp] theorem onLink_integ : (s.onLink p g).integ = s.integ := rfl
@[simp] theorem onLink_pmc : (s.onLink p g).pmc = s.pmc := rfl
@[simp] theorem onLink_gpioIn : (s.onLink p g).gpioIn = s.gpioIn := rfl
@[simp] theorem onLink_out : (s.onLink p g).out = s.out := rfl
@[simp] theorem onLink_tick : (s.onLink p g).tick = s.tick := rfl
@[simp] theorem onLink_free : (s.onLink p g).free = s.free := rfl
@[simp] theorem onLink_setNow : (s.onLink p g).setNow = s.setNow := rfl
@[simp] theorem onLink_pending : (s.onLink p g).pending = s.pending := rfl
end

/-! `onFn` -/
section
variable (f : FnRef) (g : Fn → Fn)
@[simp] theorem onFn_cfg : (s.onFn f g).cfg = s.cfg := rfl
@[simp] theorem onFn_sys : (s.onFn f g).sys = s.sys := rfl
@[simp] theorem onFn_sdr : (s.onFn f g).sdr = s.sdr := rfl
@[simp] theorem onFn_hif : (s.onFn f g).hif = s.hif := rfl
@[simp] theorem onFn_job : (s.onFn f g).job = s.job := rfl
@[simp] theorem onFn_exp : (s.onFn f g).exp = s.exp := rfl
@[simp] theorem onFn_bar : (s.onFn f g).bar = s.bar := rfl
@[simp] theorem onFn_se : (s.onFn f g).se = s.se := rfl
@[simp] theorem onFn_port : (s.onFn f g).port = s.port := rfl
@[simp] theorem onFn_hls : (s.onFn f g).hls = s.hls := rfl
@[simp] theorem onFn_mer : (s.onFn f g).mer = s.mer := rfl
@[simp] theorem onFn_axis : (s.onFn f g).axis = s.axis := rfl
@[simp] theorem onFn_eye : (s.onFn f g).eye = s.eye := rfl
@[simp] theorem onFn_cal : (s.onFn f g).cal = s.cal := rfl
@[simp] theorem onFn_occ : (s.onFn f g).occ = s.occ := rfl
@[simp] theorem onFn_spl : (s.onFn f g).spl = s.spl := rfl
@[simp] theorem onFn_mem : (s.onFn f g).mem = s.mem := rfl
@[simp] theorem onFn_eth : (s.onFn f g).eth = s.eth := rfl
@[simp] theorem onFn_dma : (s.onFn f g).dma = s.dma := rfl
@[simp] theorem onFn_ovl : (s.onFn f g).ovl = s.ovl := rfl
@[simp] theorem onFn_integ : (s.onFn f g).integ = s.integ := rfl
@[simp] theorem onFn_pmc : (s.onFn f g).pmc = s.pmc := rfl
@[simp] theorem onFn_gpioIn : (s.onFn f g).gpioIn = s.gpioIn := rfl
@[simp] theorem onFn_out : (s.onFn f g).out = s.out := rfl
@[simp] theorem onFn_tick : (s.onFn f g).tick = s.tick := rfl
@[simp] theorem onFn_free : (s.onFn f g).free = s.free := rfl
@[simp] theorem onFn_setNow : (s.onFn f g).setNow = s.setNow := rfl
@[simp] theorem onFn_pending : (s.onFn f g).pending = s.pending := rfl
end

/-! `emit` -/
section
variable (x : Output)
@[simp] theorem emit_cfg : (s.emit x).cfg = s.cfg := rfl
@[simp] theorem emit_sys : (s.emit x).sys = s.sys := rfl
@[simp] theorem emit_sdr : (s.emit x).sdr = s.sdr := rfl
@[simp] theorem emit_hif : (s.emit x).hif = s.hif := rfl
@[simp] theorem emit_fns : (s.emit x).fns = s.fns := rfl
@[simp] theorem emit_job : (s.emit x).job = s.job := rfl
@[simp] theorem emit_exp : (s.emit x).exp = s.exp := rfl
@[simp] theorem emit_bar : (s.emit x).bar = s.bar := rfl
@[simp] theorem emit_se : (s.emit x).se = s.se := rfl
@[simp] theorem emit_port : (s.emit x).port = s.port := rfl
@[simp] theorem emit_hls : (s.emit x).hls = s.hls := rfl
@[simp] theorem emit_mer : (s.emit x).mer = s.mer := rfl
@[simp] theorem emit_axis : (s.emit x).axis = s.axis := rfl
@[simp] theorem emit_eye : (s.emit x).eye = s.eye := rfl
@[simp] theorem emit_cal : (s.emit x).cal = s.cal := rfl
@[simp] theorem emit_occ : (s.emit x).occ = s.occ := rfl
@[simp] theorem emit_spl : (s.emit x).spl = s.spl := rfl
@[simp] theorem emit_mem : (s.emit x).mem = s.mem := rfl
@[simp] theorem emit_eth : (s.emit x).eth = s.eth := rfl
@[simp] theorem emit_dma : (s.emit x).dma = s.dma := rfl
@[simp] theorem emit_ovl : (s.emit x).ovl = s.ovl := rfl
@[simp] theorem emit_integ : (s.emit x).integ = s.integ := rfl
@[simp] theorem emit_pmc : (s.emit x).pmc = s.pmc := rfl
@[simp] theorem emit_gpioIn : (s.emit x).gpioIn = s.gpioIn := rfl
@[simp] theorem emit_out : (s.emit x).out = s.out ++ [x] := rfl
@[simp] theorem emit_tick : (s.emit x).tick = s.tick := rfl
@[simp] theorem emit_free : (s.emit x).free = s.free := rfl
@[simp] theorem emit_setNow : (s.emit x).setNow = s.setNow := rfl
@[simp] theorem emit_pending : (s.emit x).pending = s.pending := rfl
end

/-! `useFree` -/
@[simp] theorem useFree_cfg : s.useFree.cfg = s.cfg := rfl
@[simp] theorem useFree_sys : s.useFree.sys = s.sys := rfl
@[simp] theorem useFree_sdr : s.useFree.sdr = s.sdr := rfl
@[simp] theorem useFree_hif : s.useFree.hif = s.hif := rfl
@[simp] theorem useFree_fns : s.useFree.fns = s.fns := rfl
@[simp] theorem useFree_job : s.useFree.job = s.job := rfl
@[simp] theorem useFree_exp : s.useFree.exp = s.exp := rfl
@[simp] theorem useFree_bar : s.useFree.bar = s.bar := rfl
@[simp] theorem useFree_se : s.useFree.se = s.se := rfl
@[simp] theorem useFree_port : s.useFree.port = s.port := rfl
@[simp] theorem useFree_hls : s.useFree.hls = s.hls := rfl
@[simp] theorem useFree_mer : s.useFree.mer = s.mer := rfl
@[simp] theorem useFree_axis : s.useFree.axis = s.axis := rfl
@[simp] theorem useFree_eye : s.useFree.eye = s.eye := rfl
@[simp] theorem useFree_cal : s.useFree.cal = s.cal := rfl
@[simp] theorem useFree_occ : s.useFree.occ = s.occ := rfl
@[simp] theorem useFree_spl : s.useFree.spl = s.spl := rfl
@[simp] theorem useFree_mem : s.useFree.mem = s.mem := rfl
@[simp] theorem useFree_eth : s.useFree.eth = s.eth := rfl
@[simp] theorem useFree_dma : s.useFree.dma = s.dma := rfl
@[simp] theorem useFree_ovl : s.useFree.ovl = s.ovl := rfl
@[simp] theorem useFree_integ : s.useFree.integ = s.integ := rfl
@[simp] theorem useFree_pmc : s.useFree.pmc = s.pmc := rfl
@[simp] theorem useFree_gpioIn : s.useFree.gpioIn = s.gpioIn := rfl
@[simp] theorem useFree_out : s.useFree.out = s.out := rfl
@[simp] theorem useFree_tick : s.useFree.tick = s.tick := rfl
@[simp] theorem useFree_free : s.useFree.free = s.free + 1 := rfl
@[simp] theorem useFree_pending : s.useFree.pending = s.pending := rfl

end Sys2Proof.Machine.State
end

