-- ==== Sys2Proof/Laws/Ops.lean ====
section
/-!
SUPPORT. What the shared operations of Machine/Update.lean and Machine/Ops.lean can do: which component each changes,
and what it leaves of the others, so that a proof cites these and does not unfold the operations.
-/
namespace Sys2Proof.Machine
open Sys2Proof

/-! ## Numbered units -/

theorem upd_get {α : Type} {n : Nat} (v : Vector α n) (i j : Fin n) (f : α → α) :
    (upd v i f)[j] = if i = j then f v[j] else v[j] := by
  simp only [upd, Fin.getElem_fin, Vector.getElem_set, Fin.ext_iff]
  split
  · rename_i h
    simp [h]
  · rfl

@[simp] theorem upd_get_same {α : Type} {n : Nat} (v : Vector α n) (i : Fin n) (f : α → α) : (upd v i f)[i] = f v[i] := by
  rw [upd_get, if_pos rfl]

theorem upd_get_ne {α : Type} {n : Nat} (v : Vector α n) {i j : Fin n} (f : α → α) (h : i ≠ j) : (upd v i f)[j] = v[j] := by
  rw [upd_get, if_neg h]

namespace State
variable (s : State)

theorem onPort_get (i j : PortIx) (g : Port → Port) : (s.onPort i g).port[j] = if i = j then g s.port[j] else s.port[j] := upd_get ..
@[simp] theorem onPort_get_same (i : PortIx) (g : Port → Port) : (s.onPort i g).port[i] = g s.port[i] := upd_get_same ..
theorem onBar_get (i j : BarIx) (g : Bar → Bar) : (s.onBar i g).bar[j] = if i = j then g s.bar[j] else s.bar[j] := upd_get ..
@[simp] theorem onBar_get_same (i : BarIx) (g : Bar → Bar) : (s.onBar i g).bar[i] = g s.bar[i] := upd_get_same ..
theorem onAxis_get (i j : AxisIx) (g : Axis → Axis) : (s.onAxis i g).axis[j] = if i = j then g s.axis[j] else s.axis[j] := upd_get ..
@[simp] theorem onAxis_get_same (i : AxisIx) (g : Axis → Axis) : (s.onAxis i g).axis[i] = g s.axis[i] := upd_get_same ..
theorem onRing_get (i j : RingIx) (g : Ring → Ring) : (s.onRing i g).hif.rings[j] = if i = j then g s.hif.rings[j] else s.hif.rings[j] := upd_get ..
@[simp] theorem onRing_get_same (i : RingIx) (g : Ring → Ring) : (s.onRing i g).hif.rings[i] = g s.hif.rings[i] := upd_get_same ..
theorem onCam_get (i j : CamIx) (g : Camera → Camera) : (s.onCam i g).eye.cam[j] = if i = j then g s.eye.cam[j] else s.eye.cam[j] := upd_get ..
@[simp] theorem onCam_get_same (i : CamIx) (g : Camera → Camera) : (s.onCam i g).eye.cam[i] = g s.eye.cam[i] := upd_get_same ..
theorem onEnc_get (i j : EncIx) (g : Encoder → Encoder) : (s.onEnc i g).hls.enc[j] = if i = j then g s.hls.enc[j] else s.hls.enc[j] := upd_get ..
@[simp] theorem onEnc_get_same (i : EncIx) (g : Encoder → Encoder) : (s.onEnc i g).hls.enc[i] = g s.hls.enc[i] := upd_get_same ..
theorem onChan_get (i j : ChanIx) (g : Chan → Chan) : (s.onChan i g).spl.chans[j] = if i = j then g s.spl.chans[j] else s.spl.chans[j] := upd_get ..
@[simp] theorem onChan_get_same (i : ChanIx) (g : Chan → Chan) : (s.onChan i g).spl.chans[i] = g s.spl.chans[i] := upd_get_same ..
theorem onGroup_get (i j : GroupIx) (g : Group → Group) : (s.onGroup i g).spl.groups[j] = if i = j then g s.spl.groups[j] else s.spl.groups[j] := upd_get ..
@[simp] theorem onGroup_get_same (i : GroupIx) (g : Group → Group) : (s.onGroup i g).spl.groups[i] = g s.spl.groups[i] := upd_get_same ..
theorem onEthPort_get (i j : EthIx) (g : EthPort → EthPort) : (s.onEthPort i g).eth.port[j] = if i = j then g s.eth.port[j] else s.eth.port[j] := upd_get ..
@[simp] theorem onEthPort_get_same (i : EthIx) (g : EthPort → EthPort) : (s.onEthPort i g).eth.port[i] = g s.eth.port[i] := upd_get_same ..
theorem onDmaCh_get (i j : DmaIx) (g : DmaChan → DmaChan) : (s.onDmaCh i g).dma.ch[j] = if i = j then g s.dma.ch[j] else s.dma.ch[j] := upd_get ..
@[simp] theorem onDmaCh_get_same (i : DmaIx) (g : DmaChan → DmaChan) : (s.onDmaCh i g).dma.ch[i] = g s.dma.ch[i] := upd_get_same ..
theorem onCounter_get (i j : Fin 64) (g : Counter → Counter) : (s.onCounter i g).pmc.ctr[j] = if i = j then g s.pmc.ctr[j] else s.pmc.ctr[j] := upd_get ..
@[simp] theorem onCounter_get_same (i : Fin 64) (g : Counter → Counter) : (s.onCounter i g).pmc.ctr[i] = g s.pmc.ctr[i] := upd_get_same ..
theorem onMonitor_get (i j : Fin 16) (g : Monitor → Monitor) : (s.onMonitor i g).pmc.bw[j] = if i = j then g s.pmc.bw[j] else s.pmc.bw[j] := upd_get ..
@[simp] theorem onMonitor_get_same (i : Fin 16) (g : Monitor → Monitor) : (s.onMonitor i g).pmc.bw[i] = g s.pmc.bw[i] := upd_get_same ..
theorem onTSlot_get (i j : Fin 256) (g : Slot → Slot) : (s.onTSlot i g).mer.tslot[j] = if i = j then g s.mer.tslot[j] else s.mer.tslot[j] := upd_get ..
@[simp] theorem onTSlot_get_same (i : Fin 256) (g : Slot → Slot) : (s.onTSlot i g).mer.tslot[i] = g s.mer.tslot[i] := upd_get_same ..
theorem onPSlot_get (i j : Fin 128) (g : Slot → Slot) : (s.onPSlot i g).mer.pslot[j] = if i = j then g s.mer.pslot[j] else s.mer.pslot[j] := upd_get ..
@[simp] theorem onPSlot_get_same (i : Fin 128) (g : Slot → Slot) : (s.onPSlot i g).mer.pslot[i] = g s.mer.pslot[i] := upd_get_same ..
theorem onEngineU_get (i j : Fin 68) (g : Engine → Engine) : (s.onEngineU i g).se.engines[j] = if i = j then g s.se.engines[j] else s.se.engines[j] := upd_get ..
@[simp] theorem onEngineU_get_same (i : Fin 68) (g : Engine → Engine) : (s.onEngineU i g).se.engines[i] = g s.se.engines[i] := upd_get_same ..

/-! ## Doing something for each element of a list -/

@[simp] theorem forEach_nil {α : Type} (g : α → State → State) : s.forEach [] g = s := rfl
@[simp] theorem forEach_cons {α : Type} (a : α) (l : List α) (g : α → State → State) : s.forEach (a :: l) g = (g a s).forEach l g := rfl

/-- What each turn keeps, the loop keeps. -/
theorem forEach_keeps {α β : Type} (f : State → β) (g : α → State → State) (h : ∀ a t, f (g a t) = f t) :
    ∀ (l : List α) (t : State), f (t.forEach l g) = f t
  | [], _ => rfl
  | a :: l, t => by rw [forEach_cons, forEach_keeps f g h l, h]

/-- What each turn of the list's elements preserves, the loop preserves. -/
theorem forEach_inv {α : Type} (P : State → Prop) (g : α → State → State) (h : ∀ a t, P t → P (g a t)) :
    ∀ (l : List α) (t : State), P t → P (t.forEach l g)
  | [], _, ht => ht
  | a :: l, t, ht => by rw [forEach_cons]; exact forEach_inv P g h l _ (h a t ht)

/-! ## Performance counters: only `pmc` changes -/

section
variable (ev n : Nat) (i : Fin 64)
@[simp] theorem countOne_cfg : (s.countOne ev n i).cfg = s.cfg := by unfold countOne; split <;> rfl
@[simp] theorem countOne_sys : (s.countOne ev n i).sys = s.sys := by unfold countOne; split <;> rfl
@[simp] theorem countOne_sdr : (s.countOne ev n i).sdr = s.sdr := by unfold countOne; split <;> rfl
@[simp] theorem countOne_hif : (s.countOne ev n i).hif = s.hif := by unfold countOne; split <;> rfl
@[simp] theorem countOne_fns : (s.countOne ev n i).fns = s.fns := by unfold countOne; split <;> rfl
@[simp] theorem countOne_job : (s.countOne ev n i).job = s.job := by unfold countOne; split <;> rfl
@[simp] theorem countOne_exp : (s.countOne ev n i).exp = s.exp := by unfold countOne; split <;> rfl
@[simp] theorem countOne_bar : (s.countOne ev n i).bar = s.bar := by unfold countOne; split <;> rfl
@[simp] theorem countOne_se : (s.countOne ev n i).se = s.se := by unfold countOne; split <;> rfl
@[simp] theorem countOne_port : (s.countOne ev n i).port = s.port := by unfold countOne; split <;> rfl
@[simp] theorem countOne_hls : (s.countOne ev n i).hls = s.hls := by unfold countOne; split <;> rfl
@[simp] theorem countOne_mer : (s.countOne ev n i).mer = s.mer := by unfold countOne; split <;> rfl
@[simp] theorem countOne_axis : (s.countOne ev n i).axis = s.axis := by unfold countOne; split <;> rfl
@[simp] theorem countOne_eye : (s.countOne ev n i).eye = s.eye := by unfold countOne; split <;> rfl
@[simp] theorem countOne_cal : (s.countOne ev n i).cal = s.cal := by unfold countOne; split <;> rfl
@[simp] theorem countOne_occ : (s.countOne ev n i).occ = s.occ := by unfold countOne; split <;> rfl
@[simp] theorem countOne_spl : (s.countOne ev n i).spl = s.spl := by unfold countOne; split <;> rfl
@[simp] theorem countOne_mem : (s.countOne ev n i).mem = s.mem := by unfold countOne; split <;> rfl
@[simp] theorem countOne_eth : (s.countOne ev n i).eth = s.eth := by unfold countOne; split <;> rfl
@[simp] theorem countOne_dma : (s.countOne ev n i).dma = s.dma := by unfold countOne; split <;> rfl
@[simp] theorem countOne_ovl : (s.countOne ev n i).ovl = s.ovl := by unfold countOne; split <;> rfl
@[simp] theorem countOne_integ : (s.countOne ev n i).integ = s.integ := by unfold countOne; split <;> rfl
@[simp] theorem countOne_gpioIn : (s.countOne ev n i).gpioIn = s.gpioIn := by unfold countOne; split <;> rfl
@[simp] theorem countOne_out : (s.countOne ev n i).out = s.out := by unfold countOne; split <;> rfl
@[simp] theorem countOne_tick : (s.countOne ev n i).tick = s.tick := by unfold countOne; split <;> rfl
@[simp] theorem countOne_free : (s.countOne ev n i).free = s.free := by unfold countOne; split <;> rfl
@[simp] theorem countOne_setNow : (s.countOne ev n i).setNow = s.setNow := by unfold countOne; split <;> rfl
@[simp] theorem countOne_pending : (s.countOne ev n i).pending = s.pending := by unfold countOne; split <;> rfl
end

section
variable (ev n : Nat)
@[simp] theorem count_cfg : (s.count ev n).cfg = s.cfg := by
  unfold count; split
  · rfl
  · exact forEach_keeps (·.cfg) _ (fun i t => countOne_cfg t ev n i) _ _
@[simp] theorem count_sys : (s.count ev n).sys = s.sys := by
  unfold count; split
  · rfl
  · exact forEach_keeps (·.sys) _ (fun i t => countOne_sys t ev n i) _ _
@[simp] theorem count_sdr : (s.count ev n).sdr = s.sdr := by
  unfold count; split
  · rfl
  · exact forEach_keeps (·.sdr) _ (fun i t => countOne_sdr t ev n i) _ _
@[simp] theorem count_hif : (s.count ev n).hif = s.hif := by
  unfold count; split
  · rfl
  · exact forEach_keeps (·.hif) _ (fun i t => countOne_hif t ev n i) _ _
@[simp] theorem count_fns : (s.count ev n).fns = s.fns := by
  unfold count; split
  · rfl
  · exact forEach_keeps (·.fns) _ (fun i t => countOne_fns t ev n i) _ _
@[simp] theorem count_job : (s.count ev n).job = s.job := by
  unfold count; split
  · rfl
  · exact forEach_keeps (·.job) _ (fun i t => countOne_job t ev n i) _ _
@[simp] theorem count_exp : (s.count ev n).exp = s.exp := by
  unfold count; split
  · rfl
  · exact forEach_keeps (·.exp) _ (fun i t => countOne_exp t ev n i) _ _
@[simp] theorem count_bar : (s.count ev n).bar = s.bar := by
  unfold count; split
  · rfl
  · exact forEach_keeps (·.bar) _ (fun i t => countOne_bar t ev n i) _ _
@[simp] theorem count_se : (s.count ev n).se = s.se := by
  unfold count; split
  · rfl
  · exact forEach_keeps (·.se) _ (fun i t => countOne_se t ev n i) _ _
@[simp] theorem count_port : (s.count ev n).port = s.port := by
  unfold count; split
  · rfl
  · exact forEach_keeps (·.port) _ (fun i t => countOne_port t ev n i) _ _
@[simp] theorem count_hls : (s.count ev n).hls = s.hls := by
  unfold count; split
  · rfl
  · exact forEach_keeps (·.hls) _ (fun i t => countOne_hls t ev n i) _ _
@[simp] theorem count_mer : (s.count ev n).mer = s.mer := by
  unfold count; split
  · rfl
  · exact forEach_keeps (·.mer) _ (fun i t => countOne_mer t ev n i) _ _
@[simp] theorem count_axis : (s.count ev n).axis = s.axis := by
  unfold count; split
  · rfl
  · exact forEach_keeps (·.axis) _ (fun i t => countOne_axis t ev n i) _ _
@[simp] theorem count_eye : (s.count ev n).eye = s.eye := by
  unfold count; split
  · rfl
  · exact forEach_keeps (·.eye) _ (fun i t => countOne_eye t ev n i) _ _
@[simp] theorem count_cal : (s.count ev n).cal = s.cal := by
  unfold count; split
  · rfl
  · exact forEach_keeps (·.cal) _ (fun i t => countOne_cal t ev n i) _ _
@[simp] theorem count_occ : (s.count ev n).occ = s.occ := by
  unfold count; split
  · rfl
  · exact forEach_keeps (·.occ) _ (fun i t => countOne_occ t ev n i) _ _
@[simp] theorem count_spl : (s.count ev n).spl = s.spl := by
  unfold count; split
  · rfl
  · exact forEach_keeps (·.spl) _ (fun i t => countOne_spl t ev n i) _ _
@[simp] theorem count_mem : (s.count ev n).mem = s.mem := by
  unfold count; split
  · rfl
  · exact forEach_keeps (·.mem) _ (fun i t => countOne_mem t ev n i) _ _
@[simp] theorem count_eth : (s.count ev n).eth = s.eth := by
  unfold count; split
  · rfl
  · exact forEach_keeps (·.eth) _ (fun i t => countOne_eth t ev n i) _ _
@[simp] theorem count_dma : (s.count ev n).dma = s.dma := by
  unfold count; split
  · rfl
  · exact forEach_keeps (·.dma) _ (fun i t => countOne_dma t ev n i) _ _
@[simp] theorem count_ovl : (s.count ev n).ovl = s.ovl := by
  unfold count; split
  · rfl
  · exact forEach_keeps (·.ovl) _ (fun i t => countOne_ovl t ev n i) _ _
@[simp] theorem count_integ : (s.count ev n).integ = s.integ := by
  unfold count; split
  · rfl
  · exact forEach_keeps (·.integ) _ (fun i t => countOne_integ t ev n i) _ _
@[simp] theorem count_gpioIn : (s.count ev n).gpioIn = s.gpioIn := by
  unfold count; split
  · rfl
  · exact forEach_keeps (·.gpioIn) _ (fun i t => countOne_gpioIn t ev n i) _ _
@[simp] theorem count_out : (s.count ev n).out = s.out := by
  unfold count; split
  · rfl
  · exact forEach_keeps (·.out) _ (fun i t => countOne_out t ev n i) _ _
@[simp] theorem count_tick : (s.count ev n).tick = s.tick := by
  unfold count; split
  · rfl
  · exact forEach_keeps (·.tick) _ (fun i t => countOne_tick t ev n i) _ _
@[simp] theorem count_free : (s.count ev n).free = s.free := by
  unfold count; split
  · rfl
  · exact forEach_keeps (·.free) _ (fun i t => countOne_free t ev n i) _ _
@[simp] theorem count_setNow : (s.count ev n).setNow = s.setNow := by
  unfold count; split
  · rfl
  · exact forEach_keeps (·.setNow) _ (fun i t => countOne_setNow t ev n i) _ _
@[simp] theorem count_pending : (s.count ev n).pending = s.pending := by
  unfold count; split
  · rfl
  · exact forEach_keeps (·.pending) _ (fun i t => countOne_pending t ev n i) _ _
end

section
variable (ev : Nat) (i : Fin 64)
@[simp] theorem riseOne_cfg : (s.riseOne ev i).cfg = s.cfg := by unfold riseOne; split <;> rfl
@[simp] theorem riseOne_sys : (s.riseOne ev i).sys = s.sys := by unfold riseOne; split <;> rfl
@[simp] theorem riseOne_sdr : (s.riseOne ev i).sdr = s.sdr := by unfold riseOne; split <;> rfl
@[simp] theorem riseOne_hif : (s.riseOne ev i).hif = s.hif := by unfold riseOne; split <;> rfl
@[simp] theorem riseOne_fns : (s.riseOne ev i).fns = s.fns := by unfold riseOne; split <;> rfl
@[simp] theorem riseOne_job : (s.riseOne ev i).job = s.job := by unfold riseOne; split <;> rfl
@[simp] theorem riseOne_exp : (s.riseOne ev i).exp = s.exp := by unfold riseOne; split <;> rfl
@[simp] theorem riseOne_bar : (s.riseOne ev i).bar = s.bar := by unfold riseOne; split <;> rfl
@[simp] theorem riseOne_se : (s.riseOne ev i).se = s.se := by unfold riseOne; split <;> rfl
@[simp] theorem riseOne_port : (s.riseOne ev i).port = s.port := by unfold riseOne; split <;> rfl
@[simp] theorem riseOne_hls : (s.riseOne ev i).hls = s.hls := by unfold riseOne; split <;> rfl
@[simp] theorem riseOne_mer : (s.riseOne ev i).mer = s.mer := by unfold riseOne; split <;> rfl
@[simp] theorem riseOne_axis : (s.riseOne ev i).axis = s.axis := by unfold riseOne; split <;> rfl
@[simp] theorem riseOne_eye : (s.riseOne ev i).eye = s.eye := by unfold riseOne; split <;> rfl
@[simp] theorem riseOne_cal : (s.riseOne ev i).cal = s.cal := by unfold riseOne; split <;> rfl
@[simp] theorem riseOne_occ : (s.riseOne ev i).occ = s.occ := by unfold riseOne; split <;> rfl
@[simp] theorem riseOne_spl : (s.riseOne ev i).spl = s.spl := by unfold riseOne; split <;> rfl
@[simp] theorem riseOne_mem : (s.riseOne ev i).mem = s.mem := by unfold riseOne; split <;> rfl
@[simp] theorem riseOne_eth : (s.riseOne ev i).eth = s.eth := by unfold riseOne; split <;> rfl
@[simp] theorem riseOne_dma : (s.riseOne ev i).dma = s.dma := by unfold riseOne; split <;> rfl
@[simp] theorem riseOne_ovl : (s.riseOne ev i).ovl = s.ovl := by unfold riseOne; split <;> rfl
@[simp] theorem riseOne_integ : (s.riseOne ev i).integ = s.integ := by unfold riseOne; split <;> rfl
@[simp] theorem riseOne_gpioIn : (s.riseOne ev i).gpioIn = s.gpioIn := by unfold riseOne; split <;> rfl
@[simp] theorem riseOne_out : (s.riseOne ev i).out = s.out := by unfold riseOne; split <;> rfl
@[simp] theorem riseOne_tick : (s.riseOne ev i).tick = s.tick := by unfold riseOne; split <;> rfl
@[simp] theorem riseOne_free : (s.riseOne ev i).free = s.free := by unfold riseOne; split <;> rfl
@[simp] theorem riseOne_setNow : (s.riseOne ev i).setNow = s.setNow := by unfold riseOne; split <;> rfl
@[simp] theorem riseOne_pending : (s.riseOne ev i).pending = s.pending := by unfold riseOne; split <;> rfl
end

section
variable (ev : Nat) (c : Bool)
@[simp] theorem rise_cfg : (s.rise ev c).cfg = s.cfg := by
  unfold rise; split
  · rfl
  · exact forEach_keeps (·.cfg) _ (fun i t => riseOne_cfg t ev i) _ _
@[simp] theorem rise_sys : (s.rise ev c).sys = s.sys := by
  unfold rise; split
  · rfl
  · exact forEach_keeps (·.sys) _ (fun i t => riseOne_sys t ev i) _ _
@[simp] theorem rise_sdr : (s.rise ev c).sdr = s.sdr := by
  unfold rise; split
  · rfl
  · exact forEach_keeps (·.sdr) _ (fun i t => riseOne_sdr t ev i) _ _
@[simp] theorem rise_hif : (s.rise ev c).hif = s.hif := by
  unfold rise; split
  · rfl
  · exact forEach_keeps (·.hif) _ (fun i t => riseOne_hif t ev i) _ _
@[simp] theorem rise_fns : (s.rise ev c).fns = s.fns := by
  unfold rise; split
  · rfl
  · exact forEach_keeps (·.fns) _ (fun i t => riseOne_fns t ev i) _ _
@[simp] theorem rise_job : (s.rise ev c).job = s.job := by
  unfold rise; split
  · rfl
  · exact forEach_keeps (·.job) _ (fun i t => riseOne_job t ev i) _ _
@[simp] theorem rise_exp : (s.rise ev c).exp = s.exp := by
  unfold rise; split
  · rfl
  · exact forEach_keeps (·.exp) _ (fun i t => riseOne_exp t ev i) _ _
@[simp] theorem rise_bar : (s.rise ev c).bar = s.bar := by
  unfold rise; split
  · rfl
  · exact forEach_keeps (·.bar) _ (fun i t => riseOne_bar t ev i) _ _
@[simp] theorem rise_se : (s.rise ev c).se = s.se := by
  unfold rise; split
  · rfl
  · exact forEach_keeps (·.se) _ (fun i t => riseOne_se t ev i) _ _
@[simp] theorem rise_port : (s.rise ev c).port = s.port := by
  unfold rise; split
  · rfl
  · exact forEach_keeps (·.port) _ (fun i t => riseOne_port t ev i) _ _
@[simp] theorem rise_hls : (s.rise ev c).hls = s.hls := by
  unfold rise; split
  · rfl
  · exact forEach_keeps (·.hls) _ (fun i t => riseOne_hls t ev i) _ _
@[simp] theorem rise_mer : (s.rise ev c).mer = s.mer := by
  unfold rise; split
  · rfl
  · exact forEach_keeps (·.mer) _ (fun i t => riseOne_mer t ev i) _ _
@[simp] theorem rise_axis : (s.rise ev c).axis = s.axis := by
  unfold rise; split
  · rfl
  · exact forEach_keeps (·.axis) _ (fun i t => riseOne_axis t ev i) _ _
@[simp] theorem rise_eye : (s.rise ev c).eye = s.eye := by
  unfold rise; split
  · rfl
  · exact forEach_keeps (·.eye) _ (fun i t => riseOne_eye t ev i) _ _
@[simp] theorem rise_cal : (s.rise ev c).cal = s.cal := by
  unfold rise; split
  · rfl
  · exact forEach_keeps (·.cal) _ (fun i t => riseOne_cal t ev i) _ _
@[simp] theorem rise_occ : (s.rise ev c).occ = s.occ := by
  unfold rise; split
  · rfl
  · exact forEach_keeps (·.occ) _ (fun i t => riseOne_occ t ev i) _ _
@[simp] theorem rise_spl : (s.rise ev c).spl = s.spl := by
  unfold rise; split
  · rfl
  · exact forEach_keeps (·.spl) _ (fun i t => riseOne_spl t ev i) _ _
@[simp] theorem rise_mem : (s.rise ev c).mem = s.mem := by
  unfold rise; split
  · rfl
  · exact forEach_keeps (·.mem) _ (fun i t => riseOne_mem t ev i) _ _
@[simp] theorem rise_eth : (s.rise ev c).eth = s.eth := by
  unfold rise; split
  · rfl
  · exact forEach_keeps (·.eth) _ (fun i t => riseOne_eth t ev i) _ _
@[simp] theorem rise_dma : (s.rise ev c).dma = s.dma := by
  unfold rise; split
  · rfl
  · exact forEach_keeps (·.dma) _ (fun i t => riseOne_dma t ev i) _ _
@[simp] theorem rise_ovl : (s.rise ev c).ovl = s.ovl := by
  unfold rise; split
  · rfl
  · exact forEach_keeps (·.ovl) _ (fun i t => riseOne_ovl t ev i) _ _
@[simp] theorem rise_integ : (s.rise ev c).integ = s.integ := by
  unfold rise; split
  · rfl
  · exact forEach_keeps (·.integ) _ (fun i t => riseOne_integ t ev i) _ _
@[simp] theorem rise_gpioIn : (s.rise ev c).gpioIn = s.gpioIn := by
  unfold rise; split
  · rfl
  · exact forEach_keeps (·.gpioIn) _ (fun i t => riseOne_gpioIn t ev i) _ _
@[simp] theorem rise_out : (s.rise ev c).out = s.out := by
  unfold rise; split
  · rfl
  · exact forEach_keeps (·.out) _ (fun i t => riseOne_out t ev i) _ _
@[simp] theorem rise_tick : (s.rise ev c).tick = s.tick := by
  unfold rise; split
  · rfl
  · exact forEach_keeps (·.tick) _ (fun i t => riseOne_tick t ev i) _ _
@[simp] theorem rise_free : (s.rise ev c).free = s.free := by
  unfold rise; split
  · rfl
  · exact forEach_keeps (·.free) _ (fun i t => riseOne_free t ev i) _ _
@[simp] theorem rise_setNow : (s.rise ev c).setNow = s.setNow := by
  unfold rise; split
  · rfl
  · exact forEach_keeps (·.setNow) _ (fun i t => riseOne_setNow t ev i) _ _
@[simp] theorem rise_pending : (s.rise ev c).pending = s.pending := by
  unfold rise; split
  · rfl
  · exact forEach_keeps (·.pending) _ (fun i t => riseOne_pending t ev i) _ _
end

section
variable (kind unit n : Nat) (m : Fin 16)
@[simp] theorem passOne_cfg : (s.passOne kind unit n m).cfg = s.cfg := by unfold passOne; split <;> rfl
@[simp] theorem passOne_sys : (s.passOne kind unit n m).sys = s.sys := by unfold passOne; split <;> rfl
@[simp] theorem passOne_sdr : (s.passOne kind unit n m).sdr = s.sdr := by unfold passOne; split <;> rfl
@[simp] theorem passOne_hif : (s.passOne kind unit n m).hif = s.hif := by unfold passOne; split <;> rfl
@[simp] theorem passOne_fns : (s.passOne kind unit n m).fns = s.fns := by unfold passOne; split <;> rfl
@[simp] theorem passOne_job : (s.passOne kind unit n m).job = s.job := by unfold passOne; split <;> rfl
@[simp] theorem passOne_exp : (s.passOne kind unit n m).exp = s.exp := by unfold passOne; split <;> rfl
@[simp] theorem passOne_bar : (s.passOne kind unit n m).bar = s.bar := by unfold passOne; split <;> rfl
@[simp] theorem passOne_se : (s.passOne kind unit n m).se = s.se := by unfold passOne; split <;> rfl
@[simp] theorem passOne_port : (s.passOne kind unit n m).port = s.port := by unfold passOne; split <;> rfl
@[simp] theorem passOne_hls : (s.passOne kind unit n m).hls = s.hls := by unfold passOne; split <;> rfl
@[simp] theorem passOne_mer : (s.passOne kind unit n m).mer = s.mer := by unfold passOne; split <;> rfl
@[simp] theorem passOne_axis : (s.passOne kind unit n m).axis = s.axis := by unfold passOne; split <;> rfl
@[simp] theorem passOne_eye : (s.passOne kind unit n m).eye = s.eye := by unfold passOne; split <;> rfl
@[simp] theorem passOne_cal : (s.passOne kind unit n m).cal = s.cal := by unfold passOne; split <;> rfl
@[simp] theorem passOne_occ : (s.passOne kind unit n m).occ = s.occ := by unfold passOne; split <;> rfl
@[simp] theorem passOne_spl : (s.passOne kind unit n m).spl = s.spl := by unfold passOne; split <;> rfl
@[simp] theorem passOne_mem : (s.passOne kind unit n m).mem = s.mem := by unfold passOne; split <;> rfl
@[simp] theorem passOne_eth : (s.passOne kind unit n m).eth = s.eth := by unfold passOne; split <;> rfl
@[simp] theorem passOne_dma : (s.passOne kind unit n m).dma = s.dma := by unfold passOne; split <;> rfl
@[simp] theorem passOne_ovl : (s.passOne kind unit n m).ovl = s.ovl := by unfold passOne; split <;> rfl
@[simp] theorem passOne_integ : (s.passOne kind unit n m).integ = s.integ := by unfold passOne; split <;> rfl
@[simp] theorem passOne_gpioIn : (s.passOne kind unit n m).gpioIn = s.gpioIn := by unfold passOne; split <;> rfl
@[simp] theorem passOne_out : (s.passOne kind unit n m).out = s.out := by unfold passOne; split <;> rfl
@[simp] theorem passOne_tick : (s.passOne kind unit n m).tick = s.tick := by unfold passOne; split <;> rfl
@[simp] theorem passOne_free : (s.passOne kind unit n m).free = s.free := by unfold passOne; split <;> rfl
@[simp] theorem passOne_setNow : (s.passOne kind unit n m).setNow = s.setNow := by unfold passOne; split <;> rfl
@[simp] theorem passOne_pending : (s.passOne kind unit n m).pending = s.pending := by unfold passOne; split <;> rfl
end

section
variable (kind unit n : Nat)
@[simp] theorem pass_cfg : (s.pass kind unit n).cfg = s.cfg := by
  unfold pass; split
  · rfl
  · exact forEach_keeps (·.cfg) _ (fun i t => passOne_cfg t kind unit n i) _ _
@[simp] theorem pass_sys : (s.pass kind unit n).sys = s.sys := by
  unfold pass; split
  · rfl
  · exact forEach_keeps (·.sys) _ (fun i t => passOne_sys t kind unit n i) _ _
@[simp] theorem pass_sdr : (s.pass kind unit n).sdr = s.sdr := by
  unfold pass; split
  · rfl
  · exact forEach_keeps (·.sdr) _ (fun i t => passOne_sdr t kind unit n i) _ _
@[simp] theorem pass_hif : (s.pass kind unit n).hif = s.hif := by
  unfold pass; split
  · rfl
  · exact forEach_keeps (·.hif) _ (fun i t => passOne_hif t kind unit n i) _ _
@[simp] theorem pass_fns : (s.pass kind unit n).fns = s.fns := by
  unfold pass; split
  · rfl
  · exact forEach_keeps (·.fns) _ (fun i t => passOne_fns t kind unit n i) _ _
@[simp] theorem pass_job : (s.pass kind unit n).job = s.job := by
  unfold pass; split
  · rfl
  · exact forEach_keeps (·.job) _ (fun i t => passOne_job t kind unit n i) _ _
@[simp] theorem pass_exp : (s.pass kind unit n).exp = s.exp := by
  unfold pass; split
  · rfl
  · exact forEach_keeps (·.exp) _ (fun i t => passOne_exp t kind unit n i) _ _
@[simp] theorem pass_bar : (s.pass kind unit n).bar = s.bar := by
  unfold pass; split
  · rfl
  · exact forEach_keeps (·.bar) _ (fun i t => passOne_bar t kind unit n i) _ _
@[simp] theorem pass_se : (s.pass kind unit n).se = s.se := by
  unfold pass; split
  · rfl
  · exact forEach_keeps (·.se) _ (fun i t => passOne_se t kind unit n i) _ _
@[simp] theorem pass_port : (s.pass kind unit n).port = s.port := by
  unfold pass; split
  · rfl
  · exact forEach_keeps (·.port) _ (fun i t => passOne_port t kind unit n i) _ _
@[simp] theorem pass_hls : (s.pass kind unit n).hls = s.hls := by
  unfold pass; split
  · rfl
  · exact forEach_keeps (·.hls) _ (fun i t => passOne_hls t kind unit n i) _ _
@[simp] theorem pass_mer : (s.pass kind unit n).mer = s.mer := by
  unfold pass; split
  · rfl
  · exact forEach_keeps (·.mer) _ (fun i t => passOne_mer t kind unit n i) _ _
@[simp] theorem pass_axis : (s.pass kind unit n).axis = s.axis := by
  unfold pass; split
  · rfl
  · exact forEach_keeps (·.axis) _ (fun i t => passOne_axis t kind unit n i) _ _
@[simp] theorem pass_eye : (s.pass kind unit n).eye = s.eye := by
  unfold pass; split
  · rfl
  · exact forEach_keeps (·.eye) _ (fun i t => passOne_eye t kind unit n i) _ _
@[simp] theorem pass_cal : (s.pass kind unit n).cal = s.cal := by
  unfold pass; split
  · rfl
  · exact forEach_keeps (·.cal) _ (fun i t => passOne_cal t kind unit n i) _ _
@[simp] theorem pass_occ : (s.pass kind unit n).occ = s.occ := by
  unfold pass; split
  · rfl
  · exact forEach_keeps (·.occ) _ (fun i t => passOne_occ t kind unit n i) _ _
@[simp] theorem pass_spl : (s.pass kind unit n).spl = s.spl := by
  unfold pass; split
  · rfl
  · exact forEach_keeps (·.spl) _ (fun i t => passOne_spl t kind unit n i) _ _
@[simp] theorem pass_mem : (s.pass kind unit n).mem = s.mem := by
  unfold pass; split
  · rfl
  · exact forEach_keeps (·.mem) _ (fun i t => passOne_mem t kind unit n i) _ _
@[simp] theorem pass_eth : (s.pass kind unit n).eth = s.eth := by
  unfold pass; split
  · rfl
  · exact forEach_keeps (·.eth) _ (fun i t => passOne_eth t kind unit n i) _ _
@[simp] theorem pass_dma : (s.pass kind unit n).dma = s.dma := by
  unfold pass; split
  · rfl
  · exact forEach_keeps (·.dma) _ (fun i t => passOne_dma t kind unit n i) _ _
@[simp] theorem pass_ovl : (s.pass kind unit n).ovl = s.ovl := by
  unfold pass; split
  · rfl
  · exact forEach_keeps (·.ovl) _ (fun i t => passOne_ovl t kind unit n i) _ _
@[simp] theorem pass_integ : (s.pass kind unit n).integ = s.integ := by
  unfold pass; split
  · rfl
  · exact forEach_keeps (·.integ) _ (fun i t => passOne_integ t kind unit n i) _ _
@[simp] theorem pass_gpioIn : (s.pass kind unit n).gpioIn = s.gpioIn := by
  unfold pass; split
  · rfl
  · exact forEach_keeps (·.gpioIn) _ (fun i t => passOne_gpioIn t kind unit n i) _ _
@[simp] theorem pass_out : (s.pass kind unit n).out = s.out := by
  unfold pass; split
  · rfl
  · exact forEach_keeps (·.out) _ (fun i t => passOne_out t kind unit n i) _ _
@[simp] theorem pass_tick : (s.pass kind unit n).tick = s.tick := by
  unfold pass; split
  · rfl
  · exact forEach_keeps (·.tick) _ (fun i t => passOne_tick t kind unit n i) _ _
@[simp] theorem pass_free : (s.pass kind unit n).free = s.free := by
  unfold pass; split
  · rfl
  · exact forEach_keeps (·.free) _ (fun i t => passOne_free t kind unit n i) _ _
@[simp] theorem pass_setNow : (s.pass kind unit n).setNow = s.setNow := by
  unfold pass; split
  · rfl
  · exact forEach_keeps (·.setNow) _ (fun i t => passOne_setNow t kind unit n i) _ _
@[simp] theorem pass_pending : (s.pass kind unit n).pending = s.pending := by
  unfold pass; split
  · rfl
  · exact forEach_keeps (·.pending) _ (fun i t => passOne_pending t kind unit n i) _ _
end

/-! ## Posting events and completing entries: only `hif` changes -/

section
variable (e : Event)
@[simp] theorem postAsync_cfg : (s.postAsync e).cfg = s.cfg := by unfold postAsync; split <;> rfl
@[simp] theorem postAsync_sys : (s.postAsync e).sys = s.sys := by unfold postAsync; split <;> rfl
@[simp] theorem postAsync_sdr : (s.postAsync e).sdr = s.sdr := by unfold postAsync; split <;> rfl
@[simp] theorem postAsync_fns : (s.postAsync e).fns = s.fns := by unfold postAsync; split <;> rfl
@[simp] theorem postAsync_job : (s.postAsync e).job = s.job := by unfold postAsync; split <;> rfl
@[simp] theorem postAsync_exp : (s.postAsync e).exp = s.exp := by unfold postAsync; split <;> rfl
@[simp] theorem postAsync_bar : (s.postAsync e).bar = s.bar := by unfold postAsync; split <;> rfl
@[simp] theorem postAsync_se : (s.postAsync e).se = s.se := by unfold postAsync; split <;> rfl
@[simp] theorem postAsync_port : (s.postAsync e).port = s.port := by unfold postAsync; split <;> rfl
@[simp] theorem postAsync_hls : (s.postAsync e).hls = s.hls := by unfold postAsync; split <;> rfl
@[simp] theorem postAsync_mer : (s.postAsync e).mer = s.mer := by unfold postAsync; split <;> rfl
@[simp] theorem postAsync_axis : (s.postAsync e).axis = s.axis := by unfold postAsync; split <;> rfl
@[simp] theorem postAsync_eye : (s.postAsync e).eye = s.eye := by unfold postAsync; split <;> rfl
@[simp] theorem postAsync_cal : (s.postAsync e).cal = s.cal := by unfold postAsync; split <;> rfl
@[simp] theorem postAsync_occ : (s.postAsync e).occ = s.occ := by unfold postAsync; split <;> rfl
@[simp] theorem postAsync_spl : (s.postAsync e).spl = s.spl := by unfold postAsync; split <;> rfl
@[simp] theorem postAsync_mem : (s.postAsync e).mem = s.mem := by unfold postAsync; split <;> rfl
@[simp] theorem postAsync_eth : (s.postAsync e).eth = s.eth := by unfold postAsync; split <;> rfl
@[simp] theorem postAsync_dma : (s.postAsync e).dma = s.dma := by unfold postAsync; split <;> rfl
@[simp] theorem postAsync_ovl : (s.postAsync e).ovl = s.ovl := by unfold postAsync; split <;> rfl
@[simp] theorem postAsync_integ : (s.postAsync e).integ = s.integ := by unfold postAsync; split <;> rfl
@[simp] theorem postAsync_pmc : (s.postAsync e).pmc = s.pmc := by unfold postAsync; split <;> rfl
@[simp] theorem postAsync_gpioIn : (s.postAsync e).gpioIn = s.gpioIn := by unfold postAsync; split <;> rfl
@[simp] theorem postAsync_out : (s.postAsync e).out = s.out := by unfold postAsync; split <;> rfl
@[simp] theorem postAsync_tick : (s.postAsync e).tick = s.tick := by unfold postAsync; split <;> rfl
@[simp] theorem postAsync_free : (s.postAsync e).free = s.free := by unfold postAsync; split <;> rfl
@[simp] theorem postAsync_setNow : (s.postAsync e).setNow = s.setNow := by unfold postAsync; split <;> rfl
@[simp] theorem postAsync_pending : (s.postAsync e).pending = s.pending := by unfold postAsync; split <;> rfl
end

section
variable (r : RingIx) (e : Event)
@[simp] theorem postRing_cfg : (s.postRing r e).cfg = s.cfg := by unfold postRing; split <;> rfl
@[simp] theorem postRing_sys : (s.postRing r e).sys = s.sys := by unfold postRing; split <;> rfl
@[simp] theorem postRing_sdr : (s.postRing r e).sdr = s.sdr := by unfold postRing; split <;> rfl
@[simp] theorem postRing_fns : (s.postRing r e).fns = s.fns := by unfold postRing; split <;> rfl
@[simp] theorem postRing_job : (s.postRing r e).job = s.job := by unfold postRing; split <;> rfl
@[simp] theorem postRing_exp : (s.postRing r e).exp = s.exp := by unfold postRing; split <;> rfl
@[simp] theorem postRing_bar : (s.postRing r e).bar = s.bar := by unfold postRing; split <;> rfl
@[simp] theorem postRing_se : (s.postRing r e).se = s.se := by unfold postRing; split <;> rfl
@[simp] theorem postRing_port : (s.postRing r e).port = s.port := by unfold postRing; split <;> rfl
@[simp] theorem postRing_hls : (s.postRing r e).hls = s.hls := by unfold postRing; split <;> rfl
@[simp] theorem postRing_mer : (s.postRing r e).mer = s.mer := by unfold postRing; split <;> rfl
@[simp] theorem postRing_axis : (s.postRing r e).axis = s.axis := by unfold postRing; split <;> rfl
@[simp] theorem postRing_eye : (s.postRing r e).eye = s.eye := by unfold postRing; split <;> rfl
@[simp] theorem postRing_cal : (s.postRing r e).cal = s.cal := by unfold postRing; split <;> rfl
@[simp] theorem postRing_occ : (s.postRing r e).occ = s.occ := by unfold postRing; split <;> rfl
@[simp] theorem postRing_spl : (s.postRing r e).spl = s.spl := by unfold postRing; split <;> rfl
@[simp] theorem postRing_mem : (s.postRing r e).mem = s.mem := by unfold postRing; split <;> rfl
@[simp] theorem postRing_eth : (s.postRing r e).eth = s.eth := by unfold postRing; split <;> rfl
@[simp] theorem postRing_dma : (s.postRing r e).dma = s.dma := by unfold postRing; split <;> rfl
@[simp] theorem postRing_ovl : (s.postRing r e).ovl = s.ovl := by unfold postRing; split <;> rfl
@[simp] theorem postRing_integ : (s.postRing r e).integ = s.integ := by unfold postRing; split <;> rfl
@[simp] theorem postRing_pmc : (s.postRing r e).pmc = s.pmc := by unfold postRing; split <;> rfl
@[simp] theorem postRing_gpioIn : (s.postRing r e).gpioIn = s.gpioIn := by unfold postRing; split <;> rfl
@[simp] theorem postRing_out : (s.postRing r e).out = s.out := by unfold postRing; split <;> rfl
@[simp] theorem postRing_tick : (s.postRing r e).tick = s.tick := by unfold postRing; split <;> rfl
@[simp] theorem postRing_free : (s.postRing r e).free = s.free := by unfold postRing; split <;> rfl
@[simp] theorem postRing_setNow : (s.postRing r e).setNow = s.setNow := by unfold postRing; split <;> rfl
@[simp] theorem postRing_pending : (s.postRing r e).pending = s.pending := by unfold postRing; split <;> rfl
end

section
variable (code : Code) (cls : Cls) (info0 : BitVec 64) (info1 : BitVec 48) (src : Nat)
@[simp] theorem error_cfg : (s.error code cls info0 info1 src).cfg = s.cfg := postAsync_cfg ..
@[simp] theorem error_sys : (s.error code cls info0 info1 src).sys = s.sys := postAsync_sys ..
@[simp] theorem error_sdr : (s.error code cls info0 info1 src).sdr = s.sdr := postAsync_sdr ..
@[simp] theorem error_fns : (s.error code cls info0 info1 src).fns = s.fns := postAsync_fns ..
@[simp] theorem error_job : (s.error code cls info0 info1 src).job = s.job := postAsync_job ..
@[simp] theorem error_exp : (s.error code cls info0 info1 src).exp = s.exp := postAsync_exp ..
@[simp] theorem error_bar : (s.error code cls info0 info1 src).bar = s.bar := postAsync_bar ..
@[simp] theorem error_se : (s.error code cls info0 info1 src).se = s.se := postAsync_se ..
@[simp] theorem error_port : (s.error code cls info0 info1 src).port = s.port := postAsync_port ..
@[simp] theorem error_hls : (s.error code cls info0 info1 src).hls = s.hls := postAsync_hls ..
@[simp] theorem error_mer : (s.error code cls info0 info1 src).mer = s.mer := postAsync_mer ..
@[simp] theorem error_axis : (s.error code cls info0 info1 src).axis = s.axis := postAsync_axis ..
@[simp] theorem error_eye : (s.error code cls info0 info1 src).eye = s.eye := postAsync_eye ..
@[simp] theorem error_cal : (s.error code cls info0 info1 src).cal = s.cal := postAsync_cal ..
@[simp] theorem error_occ : (s.error code cls info0 info1 src).occ = s.occ := postAsync_occ ..
@[simp] theorem error_spl : (s.error code cls info0 info1 src).spl = s.spl := postAsync_spl ..
@[simp] theorem error_mem : (s.error code cls info0 info1 src).mem = s.mem := postAsync_mem ..
@[simp] theorem error_eth : (s.error code cls info0 info1 src).eth = s.eth := postAsync_eth ..
@[simp] theorem error_dma : (s.error code cls info0 info1 src).dma = s.dma := postAsync_dma ..
@[simp] theorem error_ovl : (s.error code cls info0 info1 src).ovl = s.ovl := postAsync_ovl ..
@[simp] theorem error_integ : (s.error code cls info0 info1 src).integ = s.integ := postAsync_integ ..
@[simp] theorem error_pmc : (s.error code cls info0 info1 src).pmc = s.pmc := postAsync_pmc ..
@[simp] theorem error_gpioIn : (s.error code cls info0 info1 src).gpioIn = s.gpioIn := postAsync_gpioIn ..
@[simp] theorem error_out : (s.error code cls info0 info1 src).out = s.out := postAsync_out ..
@[simp] theorem error_tick : (s.error code cls info0 info1 src).tick = s.tick := postAsync_tick ..
@[simp] theorem error_free : (s.error code cls info0 info1 src).free = s.free := postAsync_free ..
@[simp] theorem error_setNow : (s.error code cls info0 info1 src).setNow = s.setNow := postAsync_setNow ..
@[simp] theorem error_pending : (s.error code cls info0 info1 src).pending = s.pending := postAsync_pending ..
end

section
variable (code : Code) (cls : Cls) (unit det src : Nat)
@[simp] theorem errorUnit_cfg : (s.errorUnit code cls unit det src).cfg = s.cfg := postAsync_cfg ..
@[simp] theorem errorUnit_sys : (s.errorUnit code cls unit det src).sys = s.sys := postAsync_sys ..
@[simp] theorem errorUnit_sdr : (s.errorUnit code cls unit det src).sdr = s.sdr := postAsync_sdr ..
@[simp] theorem errorUnit_fns : (s.errorUnit code cls unit det src).fns = s.fns := postAsync_fns ..
@[simp] theorem errorUnit_job : (s.errorUnit code cls unit det src).job = s.job := postAsync_job ..
@[simp] theorem errorUnit_exp : (s.errorUnit code cls unit det src).exp = s.exp := postAsync_exp ..
@[simp] theorem errorUnit_bar : (s.errorUnit code cls unit det src).bar = s.bar := postAsync_bar ..
@[simp] theorem errorUnit_se : (s.errorUnit code cls unit det src).se = s.se := postAsync_se ..
@[simp] theorem errorUnit_port : (s.errorUnit code cls unit det src).port = s.port := postAsync_port ..
@[simp] theorem errorUnit_hls : (s.errorUnit code cls unit det src).hls = s.hls := postAsync_hls ..
@[simp] theorem errorUnit_mer : (s.errorUnit code cls unit det src).mer = s.mer := postAsync_mer ..
@[simp] theorem errorUnit_axis : (s.errorUnit code cls unit det src).axis = s.axis := postAsync_axis ..
@[simp] theorem errorUnit_eye : (s.errorUnit code cls unit det src).eye = s.eye := postAsync_eye ..
@[simp] theorem errorUnit_cal : (s.errorUnit code cls unit det src).cal = s.cal := postAsync_cal ..
@[simp] theorem errorUnit_occ : (s.errorUnit code cls unit det src).occ = s.occ := postAsync_occ ..
@[simp] theorem errorUnit_spl : (s.errorUnit code cls unit det src).spl = s.spl := postAsync_spl ..
@[simp] theorem errorUnit_mem : (s.errorUnit code cls unit det src).mem = s.mem := postAsync_mem ..
@[simp] theorem errorUnit_eth : (s.errorUnit code cls unit det src).eth = s.eth := postAsync_eth ..
@[simp] theorem errorUnit_dma : (s.errorUnit code cls unit det src).dma = s.dma := postAsync_dma ..
@[simp] theorem errorUnit_ovl : (s.errorUnit code cls unit det src).ovl = s.ovl := postAsync_ovl ..
@[simp] theorem errorUnit_integ : (s.errorUnit code cls unit det src).integ = s.integ := postAsync_integ ..
@[simp] theorem errorUnit_pmc : (s.errorUnit code cls unit det src).pmc = s.pmc := postAsync_pmc ..
@[simp] theorem errorUnit_gpioIn : (s.errorUnit code cls unit det src).gpioIn = s.gpioIn := postAsync_gpioIn ..
@[simp] theorem errorUnit_out : (s.errorUnit code cls unit det src).out = s.out := postAsync_out ..
@[simp] theorem errorUnit_tick : (s.errorUnit code cls unit det src).tick = s.tick := postAsync_tick ..
@[simp] theorem errorUnit_free : (s.errorUnit code cls unit det src).free = s.free := postAsync_free ..
@[simp] theorem errorUnit_setNow : (s.errorUnit code cls unit det src).setNow = s.setNow := postAsync_setNow ..
@[simp] theorem errorUnit_pending : (s.errorUnit code cls unit det src).pending = s.pending := postAsync_pending ..
end

section
variable (code : Code) (info0 : BitVec 64) (info1 : BitVec 48) (src : Nat)
@[simp] theorem status_cfg : (s.status code info0 info1 src).cfg = s.cfg := postAsync_cfg ..
@[simp] theorem status_sys : (s.status code info0 info1 src).sys = s.sys := postAsync_sys ..
@[simp] theorem status_sdr : (s.status code info0 info1 src).sdr = s.sdr := postAsync_sdr ..
@[simp] theorem status_fns : (s.status code info0 info1 src).fns = s.fns := postAsync_fns ..
@[simp] theorem status_job : (s.status code info0 info1 src).job = s.job := postAsync_job ..
@[simp] theorem status_exp : (s.status code info0 info1 src).exp = s.exp := postAsync_exp ..
@[simp] theorem status_bar : (s.status code info0 info1 src).bar = s.bar := postAsync_bar ..
@[simp] theorem status_se : (s.status code info0 info1 src).se = s.se := postAsync_se ..
@[simp] theorem status_port : (s.status code info0 info1 src).port = s.port := postAsync_port ..
@[simp] theorem status_hls : (s.status code info0 info1 src).hls = s.hls := postAsync_hls ..
@[simp] theorem status_mer : (s.status code info0 info1 src).mer = s.mer := postAsync_mer ..
@[simp] theorem status_axis : (s.status code info0 info1 src).axis = s.axis := postAsync_axis ..
@[simp] theorem status_eye : (s.status code info0 info1 src).eye = s.eye := postAsync_eye ..
@[simp] theorem status_cal : (s.status code info0 info1 src).cal = s.cal := postAsync_cal ..
@[simp] theorem status_occ : (s.status code info0 info1 src).occ = s.occ := postAsync_occ ..
@[simp] theorem status_spl : (s.status code info0 info1 src).spl = s.spl := postAsync_spl ..
@[simp] theorem status_mem : (s.status code info0 info1 src).mem = s.mem := postAsync_mem ..
@[simp] theorem status_eth : (s.status code info0 info1 src).eth = s.eth := postAsync_eth ..
@[simp] theorem status_dma : (s.status code info0 info1 src).dma = s.dma := postAsync_dma ..
@[simp] theorem status_ovl : (s.status code info0 info1 src).ovl = s.ovl := postAsync_ovl ..
@[simp] theorem status_integ : (s.status code info0 info1 src).integ = s.integ := postAsync_integ ..
@[simp] theorem status_pmc : (s.status code info0 info1 src).pmc = s.pmc := postAsync_pmc ..
@[simp] theorem status_gpioIn : (s.status code info0 info1 src).gpioIn = s.gpioIn := postAsync_gpioIn ..
@[simp] theorem status_out : (s.status code info0 info1 src).out = s.out := postAsync_out ..
@[simp] theorem status_tick : (s.status code info0 info1 src).tick = s.tick := postAsync_tick ..
@[simp] theorem status_free : (s.status code info0 info1 src).free = s.free := postAsync_free ..
@[simp] theorem status_setNow : (s.status code info0 info1 src).setNow = s.setNow := postAsync_setNow ..
@[simp] theorem status_pending : (s.status code info0 info1 src).pending = s.pending := postAsync_pending ..
end

section
variable (off : Nat) (v : Word)
@[simp] theorem refuseWrite_cfg : (s.refuseWrite off v).cfg = s.cfg := postAsync_cfg ..
@[simp] theorem refuseWrite_sys : (s.refuseWrite off v).sys = s.sys := postAsync_sys ..
@[simp] theorem refuseWrite_sdr : (s.refuseWrite off v).sdr = s.sdr := postAsync_sdr ..
@[simp] theorem refuseWrite_fns : (s.refuseWrite off v).fns = s.fns := postAsync_fns ..
@[simp] theorem refuseWrite_job : (s.refuseWrite off v).job = s.job := postAsync_job ..
@[simp] theorem refuseWrite_exp : (s.refuseWrite off v).exp = s.exp := postAsync_exp ..
@[simp] theorem refuseWrite_bar : (s.refuseWrite off v).bar = s.bar := postAsync_bar ..
@[simp] theorem refuseWrite_se : (s.refuseWrite off v).se = s.se := postAsync_se ..
@[simp] theorem refuseWrite_port : (s.refuseWrite off v).port = s.port := postAsync_port ..
@[simp] theorem refuseWrite_hls : (s.refuseWrite off v).hls = s.hls := postAsync_hls ..
@[simp] theorem refuseWrite_mer : (s.refuseWrite off v).mer = s.mer := postAsync_mer ..
@[simp] theorem refuseWrite_axis : (s.refuseWrite off v).axis = s.axis := postAsync_axis ..
@[simp] theorem refuseWrite_eye : (s.refuseWrite off v).eye = s.eye := postAsync_eye ..
@[simp] theorem refuseWrite_cal : (s.refuseWrite off v).cal = s.cal := postAsync_cal ..
@[simp] theorem refuseWrite_occ : (s.refuseWrite off v).occ = s.occ := postAsync_occ ..
@[simp] theorem refuseWrite_spl : (s.refuseWrite off v).spl = s.spl := postAsync_spl ..
@[simp] theorem refuseWrite_mem : (s.refuseWrite off v).mem = s.mem := postAsync_mem ..
@[simp] theorem refuseWrite_eth : (s.refuseWrite off v).eth = s.eth := postAsync_eth ..
@[simp] theorem refuseWrite_dma : (s.refuseWrite off v).dma = s.dma := postAsync_dma ..
@[simp] theorem refuseWrite_ovl : (s.refuseWrite off v).ovl = s.ovl := postAsync_ovl ..
@[simp] theorem refuseWrite_integ : (s.refuseWrite off v).integ = s.integ := postAsync_integ ..
@[simp] theorem refuseWrite_pmc : (s.refuseWrite off v).pmc = s.pmc := postAsync_pmc ..
@[simp] theorem refuseWrite_gpioIn : (s.refuseWrite off v).gpioIn = s.gpioIn := postAsync_gpioIn ..
@[simp] theorem refuseWrite_out : (s.refuseWrite off v).out = s.out := postAsync_out ..
@[simp] theorem refuseWrite_tick : (s.refuseWrite off v).tick = s.tick := postAsync_tick ..
@[simp] theorem refuseWrite_free : (s.refuseWrite off v).free = s.free := postAsync_free ..
@[simp] theorem refuseWrite_setNow : (s.refuseWrite off v).setNow = s.setNow := postAsync_setNow ..
@[simp] theorem refuseWrite_pending : (s.refuseWrite off v).pending = s.pending := postAsync_pending ..
end

section
@[simp] theorem badAccess_cfg : (s.badAccess).cfg = s.cfg := rfl
@[simp] theorem badAccess_sys : (s.badAccess).sys = s.sys := rfl
@[simp] theorem badAccess_sdr : (s.badAccess).sdr = s.sdr := rfl
@[simp] theorem badAccess_fns : (s.badAccess).fns = s.fns := rfl
@[simp] theorem badAccess_job : (s.badAccess).job = s.job := rfl
@[simp] theorem badAccess_exp : (s.badAccess).exp = s.exp := rfl
@[simp] theorem badAccess_bar : (s.badAccess).bar = s.bar := rfl
@[simp] theorem badAccess_se : (s.badAccess).se = s.se := rfl
@[simp] theorem badAccess_port : (s.badAccess).port = s.port := rfl
@[simp] theorem badAccess_hls : (s.badAccess).hls = s.hls := rfl
@[simp] theorem badAccess_mer : (s.badAccess).mer = s.mer := rfl
@[simp] theorem badAccess_axis : (s.badAccess).axis = s.axis := rfl
@[simp] theorem badAccess_eye : (s.badAccess).eye = s.eye := rfl
@[simp] theorem badAccess_cal : (s.badAccess).cal = s.cal := rfl
@[simp] theorem badAccess_occ : (s.badAccess).occ = s.occ := rfl
@[simp] theorem badAccess_spl : (s.badAccess).spl = s.spl := rfl
@[simp] theorem badAccess_mem : (s.badAccess).mem = s.mem := rfl
@[simp] theorem badAccess_eth : (s.badAccess).eth = s.eth := rfl
@[simp] theorem badAccess_dma : (s.badAccess).dma = s.dma := rfl
@[simp] theorem badAccess_ovl : (s.badAccess).ovl = s.ovl := rfl
@[simp] theorem badAccess_integ : (s.badAccess).integ = s.integ := rfl
@[simp] theorem badAccess_pmc : (s.badAccess).pmc = s.pmc := rfl
@[simp] theorem badAccess_gpioIn : (s.badAccess).gpioIn = s.gpioIn := rfl
@[simp] theorem badAccess_out : (s.badAccess).out = s.out := rfl
@[simp] theorem badAccess_tick : (s.badAccess).tick = s.tick := rfl
@[simp] theorem badAccess_free : (s.badAccess).free = s.free := rfl
@[simp] theorem badAccess_setNow : (s.badAccess).setNow = s.setNow := rfl
@[simp] theorem badAccess_pending : (s.badAccess).pending = s.pending := rfl
end

section
variable (r : RingIx) (e : Entry) (code : Code) (info0 : BitVec 64) (info1 : BitVec 48) (src : Nat)
@[simp] theorem complete_cfg : (s.complete r e code info0 info1 src).cfg = s.cfg := by
  simp only [complete]; split
  · exact postRing_cfg ..
  · rfl
@[simp] theorem complete_sys : (s.complete r e code info0 info1 src).sys = s.sys := by
  simp only [complete]; split
  · exact postRing_sys ..
  · rfl
@[simp] theorem complete_sdr : (s.complete r e code info0 info1 src).sdr = s.sdr := by
  simp only [complete]; split
  · exact postRing_sdr ..
  · rfl
@[simp] theorem complete_fns : (s.complete r e code info0 info1 src).fns = s.fns := by
  simp only [complete]; split
  · exact postRing_fns ..
  · rfl
@[simp] theorem complete_job : (s.complete r e code info0 info1 src).job = s.job := by
  simp only [complete]; split
  · exact postRing_job ..
  · rfl
@[simp] theorem complete_exp : (s.complete r e code info0 info1 src).exp = s.exp := by
  simp only [complete]; split
  · exact postRing_exp ..
  · rfl
@[simp] theorem complete_bar : (s.complete r e code info0 info1 src).bar = s.bar := by
  simp only [complete]; split
  · exact postRing_bar ..
  · rfl
@[simp] theorem complete_se : (s.complete r e code info0 info1 src).se = s.se := by
  simp only [complete]; split
  · exact postRing_se ..
  · rfl
@[simp] theorem complete_port : (s.complete r e code info0 info1 src).port = s.port := by
  simp only [complete]; split
  · exact postRing_port ..
  · rfl
@[simp] theorem complete_hls : (s.complete r e code info0 info1 src).hls = s.hls := by
  simp only [complete]; split
  · exact postRing_hls ..
  · rfl
@[simp] theorem complete_mer : (s.complete r e code info0 info1 src).mer = s.mer := by
  simp only [complete]; split
  · exact postRing_mer ..
  · rfl
@[simp] theorem complete_axis : (s.complete r e code info0 info1 src).axis = s.axis := by
  simp only [complete]; split
  · exact postRing_axis ..
  · rfl
@[simp] theorem complete_eye : (s.complete r e code info0 info1 src).eye = s.eye := by
  simp only [complete]; split
  · exact postRing_eye ..
  · rfl
@[simp] theorem complete_cal : (s.complete r e code info0 info1 src).cal = s.cal := by
  simp only [complete]; split
  · exact postRing_cal ..
  · rfl
@[simp] theorem complete_occ : (s.complete r e code info0 info1 src).occ = s.occ := by
  simp only [complete]; split
  · exact postRing_occ ..
  · rfl
@[simp] theorem complete_spl : (s.complete r e code info0 info1 src).spl = s.spl := by
  simp only [complete]; split
  · exact postRing_spl ..
  · rfl
@[simp] theorem complete_mem : (s.complete r e code info0 info1 src).mem = s.mem := by
  simp only [complete]; split
  · exact postRing_mem ..
  · rfl
@[simp] theorem complete_eth : (s.complete r e code info0 info1 src).eth = s.eth := by
  simp only [complete]; split
  · exact postRing_eth ..
  · rfl
@[simp] theorem complete_dma : (s.complete r e code info0 info1 src).dma = s.dma := by
  simp only [complete]; split
  · exact postRing_dma ..
  · rfl
@[simp] theorem complete_ovl : (s.complete r e code info0 info1 src).ovl = s.ovl := by
  simp only [complete]; split
  · exact postRing_ovl ..
  · rfl
@[simp] theorem complete_integ : (s.complete r e code info0 info1 src).integ = s.integ := by
  simp only [complete]; split
  · exact postRing_integ ..
  · rfl
@[simp] theorem complete_pmc : (s.complete r e code info0 info1 src).pmc = s.pmc := by
  simp only [complete]; split
  · exact postRing_pmc ..
  · rfl
@[simp] theorem complete_gpioIn : (s.complete r e code info0 info1 src).gpioIn = s.gpioIn := by
  simp only [complete]; split
  · exact postRing_gpioIn ..
  · rfl
@[simp] theorem complete_out : (s.complete r e code info0 info1 src).out = s.out := by
  simp only [complete]; split
  · exact postRing_out ..
  · rfl
@[simp] theorem complete_tick : (s.complete r e code info0 info1 src).tick = s.tick := by
  simp only [complete]; split
  · exact postRing_tick ..
  · rfl
@[simp] theorem complete_free : (s.complete r e code info0 info1 src).free = s.free := by
  simp only [complete]; split
  · exact postRing_free ..
  · rfl
@[simp] theorem complete_setNow : (s.complete r e code info0 info1 src).setNow = s.setNow := by
  simp only [complete]; split
  · exact postRing_setNow ..
  · rfl
@[simp] theorem complete_pending : (s.complete r e code info0 info1 src).pending = s.pending := by
  simp only [complete]; split
  · exact postRing_pending ..
  · rfl
end

/-! ## The device queue of R115 -/

/-- R115: an event that finds as many waiting as there is room for is lost and counted. -/
theorem postAsync_lost (e : Event) (h : s.asyncRoom ≤ s.hif.async.length) :
    (s.postAsync e).hif.async = s.hif.async ∧ (s.postAsync e).hif.lost = s.hif.lost + 1 := by
  simp [postAsync, h]

/-- R115: any other event joins the queue. -/
theorem postAsync_queued (e : Event) (h : s.hif.async.length < s.asyncRoom) :
    (s.postAsync e).hif = { s.hif with async := s.hif.async ++ [e] } := by
  simp [postAsync, Nat.not_le.mpr h]

/-- R512: an event tied to a dead ring is discarded and counted; on any other ring it waits. -/
theorem postRing_dead (r : RingIx) (e : Event) (h : s.ringDead r = true) :
    (s.postRing r e).hif = { s.hif with lostEvents := sat32 (s.hif.lostEvents + 1) } := by
  simp [postRing, h]

theorem postRing_live (r : RingIx) (e : Event) (h : s.ringDead r = false) :
    (s.postRing r e) = s.onRing r fun c => { c with due := c.due ++ [e] } := by
  simp [postRing, h]

end State
end Sys2Proof.Machine
end

