-- ==== Sys2Proof/Machine/Ecc.lean ====
section
/-!
DEFINITION. The codes of the spool and of the SRAM (R397, R398), and a DRAM row as the code lays it out (R394, R405). Which errors
a code word holds is the state's (Memory.lean); these definitions say which bytes lie in the stacks.
-/
namespace Sys2Proof.Machine

/-! ## GF(2^8) and the two codes (R397, R398) -/

/-- A field element times α = 0x02, under x^8 + x^4 + x^3 + x^2 + 1. -/
def gfDouble (a : Byte) : Byte := if a.getLsbD 7 then (a <<< 1) ^^^ 0x1D else a <<< 1

/-- The product of two field elements, by the bits of the second from bit `n - 1` down. -/
def gfMulBits (a b : Byte) : Nat → Byte
  | 0 => 0
  | n + 1 => (if b.getLsbD (8 - (n + 1)) then a else 0) ^^^ gfDouble (gfMulBits a b n)

/-- The product of two field elements. -/
def gfMul (a b : Byte) : Byte := gfMulBits a b 8

/-- α to a power. -/
def gfPow : Nat → Byte
  | 0 => 1
  | n + 1 => gfDouble (gfPow n)

/-- A polynomial, highest coefficient first, times x - r. -/
def polyTimes (p : List Byte) (r : Byte) : List Byte :=
  List.zipWith (· ^^^ ·) (p ++ [0]) (0 :: p.map (gfMul r))

/-- g(x) = (x - α^0)(x - α^1)…(x - α^(n-1)), highest coefficient first. -/
def rsGenerator (n : Nat) : List Byte := (List.range n).foldl (fun p i => polyTimes p (gfPow i)) [1]

/-- One more data byte in the division by the generator, whose coefficients below the leading one are `g`. -/
def rsStep (g : List Byte) (r : List Byte) (d : Byte) : List Byte :=
  let f := d ^^^ r.headD 0
  List.zipWith (fun x y => x ^^^ gfMul f y) (r.drop 1 ++ [0]) g

/-- R397, R398: the `n` check bytes of a systematic code word, data byte 0 the highest coefficient. -/
def rsCheck (n : Nat) (data : List Byte) : List Byte := data.foldl (rsStep ((rsGenerator n).drop 1)) (List.replicate n 0)

/-- A code word, highest coefficient first, at a field element. -/
def polyAt (x : Byte) (word : List Byte) : Byte := word.foldl (fun a c => gfMul x a ^^^ c) 0

/-- The syndromes of a code word: all 0 when it holds no error. -/
def rsSyndromes (n : Nat) (word : List Byte) : List Byte := (List.range n).map fun i => polyAt (gfPow i) word

/-- R397: the code word of RS(72,64) of a 64-byte block. -/
def hbmWord (data : List Byte) : List Byte := data ++ rsCheck 8 data
/-- R398: the code word of RS(35,32) of a 32-byte SRAM word. -/
def sramWord (data : List Byte) : List Byte := data ++ rsCheck 3 data

namespace State

/-! ## A DRAM row (R394, R405, R407) -/

/-- The 72 symbols of a block of a channel, by its row and its number, with the erroneous ones as they are stored. -/
def storedWord (s : State) (c : ChanIx) (row blk : Nat) : List Byte :=
  let b := physBlock c row blk
  let e := tget (fun _ => []) s.spl.errs b
  (hbmWord (memReads s.mem (64 * b) 64)).mapIdx fun i x => e.foldl (fun y q => if q.1 = i then y ^^^ q.2 else y) x

/-- R405: the 80 bytes of a remap spare of a channel: the data of the block remapped to it, its check symbols and zeros; zeros
while it is not in use, and no good data while it is poisoned. -/
def spareBytes (s : State) (c : ChanIx) (i : Nat) : List Byte :=
  match s.spl.chans[c].remaps[i]? with
  | none => List.replicate 80 0
  | some x =>
    if x.poison then slice (Config.freeBlock (s.free + x.row * 14 + x.blk)) 0 80
    else hbmWord (memReads s.mem (64 * physBlock c x.row x.blk) 64) ++ List.replicate 8 0

/-- R394: the 1,024 bytes of a DRAM row in a granule whose valid bit is set: 14 blocks, their check symbols, and the tail. -/
def dramRow (s : State) (c : ChanIx) (row : Nat) : List Byte :=
  let words := (List.range 14).map (s.storedWord c row)
  words.flatMap (·.take 64) ++ words.flatMap (·.drop 64)
    ++ if row / 5 < 32 then slice (s.spareBytes c (row / 5)) (16 * (row % 5)) 16 else List.replicate 16 0

end State
end Sys2Proof.Machine
end

