-- ==== Sys2Proof/Tests/Slice0.lean ====
section
/-!
SUPPORT. Witnesses of the statements' hypotheses, the worked examples of the spec, and ill-formed commands.
-/
namespace Sys2Proof.Tests
open Sys2Proof Sys2Proof.Machine State
set_option Elab.async false
set_option linter.unusedVariables false

/-- A device out of reset and in service, its host link up, every function stopped, with registers stored as listed. -/
def up (cfg : List (Nat × Word)) : State := { State.reset with
  cfg := cfg
  sys := { Sys.reset with held := [], pll := true, otpRead := true, seeded := true, hbm := true, stage := 4, probed := true, fwReady := true, svc := 1 }
  hif := { Hif.reset with linkUp := true } }

/-- The device while it boots. -/
def boot (f : Sys → Sys) : State := { State.reset with sys := f { Sys.reset with held := [], pll := true, otpRead := true } }

/-- Ring 1 set up: 16 submission slots in host memory, 16 event slots, interrupts on. -/
def ringCfg : List (Nat × Word) := [(aRing 1 0, 0x1000), (aRing 1 8, 0x80000004), (aRing 1 0x10, 0x2000), (aRing 1 0x18, 0x200004)]

def inRing (f : Ring → Ring) (s : State) : State :=
  { s with hif := { s.hif with rings := s.hif.rings.set 1 (f { Ring.reset with state := .active }) } }

def inHif (f : Hif → Hif) (s : State) : State := { s with hif := f s.hif }

/-- An entry by its fields: place, bytes, value. -/
def entry (l : List (Nat × Nat)) : Entry := BitVec.ofNat 512 ((l.map fun f => f.2 * 256 ^ f.1).sum)

def event : Event := ⟨0x1007, .error, 0, 0, 0, 0, 0, 0, .c, none⟩

/-- The whole engine and the timebase run. -/
def runs (s : State) : State := { s with fns := { s.fns with eng := ⟨true, false, false, 1⟩, tb := ⟨true, false, false, 1⟩ } }

/-- Ring 1 runs with `e` fetched and next to start. -/
def atHead (e : Entry) (s : State) : State := s |> inRing fun c => { c with sqHead := 1, sqTail := 1, fetched := [(e, 0)] }

def job1 : Job := ⟨1, (Vector.replicate 16 0).set 0 0x40⟩

/-- A record sheet of job 1 with one row. -/
def sheet1 : Sheet :=
  newSheet 1 (entry [(24, 1)]) 1 1 job1.planeMap 1 1 0 0

def inJob (f : JobState → JobState) (s : State) : State := { s with job := f s.job }

def sheetEntry : Entry := entry [(0, 5), (24, 1), (28, 1), (30, 1), (32, 1)]

/-- Sheet 2 as a REPRINT of sheet 1. -/
def reprint : Entry := entry [(0, 5), (24, 2), (43, 1), (44, 1)]

/-- R157 to R160: a container of job 1 with one row in one slice of one byte. -/
def container : List Byte :=
  let len := leBytes 4 (fmtLen 0 1)
  let h := leBytes 4 0x314E5242 ++ [1, 0, 0, 0, 1, 0, 0, 0, 0, 0, 0, 0, 1, 0, 0, 0] ++ len ++ leBytes 4 128 ++ leBytes 4 1 ++ List.replicate 28 0
  let t := List.replicate 36 0 ++ len ++ leBytes 4 0x454E5242
  h ++ leBytes 4 (foldedCrc (bandContext 1 0 0 0 0x11) h).toNat ++ List.replicate 16 0 ++ t
    ++ leBytes 4 (foldedCrc (bandContext 1 0 0 0 0x13) t).toNat

def bandWrite : Entry := entry [(0, 1), (4, 128)]

def tableEntry : Entry :=
  let e := entry [(0, 7), (4, 2), (24, 4), (28, 262143)]
  entry [(0, 7), (4, 2), (24, 4), (28, 262143), (56, (foldedCrc (tlContext e) [7, 0]).toNat)]

def patchFields : List (Nat × Nat) := [(0, 8), (4, 1), (24, 1), (32, 1)]
def patchEntry : Entry :=
  entry (patchFields ++ [(56, (foldedCrc ((entryHead (entry patchFields)).context 34) [7]).toNat)])

def overlayOn : List (Nat × Word) := (aRing 1 0, 0x1000) :: (aRing 1 8, 0x80000004) :: (aRing 1 0x10, 0x2000) :: (aRing 1 0x18, 0x200004) :: [(aJobTransport, 0x08000000)]

def record1 : Record := ⟨0, 0, 1, false, 0, 0, 0⟩

def mail (msg : Nat) (l : List (Nat × Nat)) : Entry := entry ([(0, 11), (24, msg)] ++ l)

def inFns (f : Fns → Fns) (s : State) : State := { s with fns := f s.fns }
def on : Fn := ⟨true, false, false, 1⟩
def inBar (k : BarIx) (f : Bar → Bar) (s : State) : State := { s with bar := s.bar.set k.1 (f s.bar[k]) }

def func (l : List (Nat × Nat)) : Entry := entry ((0, 6) :: l)

/-- The engine and bar 0 run, and a one-row sheet of job 1 is queued. -/
def printing (cfg : List (Nat × Word)) : State :=
  runs (up cfg) |> inFns (fun f => { f with bar := f.bar.set 0 on }) |> inJob fun j => { j with jobs := [job1], sheets := [sheet1] }

def stop (f : FnRef) (restart : Bool) (gap : Option (BitVec 32)) (set : List FnRef) : FnReq := ⟨f, restart, 1, entry [(0, 6), (1, 2)], gap, set, false⟩

/-- A band of one row in eight slices. -/
def band1 : Band := ⟨⟨1, 0, 0⟩, 0, 128, 1, 0x34, List.replicate 8 2, List.replicate 8 0, false, false, false⟩

def lane7 (i : Nat) : SliceState := if i = 7 then .onLane 33 else .passed 0

def work1 (slices : List SliceState) : Work := ⟨1, band1, 0, 1, slices, 0, none, false, [], [], [], false, none, false, []⟩

/-- A band whose slices are empty, and its last slice as an empty DEFLATE stream at its place in the ring. -/
def workE : Work :=
  let b := { band1 with rows := 0 }
  { work1 ((List.range 8).map lane7) with band := { b with sliceCrc := List.replicate 7 0 ++ [sliceCrc b 7 []] } }

def inChan (c : ChanIx) (f : Chan → Chan) (s : State) : State :=
  { s with spl := { s.spl with chans := s.spl.chans.set c.1 (f s.spl.chans[c]) } }

def read1 : SpoolReq := ⟨0, 0, 0, 0, none, 0, 1, ⟨1, 0, 0⟩, 0⟩

/-- Global row 0 of bar 0: row 0 of the sheet, computed as `parts` say. -/
def row0 (parts : Option (List (Option Nat))) : Row := ⟨0, 1, 0, Vector.replicate 8 parts, [], none, false⟩

theorem noPlanes {a : Option RowSource}
    (h : (match a with | some ⟨none, [], [], none⟩ => true | _ => false) = true) : a = some ⟨none, [], [], none⟩ := by
  split at h <;> simp_all

def inPort (p : PortIx) (f : Port → Port) (s : State) : State := { s with port := s.port.set p.1 (f s.port[p]) }
def inLink (p : PortIx) (f : Link → Link) : State → State := inPort p fun q => { q with link := f q.link }

def qrow : QRow := ⟨0, 1, 0, [], false, false, false, false, 0, false, none⟩

/-- Head port 3 runs and is in service, its link up and row 0 of the sheet in its queue. -/
def queued (cfg : List (Nat × Word)) (r : QRow) (f : Port → Port) : State :=
  (printing ((aPrmBar 0, 0xF) :: cfg) |> inFns fun g => { g with port := g.port.set 3 on })
    |> inPort 3 fun q => f { q with wr := 1, rel := 1, rows := [r], link := { q.link with lstate := 6, idle := false } }

/-- Row 0 of the sheet waits in port 3, sent; the sheet is anchored and the web has long passed it. -/
def late : State :=
  let s := queued [] { qrow with sent := true } id |> inJob fun j => { j with anchors := [⟨some 1, 0, 0, 1, false, 0, true⟩] }
  { s with
    hls := { s.hls with enc := s.hls.enc.map fun e => { e with recs := (List.range 4).map fun i =>
      ((3 - i) * 50000 * 2 ^ 24, -((1000 * i : Nat) : Int)) } }
    mer := { s.mer with time := 10 ^ 10 * 2 ^ 24 } }

def late5 : State := (late |> inPort 3 fun q => { q with rel := 0 }) |> inBar 0 fun b => { b with rows := [{ row0 (some []) with written := true }], grow := 1 }

/-- Sixteen cells of camera 0 with enough columns summed. -/
def cells : Table CellSum := (List.range 16).map fun i => (i, ⟨1000, 0, 0, 10 ^ 12, 0⟩)

theorem clamp_bd (x : Rat) : -1 ≤ clampR (-1) 1 x ∧ clampR (-1) 1 x ≤ 1 := by
  unfold clampR; constructor <;> grind

theorem fround_bd (x : Rat) (h : 0 ≤ x) : x / 2 ≤ fround x ∧ fround x ≤ 2 * x := by
  unfold fround
  have ⟨a, b⟩ := clamp_bd (Config.freeRounding x)
  generalize clampR (-1) 1 (Config.freeRounding x) = c at a b
  have h1 : x * c ≤ x * 1 := Rat.mul_le_mul_of_nonneg_left b h
  have h2 : x * (-1) ≤ x * c := Rat.mul_le_mul_of_nonneg_left a h
  constructor <;> grind

theorem fround_zero : fround 0 = 0 := by
  unfold fround; grind

/-- Whatever the roundings, the line through the records reaches count 0 at the time of the newest one, or within twice that. -/
theorem late_arrival (s : State) (hs : s.hls = late.hls) (hm : s.vmin 0 = 1 / 250000) :
    ∃ t, s.arrival 0 0 = some t ∧ 1 ≤ t ∧ t ≤ 4800001 := by
  have hr : s.hls.enc[(0 : EncIx)].recs = [(2516582400000, 0), (1677721600000, -1000), (838860800000, -2000), (0, -3000)] := by rw [hs]; decide +kernel
  have e1 : (((0 : Int) : Rat) - ((-1000 : Int) : Rat)) = 1000 := by decide +kernel
  have e2 : (((-1000 : Int) : Rat) - ((-2000 : Int) : Rat)) = 1000 := by decide +kernel
  have e3 : (150000 - nsOf 1677721600000) = 50000 := by decide +kernel
  have e4 : (nsOf 1677721600000 - nsOf 838860800000) = 50000 := by decide +kernel
  have e5 : nsOf 2516582400000 = 150000 := by decide +kernel
  have e6 : ((0 : Rat) - ((0 : Int) : Rat)) = 0 := by decide +kernel
  have z0 (x : Rat) : x - x = 0 := by grind
  have z1 (x : Rat) : (0 : Rat) / x = 0 := by grind
  have z2 (x : Rat) : (0 : Rat) * x = 0 := by grind
  have z3 (x : Rat) : x * (0 : Rat) = 0 := by grind
  have z4 (x : Rat) : x + (0 : Rat) = x := by grind
  unfold arrival; rw [hr]
  simp only [hm, fitOf, fadd, fsub, fmul, fdiv, e1, e2, e3, e4, e5, e6, z0, z1, z2, z3, z4, fround_zero]
  have b0 := fround_bd 1000 (by decide +kernel)
  generalize fround 1000 = f at b0
  have b1 := fround_bd 50000 (by decide +kernel)
  generalize fround 50000 = g at b1
  have gp : 0 < g := by grind
  have q1 : f / g * g = f := Rat.div_mul_cancel (by grind)
  have q2 : 1 / 400 ≤ f / g := by
    by_cases h : 1 / 400 ≤ f / g
    · exact h
    · have := Rat.mul_le_mul_of_nonneg_right (Rat.le_of_lt (Rat.not_le.mp h)) (Rat.le_of_lt gp); grind
  generalize f / g = w at q2
  have b2 := fround_bd w (by grind)
  generalize fround w = u at b2
  have b3 := fround_bd u (by grind)
  generalize fround u = v at b3
  have vp : 0 < v := by grind
  have vv := Rat.mul_pos vp vp
  have b4 := fround_bd (v * v) (Rat.le_of_lt vv)
  generalize fround (v * v) = d at b4
  have b5 := fround_bd d (by grind)
  rw [if_neg (by grind)]
  refine ⟨_, rfl, ?_⟩
  have b6 := fround_bd 150000 (by decide +kernel)
  generalize fround 150000 = r at b6
  have : (16 * r + 1 / 2 : Rat).floor < (4800002 : Int) := by
    rw [Rat.floor_lt_iff]; grind
  have : (1 : Int) ≤ (16 * r + 1 / 2 : Rat).floor := by
    rw [Rat.le_floor_iff]; grind
  omega

theorem late_tFire (s : State) (hs : s.hls = late.hls) (hm : s.vmin 0 = 1 / 250000) (a : Anchor) (h1 : s.anchor? 1 = some a)
    (h2 : s.passReady 1 0 = true) (h3 : s.rowEnc = 0) (h4 : s.fireTarget a 0 0 = 0) :
    ∃ t, s.tFire 1 0 0 = some t ∧ t ≤ 4800001 := by
  obtain ⟨t, ht, -, hb⟩ := late_arrival s hs hm
  refine ⟨if s.lpOn 0 then t - s.throwOf 0 else t, ?_, by split <;> omega⟩
  unfold tFire
  rw [h1]
  simp only [h2, h3, h4, ht, Bool.not_true, Bool.false_eq_true, if_false, Option.map_some]

theorem late_ack : ∃ d, late.rowAckBy 3 { qrow with sent := true } = some d ∧ d ≤ late.now16 := by
  obtain ⟨t, ht, hb⟩ := late_tFire late rfl (by decide +kernel) ⟨some 1, 0, 0, 1, false, 0, true⟩ (by decide +kernel)
    (by decide +kernel) (by decide +kernel) (by decide +kernel)
  have h6 : late.now16 = 160000000000 := by decide +kernel
  have h0 : late.testing 3 = false := by decide +kernel
  refine ⟨t - 1600 * late.fld (aPrmPort 3 4) 7 0, ?_, by omega⟩
  show (if late.testing 3 then _ else (late.tFire 1 0 0).map _) = _
  rw [h0, ht]; rfl

theorem late5_ports : late5.latePorts 0 0 ≠ [] := by
  obtain ⟨t, ht, hb⟩ := late_tFire late5 rfl (by decide +kernel) ⟨some 1, 0, 0, 1, false, 0, true⟩ (by decide +kernel)
    (by decide +kernel) (by decide +kernel) (by decide +kernel)
  have h6 : late5.now16 = 160000000000 := by decide +kernel
  have h8 : late5.rowAt 0 0 = some (1, 0) := by decide +kernel
  have h9 : late5.unreleased 0 0 = [3] := by decide +kernel
  have h7 : late5.deliverBy 1 3 0 = some (t - 160 * late5.fld (aPrmPort 3 4) 31 16) := by
    show (late5.tFire 1 0 0).map _ = _
    rw [ht]; rfl
  have h : t - 160 * late5.fld (aPrmPort 3 4) 31 16 ≤ 160000000000 := by omega
  unfold latePorts
  rw [h8]
  simp only [h9, List.filter, deliveryCome, h7, Option.any, h6, decide_eq_true h]
  simp
/-- Link 31, changed as `f` says. -/
def linked (f : Link → Link) : State := up [] |> inLink 31 f

def caps15 : ModCaps := ⟨0, 0, 0, 0, 15, 0⟩

def inEnc (m : EncIx) (f : Encoder → Encoder) (s : State) : State :=
  { s with hls := { s.hls with enc := s.hls.enc.set m.1 (f s.hls.enc[m]) } }

def inMer (f : Meridian → Meridian) (s : State) : State := { s with mer := f s.mer }

def armed (target : Nat) (due : Option Nat) : Slot := ⟨.armed, false, false, 0, target, due, false⟩

def inAxis (x : AxisIx) (f : Axis → Axis) (s : State) : State := { s with axis := s.axis.set x.1 (f s.axis[x]) }

/-- Axis 7 runs. -/
def axis7 (cfg : List (Nat × Word)) (f : Axis → Axis) : State :=
  up cfg |> inFns (fun g => { g with axis := g.axis.set 7 on }) |> inAxis 7 f

/-- Slot 127 of the position slots is armed for count 0, predicted, and the records lead there. -/
def predicted : State :=
  { (up [(aPSlot 127 0xC, 0x20000000)] |> inMer fun m => { m with pslot := m.pslot.set 127 (armed 0 none) }) with hls := late.hls }

theorem predict_due : ∃ d, predicted.posPredict 127 = some d ∧ predicted.now16 < d := by
  obtain ⟨t, ht, h1, -⟩ := late_arrival predicted rfl (by decide +kernel)
  have h2 : predicted.posTarget 127 = some 0 := by decide +kernel
  have h3 : predicted.slotEnc 127 = 0 := by decide +kernel
  have h4 : predicted.rdN (aPSlot 127 0x18) = 0 := by decide +kernel
  have h5 : predicted.now16 = 0 := by decide +kernel
  refine ⟨t, ?_, by omega⟩
  unfold posPredict
  rw [h2]
  simp only [h3, Option.bind_some, Rat.intCast_zero, ht, Option.map_some, Fin.isValue]
  show some (t - 16 * predicted.rdN (aPSlot 127 0x18)) = _
  rw [h4]; rfl

/-- Scanning: the sheet is anchored, and its first feed is to begin on axis 0. -/
def feeds : State :=
  { (runs (up [(aJobTransport, 0x40000000)]) |> inFns fun f => { f with axis := f.axis.set 0 on }) with
    job := { JobState.reset with sheets := [{ sheet1 with anchored := true }], anchors := [⟨some 1, 0, 0, 1, false, 0, true⟩] } }

def feed1 : Pass := ⟨1, 0, feeds.feedTarget 0 0, true, false⟩

def frame0 : Frame := ⟨0, [], [], 2, 0, 0, 0, 0, 0, 0, [0], 0, 0, []⟩

def inCam (c : CamIx) (f : Camera → Camera) (s : State) : State :=
  { s with eye := { s.eye with cam := s.eye.cam.set c.1 (f s.eye.cam[c]) } }

/-- Camera 3 runs. -/
def cam3 (cfg : List (Nat × Word)) (f : Camera → Camera) : State :=
  up cfg |> inFns (fun g => { g with cam := g.cam.set 3 on }) |> inCam 3 f

def recorded : State := cam3 [] fun q => { q with recs := [{ frame0 with flags := flVoid }] }

theorem le_length (n x : Nat) : (leBytes n x).length = n := by
  induction n generalizing x with
  | zero => rfl
  | succ n ih => simp [leBytes, ih]

theorem slice_len (bs : List Byte) (o n : Nat) : (slice bs o n).length = n := by
  simp only [slice, List.length_append, List.length_replicate, List.length_take]; omega

theorem record_length (s : State) (c : CamIx) (f : Frame) (hv : f.has flVoid = true) : (s.recordBytes c f).length = 397312 := by
  have h12 (g : Nat → List Byte) (h : ∀ i, (g i).length = 64) : ((List.range 12).flatMap g).length = 768 := by
    simp only [List.length_flatMap, h]; rfl
  unfold recordBytes statBytes recordHeader
  simp only [hv, if_true, List.length_append, List.length_replicate, le_length, slice_len, h12 _ fun i => slice_len _ _ _]
def head44 : CsiHeader := ⟨0, 44, false, false⟩

def inOcc (f : Occulter → Occulter) (s : State) : State := { s with occ := f s.occ }
def drop1 : TestDrop := ⟨true, Vector.replicate 2 none, false⟩

/-- An Occulter run at a time in units of 2.5 ns, with one drop in flight. -/
def testing1 (cfg : List (Nat × Word)) (now : Nat) (d : TestDrop) : State :=
  (up cfg |> inMer fun m => { m with time := now * 41943040 }) |> inOcc fun o => { o with state := 1, first := 0, drops := [d], fired := 1, queued := 1 }

/-- Fragment 1 of two of a band in transit (R424). -/
def fragment (crc : Nat) : List Byte :=
  let h := [0x5A, 0xB7, 1, 1, 1, 0, 0, 0, 0, 0, 0, 0, 1, 0, 2, 0, 0, 1, 0, 0, 0x40, 1, 0, 0, 0, 1, 0, 0]
  let d := List.replicate 64 7
  h ++ leBytes 4 ((foldedCrc (btContext ⟨1, 0, 0⟩ 1) (h ++ d)).toNat + crc) ++ d

def linkedEth (cfg : List (Nat × Word)) (l : List Tracker) : State :=
  { up cfg with eth := { Ethernet.reset with trackers := l, port := Ethernet.reset.port.map fun q => { q with link := true } } }

def btCfg : List (Nat × Word) := [(aEthPort 1 0, 0x81000000), (aEthPort 1 0xC, 0x0A000001), (aEthPort 1 0x10, 1)]

def track (naks : Nat) : Tracker := ⟨⟨1, 0, 0⟩, 320, 256, 2, 0, [], 1, 0, naks⟩

def dma31 (f : DmaChan → DmaChan) (s : State) : State := { s with dma := { s.dma with ch := s.dma.ch.set 31 (f s.dma.ch[31]) } }
def chain (f : DmaChan → DmaChan) : State := up (ringCfg ++ [(aDma 31 0, 0x80000000)]) |> dma31 f

def xfer1 (runs : List (Nat × Nat × Bool)) (last : Bool) : Transfer := ⟨1, 0, false, last, 0, false, runs, 0, false⟩

def desc1 : Descriptor := BitVec.ofNat 256 (1 + 0x83 * 256 ^ 4 + (spoolSize - 1) * 256 ^ 8 + (deviceArea - 1) * 256 ^ 16)

def overlay (f : Overlay → Overlay) : State := { up [(aJobTransport, 0x08000000), (aOvl 0, 0x87FC07FB)] with ovl := f { Overlay.reset with ignore := false } }

def word1 : FifoWord := ⟨List.replicate 32 7, false, false, some 32, none⟩

def counted (cfg : List (Nat × Word)) (c : Counter) : State := { up cfg with pmc := { Pmc.reset with ctr := Pmc.reset.ctr.set 63 c } }


theorem noneOr {α : Type} {a : Option α} {P : α → Prop} (h : a.isNone = true) : ∀ x, a = some x → P x := by
  intro x e; simp [e] at h

theorem someOnly {α : Type} {a : Option α} {P : α → Prop} (x : α) (h : a = some x) (p : P x) : ∀ y, a = some y → P y := by
  intro y e; cases h.symm.trans e; exact p

/-- Camera port 0 runs. -/
def cam0 (f : Camera → Camera) : State := up [] |> inFns (fun g => { g with cam := g.cam.set 0 on }) |> inCam 0 f

/-- Both Ethernet ports have their link up. -/
def ptp (cfg : List (Nat × Word)) : State :=
  { up cfg with eth := { Ethernet.reset with port := Ethernet.reset.port.map fun q => { q with link := true } } }

/-- Pool channel 0 moves the bulk data of an entry of ring 1. -/
def poolBusy (s : State) : State :=
  { s with dma := { s.dma with ch := s.dma.ch.set 0 { s.dma.ch[0] with state := 2, owner := some (1, bandWrite), left := 128 } } }

/-! ## Witnesses: a state and operands that meet the hypotheses of every clause of every statement -/

theorem test_ResetsLeaveWhatTheirKindLeaves :
    (∃ (s : State) (r : Fin 6), s.sys.mainRails = true) ∧
    (∃ (s : State), s.sys.mainRails = true) ∧
    (∃ (s : State) (i : Fin 8), s.sys.mainRails = true) ∧
    (∃ (s : State) (ns : Nat), 1000 ≤ ns ∧ s.sys.mainRails = true ∧ (∀ (h : Hold), h ∈ s.sys.held → h.cold = false)
        ∧ s.sys.rstTick ≠ s.tick + 1) ∧
    (∃ (s : State) (ns : Nat), 1000 ≤ ns ∧ s.sys.mainRails = true ∧ (∀ (h : Hold), h ∈ s.sys.held → h.cold = false)
        ∧ s.sys.rstTick = s.tick + 1) ∧
    (∃ (s : State) (v : Word), s.hostUp = true ∧ BitVec.getLsbD v 31 = true ∧ s.sys.rstTick ≠ s.tick + 1) ∧
    (∃ (s : State) (c : Fin 5), s.clear = true ∧ s.sys.stage = 4 ∧ s.sys.cores[c] = CoreState.active ∧ s.sys.rstTick
        ≠ s.tick + 1) :=
  ⟨⟨up [], 5, by decide +kernel⟩,
   ⟨up [], by decide +kernel⟩,
   ⟨up [], 7, by decide +kernel⟩,
   ⟨up [], 1000, by decide +kernel⟩,
   ⟨{ up [] with sys := { (up []).sys with held := [.warm], rstTick := 1 } }, 1000, by decide +kernel⟩,
   ⟨up [], 0x80000000, by decide +kernel⟩,
   ⟨up [], 3, by decide +kernel⟩⟩

theorem test_BootStepsInOrder :
    (∃ (s : State), s.sys.mainRails = true) ∧
    (∃ (s : State), s.clear = true) ∧
    (∃ (s : State), CfgForm s ∧ s.clear = true ∧ s.sys.pll = true) ∧
    (∃ (s : State), s.clear = true ∧ s.sys.pll = true ∧ s.sys.seeded = false) ∧
    (∃ (s : State), s.clear = true ∧ s.sys.pll = true ∧ s.sys.otpRead = true ∧ s.sys.seeded = true) ∧
    (∃ (s : State), s.clear = true ∧ s.sys.pll = true ∧ s.sys.seeded = true ∧ s.sys.stage < 2) ∧
    (∃ (s : State) (v : Word), s.clear = true ∧ s.hif.linkUp = true ∧ BitVec.getLsbD v 31 = true ∧ s.sys.stage = 2) :=
  ⟨⟨State.reset, by decide +kernel⟩,
   ⟨boot id, by decide +kernel⟩,
   ⟨boot id, by unfold CfgForm; decide +kernel⟩,
   ⟨boot id, by decide +kernel⟩,
   ⟨boot fun y => { y with seeded := true }, by decide +kernel⟩,
   ⟨boot fun y => { y with seeded := true, stage := 1 }, by decide +kernel⟩,
   ⟨(boot fun y => { y with stage := 2 }) |> inHif fun h => { h with linkUp := true }, 0x80000000, by decide +kernel⟩⟩

theorem test_ImagesAndPortProbe :
    (∃ (s : State) (a : List Byte) (b : List Byte) (bad : List (Fin 5)), s.clear = true ∧ s.sys.pll = true ∧
        s.sys.hbm = true ∧ s.sys.stage < 2) ∧
    (∃ (s : State) (image : List Byte) (bad : List (Fin 5)), s.clear = true ∧ s.sys.stage = 3 ∧ 512 + imgBodyLen
        (slice image 0 (s.rdN aBootLen)) = s.rdN aBootLen) ∧
    (∃ (s : State) (found : List (PortIx × ModCaps)), s.clear = true ∧ s.sys.stage = 4 ∧ s.sys.probed = false) :=
  ⟨⟨boot fun y => { y with hbm := true, stage := 1 }, [], [], [4], by decide +kernel⟩,
   ⟨{ boot (fun y => { y with stage := 3 }) with cfg := [(aBootLen, 512)] }, [], [], by decide +kernel⟩,
   ⟨boot fun y => { y with stage := 4 }, [(31, ⟨4096, 256, 15, 3, 16, 65536⟩)], by decide +kernel⟩⟩

theorem test_FirmwareReadyOpensService :
    (∃ (s : State), s.clear = true ∧ s.sys.hbm = true ∧ s.sys.seeded = true ∧ s.sys.stage = 4 ∧ s.sys.probed = true
        ∧ s.sys.fwReady = false ∧ 4 ≤ s.activeCores) ∧
    (∃ (s : State) (i : Fin 8), s.up = true ∧ AsyncRoom s) :=
  ⟨⟨boot fun y => { y with hbm := true, seeded := true, stage := 4, probed := true }, by decide +kernel⟩,
   ⟨up [], 7, by unfold AsyncRoom; decide +kernel⟩⟩

theorem test_SiderealCountsLoadsAndRecords :
    (∃ (s : State), s.sys.mainRails = false ∨ Hold.porst ∈ s.sys.held) ∧
    (∃ (s : State), s.sdr.armed = #v[false, false]) ∧
    (∃ (s : State) (n : Fin 2), s.sdr.busy = false ∧ s.sdr.sub < 32767 ∧ s.sdr.armed[n] = true ∧ s.sdrPair (48 + 8 *
        n.1) ≤ s.sdr.sec) ∧
    (∃ (s : State), s.sdrReach = true ∧ s.sdr.busy = false) ∧
    (∃ (s : State) (n : Fin 2), s.sdrReach = true) ∧
    (∃ (s : State), s.sdrReach = true) ∧
    (∃ (s : State) (n : Fin 4) (level : Nat), s.fbit (aSdr (64 + 4 * n.1)) 15 = true ∧ s.fbit (aSdr (64 + 4 * n.1))
        11 = false ∧ s.sdr.high[n] = false ∧ s.sdr.event[n] = false ∧ 75 * s.fld (aSdr (64 + 4 * n.1)) 7 0 + 160 ≤
        level) :=
  ⟨⟨State.reset, by decide +kernel⟩,
   ⟨State.reset, by decide +kernel⟩,
   ⟨{ up [(aSdr 0x38, 5)] with sdr := { Sidereal.reset with sec := 5, sub := 32766, armed := #v[false, true] } }, 1, by decide +kernel⟩,
   ⟨up [], by decide +kernel⟩,
   ⟨up [], 1, by decide +kernel⟩,
   ⟨up [], by decide +kernel⟩,
   ⟨up [(aSdr 0x40, 0x80FF)], 0, 19285, by decide +kernel⟩⟩

theorem test_DoorbellsMoveOrHalt :
    (∃ (s : State) (r : RingIx) (v : Word) (p : Nat), s.hostUp = true ∧ r.1 ≠ 0 ∧ s.hif.rings[r].state =
        RingState.active ∧ State.bellPos v (s.sqSize r) = some p ∧ s.sqBellOk r p = true ∧ p ≠
        s.hif.rings[r].sqTail) ∧
    (∃ (s : State) (r : RingIx) (v : Word), s.hostUp = true ∧ r.1 ≠ 0 ∧ s.hif.rings[r].state = RingState.active ∧
        Option.filter (s.sqBellOk r) (State.bellPos v (s.sqSize r)) = none ∧ s.hif.rings[r].lostHalt = false) ∧
    (∃ (s : State) (r : RingIx) (v : Word) (p : Nat), s.hostUp = true ∧ r.1 ≠ 0 ∧ s.hif.rings[r].state =
        RingState.active ∧ State.bellPos v (s.eqSize r) = some p ∧ s.eqBellOk r p = true) ∧
    (∃ (s : State) (r : RingIx) (v : Word), s.hostUp = true ∧ r.1 ≠ 0 ∧ s.hif.rings[r].state = RingState.active ∧
        Option.filter (s.eqBellOk r) (State.bellPos v (s.eqSize r)) = none) :=
  ⟨⟨up ringCfg |> inRing id, 1, 0x80000000, 16, by decide +kernel⟩,
   ⟨up ringCfg |> inRing id, 1, 0x80000001, by decide +kernel⟩,
   ⟨up ringCfg |> inRing (fun c => { c with eqTail := 16 }), 1, 0x80000000, 16, by decide +kernel⟩,
   ⟨up ringCfg |> inRing id, 1, 16, by decide +kernel⟩⟩

theorem test_RingsEnableDrainAndDisable :
    (∃ (s : State) (r : RingIx) (v : Word), s.hostUp = true ∧ r.1 ≠ 0 ∧ s.hif.rings[r].state = RingState.disabled ∧
        s.fbit (aRing r 8) 31 = false ∧ BitVec.getLsbD v 31 = true ∧ s.ringSettings r v = true) ∧
    (∃ (s : State) (r : RingIx) (v : Word), CfgForm s ∧ s.hostUp = true ∧ r.1 ≠ 0 ∧ (s.hif.rings[r].state =
        RingState.active ∨ s.hif.rings[r].state = RingState.halted) ∧ BitVec.getLsbD v 31 = false ∧ BitVec.toNat (v
        &&& 4026531871) = s.rdN (aRing r 8) % 2 ^ 31) ∧
    (∃ (s : State) (r : RingIx), s.hif.rings[r].state = RingState.draining ∧ State.drained s.hif.rings[r] = true) :=
  ⟨⟨up [(aRing 1 0, 0x1000), (aRing 1 0x10, 0x2000), (aRing 1 0x18, 0x10)], 1, 0x80000010, by decide +kernel⟩,
   ⟨up [(aRing 1 0, 0x1000), (aRing 1 0x10, 0x2000)] |> inRing (fun c => { c with state := .halted, cause := 5 }), 1, 4,
       by unfold CfgForm; decide +kernel⟩,
   ⟨up ringCfg |> inRing (fun c => { c with state := .draining }), 1, by decide +kernel⟩⟩

theorem test_EntriesAreFetchedInOrder :
    ∃ (s : State) (r : RingIx) (entries : List Entry), s.hostUp = true ∧ s.fetchRing = some r ∧ s.fetchCount r
        entries ≠ 0 :=
  ⟨up ringCfg |> inRing (fun c => { c with sqTail := 16, bells := [(16, 0)] }), 1, [entry []], by decide +kernel⟩

theorem test_EventsAreWrittenAndSignalled :
    (∃ (s : State) (r : RingIx) (e : Event) (rest : List Event), s.up = true ∧ s.hif.rings[r].due = e :: rest ∧
        s.ringDead r = false ∧ s.eqFull r = false) ∧
    (∃ (s : State) (r : RingIx) (e : Event) (rest : List Event), s.up = true ∧ s.hif.rings[r].due = e :: rest ∧
        s.ringDead r = true) ∧
    (∃ (s : State) (r : RingIx) (e : Event) (rest : List Event), s.up = true ∧ s.asyncRing = some r ∧ s.asyncBlocked
        = false ∧ s.hif.lost = 0 ∧ s.hif.async = e :: rest) ∧
    (∃ (s : State) (r : RingIx), s.hostUp = true ∧ s.irqEn r = true ∧ s.modTime r ≠ 0 ∧ 0 < s.hif.rings[r].unsig) ∧
    (∃ (s : State) (v : Fin 128), s.hostUp = true ∧ s.hif.pba[v] = true) :=
  ⟨⟨up ringCfg |> inRing (fun c => { c with due := [event], eqTail := 15 }), 1, event, [], by decide +kernel⟩,
   ⟨up ringCfg |> inRing (fun c => { c with state := .halted, lostHalt := true, due := [event] }), 1, event, [],
       by decide +kernel⟩,
   ⟨(up ((aHifCtrl, 0x100) :: ringCfg) |> inRing id) |> inHif fun h => { h with async := [event] }, 1, event, [],
       by decide +kernel⟩,
   ⟨up [(aRing 1 0x18, 0x00203004)] |> inRing (fun c => { c with unsig := 1 }), 1, by decide +kernel⟩,
   ⟨up [] |> inHif fun h => { h with pba := h.pba.set 127 true }, 127, by decide +kernel⟩⟩

theorem test_HostLossIsHandled :
    (∃ (s : State) (v : Word), s.hostUp = true ∧ s.fbit aHifHbCfg 31 = true ∧ s.hif.hb = HbState.idle) ∧
    (∃ (s : State), s.up = true ∧ s.hif.hb = HbState.armed ∧ s.engRuns = false ∧ AsyncRoom s) ∧
    (∃ (s : State) (c : LinkCause), s.hostUp = true) ∧
    (∃ (s : State), s.clear = true ∧ s.sys.pll = true) ∧
    (∃ (s : State) (r : RingIx) (a : BitVec 64), s.hostUp = true ∧ s.fetchable r = true) ∧
    (∃ (s : State) (r : RingIx), s.hostUp = true ∧ s.hif.rings[r].state ≠ RingState.disabled ∧
        s.hif.rings[r].lostHalt = false) :=
  ⟨⟨up [(aHifHbCfg, 0x80000001)], 0xFFFFFFFF, by decide +kernel⟩,
   ⟨up [] |> inHif fun h => { h with hb := .armed }, by unfold AsyncRoom; decide +kernel⟩,
   ⟨up ringCfg |> inRing (fun c => { c with due := [event], bells := [(16, 0)] }), .flr, by decide +kernel⟩,
   ⟨boot id, by decide +kernel⟩,
   ⟨up ringCfg |> inRing (fun c => { c with sqTail := 1, bells := [(16, 0)] }), 1, 0x1000, by decide +kernel⟩,
   ⟨up ringCfg |> inRing (fun c => { c with state := .halted, cause := 1 }), 1, by decide +kernel⟩⟩

theorem test_RegisterWritesStoreOrAreRefused :
    (∃ (s : State) (off : BitVec 26) (v : Word) (i : RegInfo), off.toNat % 4 = 0 ∧ s.bar0Up = true ∧ s.sys.fwReady =
        true ∧ regInfo off.toNat = some i ∧ State.specialWrite off.toNat v (State.hostIn 4 s) = none ∧ (State.hostIn
        4 s).storeRefused off.toNat i v = true ∧ AsyncRoom s) ∧
    (∃ (s : State) (off : BitVec 26) (v : Word) (i : RegInfo), off.toNat % 4 = 0 ∧ s.bar0Up = true ∧ s.sys.fwReady =
        true ∧ regInfo off.toNat = some i ∧ State.specialWrite off.toNat v (State.hostIn 4 s) = none ∧ (State.hostIn
        4 s).storeRefused off.toNat i v = false ∧ off.toNat / 1048576 ∈ [1, 4, 5, 6, 8, 9, 10, 11, 12, 14, 16, 17,
        19, 21]) ∧
    (∃ (s : State) (off : BitVec 26) (v : Word), off.toNat % 4 = 0 ∧ s.bar0Up = true ∧ s.sys.fwReady = true ∧
        regInfo off.toNat = none) ∧
    (∃ (s : State) (off : BitVec 26) (v : Word) (w : Word), off.toNat % 4 = 0 ∧ s.bar0Up = true ∧ s.sys.fwReady =
        true ∧ off.toNat % 8 = 0) :=
  ⟨⟨runs (up []), 0x500000, 0, .stored 64 0x007F007F .engine, by unfold AsyncRoom; decide +kernel⟩,
   ⟨up [], 0x500000, 0, .stored 64 0x007F007F .engine, by decide +kernel⟩,
   ⟨up [], 0x3FFFFFC, 0, by decide +kernel⟩,
   ⟨up [], 0x3FFFFF8, 0, 1, by decide +kernel⟩⟩

theorem test_ReadsReturnAndHold :
    (∃ (s : State) (off : BitVec 26), off.toNat % 4 = 0 ∧ s.bar0Up = true ∧ s.sys.fwReady = true ∧ (regInfo
        off.toNat).isSome = true ∧ State.snapshotLo off.toNat = true ∧ tableWf (fun (x : Nat) => 0) 0 s.hif.hiCopy =
        true) ∧
    (∃ (s : State), s.hostUp = true) ∧
    (∃ (s : State) (p : EthIx), s.hostUp = true) ∧
    (∃ (s : State) (n : Nat), s.bar0Up = true ∧ s.sys.fwReady = true) :=
  ⟨⟨up [], 0x500010, by decide +kernel⟩,
   ⟨up [], by decide +kernel⟩,
   ⟨up [], 1, by decide +kernel⟩,
   ⟨up [], 16, by decide +kernel⟩⟩

theorem test_SpoolWriteThenRead :
    (∃ (s : State) (port : Nat) (a : Nat) (bs : List Byte), SoundSpool s ∧ port < 8 ∧ bs ≠ [] ∧ a + bs.length ≤
        spoolSize) ∧
    (∃ (s : State) (port : Nat) (a : Nat) (bs : List Byte), SoundSpool s ∧ port < 8 ∧ bs ≠ [] ∧ a + bs.length ≤
        spoolSize ∧ a + bs.length ≤ deviceArea) :=
  ⟨⟨up [], 7, spoolSize - 1, [0xFF], by unfold SoundSpool SpoolForm; decide +kernel⟩,
   ⟨up [], 7, deviceArea - 1, [0xFF], by unfold SoundSpool SpoolForm; decide +kernel⟩⟩

theorem test_Bar4ReadsAndWritesTheSpool :
    (∃ (s : State) (o : BitVec 32) (len : Nat), s.bar0Up = true ∧ s.sys.fwReady = true ∧ o.toNat + len ≤ 2 ^ 32 ∧ 1
        ≤ len ∧ s.sys.lpCur ≠ 2 ∧ s.bar4Addr o.toNat + len ≤ spoolSize) ∧
    (∃ (s : State) (o : BitVec 32) (bs : List Byte), s.hostUp = true ∧ s.bar0Up = true ∧ o.toNat + bs.length ≤ 2 ^
        32 ∧ bs ≠ [] ∧ s.sys.lpCur ≠ 2 ∧ s.fbit aHifDbg 31 = true ∧ s.fnStopped FnRef.engine = true ∧ s.bar4Addr
        o.toNat + bs.length ≤ State.deviceOnly ∧ SoundSpool s) ∧
    (∃ (s : State) (o : BitVec 32) (bs : List Byte), s.hostUp = true ∧ o.toNat + bs.length ≤ 2 ^ 32 ∧ bs ≠ [] ∧
        (s.fbit aHifDbg 31 = false ∨ s.fnStopped FnRef.engine = false)) :=
  ⟨⟨up [], 4294967295, 1, by decide +kernel⟩,
   ⟨up [(aHifDbg, 0x80000000)], 4294967295, [0xFF], by unfold SoundSpool SpoolForm; decide +kernel⟩,
   ⟨up [], 0, [0xFF], by decide +kernel⟩⟩

theorem test_SettingsNeedAStoppedEngine :
    (∃ (s : State) (v : Word), s.hostUp = true ∧ s.fnStopped FnRef.engine = true ∧ (v &&& 3 = 1 ∨ v &&& 3 = 2)) ∧
    (∃ (s : State) (v : Word), s.hostUp = true ∧ s.engRuns = false ∧ s.fns.eng.busy = false ∧ BitVec.getLsbD v 31 =
        true ∧ s.spl.flip = none ∧ State.flipRange (BitVec.toNat v) = false) ∧
    (∃ (s : State) (v : Word), s.hostUp = true ∧ s.engRuns = true ∧ AsyncRoom s) :=
  ⟨⟨up [], 2, by decide +kernel⟩,
   ⟨up [], 0x80000000, by decide +kernel⟩,
   ⟨runs (up []), 5, by unfold AsyncRoom; decide +kernel⟩⟩

theorem test_NopCompletesAndMalformedEntriesFail :
    (∃ (s : State) (r : RingIx) (e : Entry), AtHead s r e ∧ opcode e = 0 ∧ fieldsOnly e [] = true) ∧
    (∃ (s : State) (r : RingIx) (e : Entry), s.entry? r = some e ∧ r.1 ≠ 0 ∧ s.ringDead r = false ∧ (∀ (x : Entry ×
        Nat), x ∈ s.hif.rings[r].running → x.fst ≠ e) ∧ (11 < opcode e ∨ opcode e = 0 ∧ fieldsOnly e [] = false)) :=
  ⟨⟨atHead (entry []) (up ringCfg), 1, entry [], by unfold AtHead; decide +kernel⟩,
   ⟨atHead (entry [(0, 12)]) (up ringCfg), 1, entry [(0, 12)], by decide +kernel⟩⟩

theorem test_JobsAndSheetsQueue :
    (∃ (s : State) (r : RingIx) (e : Entry), AtHead s r e ∧ opcode e = 3 ∧ formJobOpen e = true ∧ s.job.jobs.length
        < 16 ∧ s.job? (fieldAt e 24 2) = none) ∧
    (∃ (s : State) (r : RingIx) (e : Entry), AtHead s r e ∧ opcode e = 3 ∧ formJobOpen e = true ∧ s.job.jobs.length
        < 16 ∧ (s.job? (fieldAt e 24 2)).isSome = true) ∧
    (∃ (s : State) (r : RingIx) (e : Entry), AtHead s r e ∧ opcode e = 3 ∧ formJobOpen e = true ∧ 16 ≤
        s.job.jobs.length) ∧
    (∃ (s : State) (r : RingIx) (e : Entry), AtHead s r e ∧ opcode e = 4 ∧ formJobClose e = true ∧ (s.job? (fieldAt
        e 24 2)).isSome = true) ∧
    (∃ (s : State) (r : RingIx) (e : Entry), AtHead s r e ∧ opcode e = 4 ∧ formJobClose e = true ∧ s.job? (fieldAt e
        24 2) = none) ∧
    (∃ (s : State) (r : RingIx) (e : Entry), AtHead s r e ∧ opcode e = 5 ∧ formSheet e = true ∧ 64 ≤
        s.job.sheets.length) ∧
    (∃ (s : State) (r : RingIx) (e : Entry) (j : Job), AtHead s r e ∧ opcode e = 5 ∧ formSheet e = true ∧
        s.job.sheets.length < 64 ∧ fieldAt e 43 1 = 0 ∧ s.job? (fieldAt e 28 2) = some j ∧ (∀ (p : Fin 16), bit
        (fieldAt e 30 2) ↑p = true → BitVec.toNat j.planeMap[p] / 64 ≠ 0) ∧ ∀ (l : BitVec 32), s.job.lastId = some l
        → afterMod 32 (fieldAt e 24 4) l.toNat = true) ∧
    (∃ (s : State) (r : RingIx) (e : Entry) (j : Job), AtHead s r e ∧ opcode e = 5 ∧ formSheet e = true ∧
        s.job.sheets.length < 64 ∧ fieldAt e 43 1 = 0 ∧ s.job? (fieldAt e 28 2) = some j ∧ (∀ (p : Fin 16), bit
        (fieldAt e 30 2) ↑p = true → BitVec.toNat j.planeMap[p] / 64 ≠ 0) ∧ ¬∀ (l : BitVec 32), s.job.lastId = some
        l → afterMod 32 (fieldAt e 24 4) l.toNat = true) ∧
    (∃ (s : State) (r : RingIx) (e : Entry) (j : Job) (p : Fin 16), AtHead s r e ∧ opcode e = 5 ∧ formSheet e = true
        ∧ s.job.sheets.length < 64 ∧ fieldAt e 43 1 = 0 ∧ s.job? (fieldAt e 28 2) = some j ∧ bit (fieldAt e 30 2) ↑p
        = true ∧ BitVec.toNat j.planeMap[p] / 64 = 0) ∧
    (∃ (s : State) (r : RingIx) (e : Entry), AtHead s r e ∧ opcode e = 5 ∧ formSheet e = true ∧ s.job.sheets.length
        < 64 ∧ fieldAt e 43 1 = 0 ∧ s.job? (fieldAt e 28 2) = none) ∧
    (∃ (s : State) (r : RingIx) (e : Entry) (m : SheetRecord), AtHead s r e ∧ opcode e = 5 ∧ formSheet e = true ∧
        s.job.sheets.length < 64 ∧ fieldAt e 43 1 = 1 ∧ s.record? (BitVec.ofNat 32 (fieldAt e 44 4)) = some m ∧
        m.jobUid = true ∧ m.valid s.job.tail = true ∧ ∀ (l : BitVec 32), s.job.lastId = some l → afterMod 32
        (fieldAt e 24 4) l.toNat = true) ∧
    (∃ (s : State) (r : RingIx) (e : Entry) (m : SheetRecord), AtHead s r e ∧ opcode e = 5 ∧ formSheet e = true ∧
        s.job.sheets.length < 64 ∧ fieldAt e 43 1 = 1 ∧ s.record? (BitVec.ofNat 32 (fieldAt e 44 4)) = some m ∧
        m.jobUid = true ∧ m.valid s.job.tail = true ∧ ¬∀ (l : BitVec 32), s.job.lastId = some l → afterMod 32
        (fieldAt e 24 4) l.toNat = true) ∧
    (∃ (s : State) (r : RingIx) (e : Entry), AtHead s r e ∧ opcode e = 5 ∧ formSheet e = true ∧ s.job.sheets.length
        < 64 ∧ fieldAt e 43 1 = 1 ∧ ∀ (m : SheetRecord), s.record? (BitVec.ofNat 32 (fieldAt e 44 4)) = some m →
        m.jobUid = false ∨ m.valid s.job.tail = false) :=
  ⟨⟨atHead (entry [(0, 3), (24, 1), (28, 0x40)]) (up ringCfg) |> inJob (fun j => { j with jobs := (List.range 15).map fun i => ⟨i + 2, job1.planeMap⟩ }), 1, entry [(0, 3), (24, 1), (28, 0x40)],
      by unfold AtHead; decide +kernel⟩,
   ⟨atHead (entry [(0, 3), (24, 1)]) (up ringCfg) |> inJob (fun j => { j with jobs := List.replicate 15 job1 }), 1, entry [(0, 3), (24, 1)],
       by unfold AtHead; decide +kernel⟩,
   ⟨atHead (entry [(0, 3), (24, 1)]) (up ringCfg) |> inJob (fun j => { j with jobs := List.replicate 16 job1 }), 1, entry [(0, 3), (24, 1)],
       by unfold AtHead; decide +kernel⟩,
   ⟨atHead (entry [(0, 4), (24, 1)]) (up ringCfg) |> inJob (fun j => { j with jobs := [job1] }), 1, entry [(0, 4), (24, 1)],
       by unfold AtHead; decide +kernel⟩,
   ⟨atHead (entry [(0, 4), (24, 1)]) (up ringCfg), 1, entry [(0, 4), (24, 1)], by unfold AtHead; decide +kernel⟩,
   ⟨atHead sheetEntry (up ringCfg) |> inJob (fun j => { j with jobs := [job1], sheets := List.replicate 64 sheet1 }), 1, sheetEntry,
       by unfold AtHead; decide +kernel⟩,
   ⟨atHead sheetEntry (up ringCfg) |> inJob (fun j => { j with jobs := [job1], sheets := List.replicate 63 sheet1 }), 1, sheetEntry, job1,
       ⟨by unfold AtHead; decide +kernel, by decide +kernel, by decide +kernel, by decide +kernel, by decide +kernel,
        by decide +kernel, by decide +kernel, noneOr rfl⟩⟩,
   ⟨atHead sheetEntry (up ringCfg) |> inJob (fun j => { j with jobs := [job1], lastId := some 1 }), 1, sheetEntry, job1,
       ⟨by unfold AtHead; decide +kernel, by decide +kernel, by decide +kernel, by decide +kernel, by decide +kernel,
        by decide +kernel, by decide +kernel, fun h => absurd (h 1 rfl) (by decide +kernel)⟩⟩,
   ⟨atHead sheetEntry (up ringCfg) |> inJob (fun j => { j with jobs := [{ job1 with planeMap := Vector.replicate 16 0 }] }), 1, sheetEntry, { job1 with planeMap := Vector.replicate 16 0 }, 0,
       by unfold AtHead; decide +kernel⟩,
   ⟨atHead sheetEntry (up ringCfg), 1, sheetEntry, by unfold AtHead; decide +kernel⟩,
   ⟨atHead reprint (up ringCfg) |> inJob (fun j => { j with records := [⟨sheet1, some 5, true⟩], tail := 5, lastId := some 1 }), 1, reprint, ⟨sheet1, some 5, true⟩,
       ⟨by unfold AtHead; decide +kernel, by decide +kernel, by decide +kernel, by decide +kernel, by decide +kernel,
        by decide +kernel, by decide +kernel, by decide +kernel, someOnly 1 rfl (by decide +kernel)⟩⟩,
   ⟨atHead reprint (up ringCfg) |> inJob (fun j => { j with records := [⟨sheet1, some 5, true⟩], tail := 5, lastId := some 2 }), 1, reprint, ⟨sheet1, some 5, true⟩,
       ⟨by unfold AtHead; decide +kernel, by decide +kernel, by decide +kernel, by decide +kernel, by decide +kernel,
        by decide +kernel, by decide +kernel, by decide +kernel, fun h => absurd (h 2 rfl) (by decide +kernel)⟩⟩,
   ⟨atHead reprint (up ringCfg) |> inJob (fun j => { j with records := [⟨sheet1, some 5, true⟩], tail := 6 }), 1, reprint,
       ⟨by unfold AtHead; decide +kernel, by decide +kernel, by decide +kernel, by decide +kernel, by decide +kernel,
        someOnly ⟨sheet1, some 5, true⟩ (by decide +kernel) (by decide +kernel)⟩⟩⟩

theorem test_ContainersLandAndArePublished :
    (∃ (s : State) (r : RingIx) (e : Entry), AtHead s r e ∧ BulkOk s ∧ opcode e = 1 ∧ formBandWrite e = true ∧
        s.job.waiting = [] ∧ (fieldAt e 4 4 + 63) / 64 ≤ s.ringFree) ∧
    (∃ (s : State) (r : RingIx) (e : Entry), AtHead s r e ∧ s.sys.lpCur ≠ 2 ∧ opcode e = 1 ∧ formBandWrite e = true
        ∧ s.ringFree < (fieldAt e 4 4 + 63) / 64 ∧ ∀ (x : Span), x ∈ s.job.spans → s.spanSoft x = false) ∧
    (∃ (s : State) (r : RingIx) (e : Entry) (table : List IndexEntry), AtHead s r e ∧ BulkOk s ∧ opcode e = 2 ∧
        formBandGather e = true ∧ fieldAt e 28 1 = 0 ∧ s.job.waiting = [] ∧ (fieldAt e 4 4 + 63) / 64 ≤ s.ringFree) ∧
    (∃ (s : State) (r : RingIx) (e : Entry) (len : Nat) (rest : List WaitingLand), s.up = true ∧ BulkOk s ∧
        s.job.waiting = { src := LandSource.entry r e, len := len } :: rest ∧ (len + 63) / 64 ≤ s.ringFree) ∧
    (∃ (s : State) (pos : Nat) (u : Nat) (host : List Byte) (r : RingIx) (e : Entry), SoundSpool s ∧ s.up = true ∧
        s.sys.lpCur ≠ 2 ∧ s.hif.linkUp = true ∧ 0 < s.ringUnits ∧ s.ringBase + 64 * s.ringUnits ≤ spoolSize ∧
        fieldAt e 4 4 ≤ 64 * s.ringUnits ∧ List.find? (fun (x : Span) => decide (x.pos = pos)) s.job.spans = some {
        pos := pos, units := u, use := SpanUse.landing (LandSource.entry r e) } ∧ containerSound (slice host 0
        (fieldAt e 4 4)) = true ∧ s.planeOpen (cJob (slice host 0 (fieldAt e 4 4))) (cPlane (slice host 0 (fieldAt e
        4 4))) = true ∧ s.band? (containerBand (slice host 0 (fieldAt e 4 4)) pos).key = none ∧ s.job.bands.length <
        262144) :=
  ⟨⟨atHead bandWrite (up ringCfg), 1, bandWrite, by unfold AtHead BulkOk; decide +kernel⟩,
   ⟨atHead bandWrite (up ringCfg) |> inJob (fun j => { j with wr := (up []).ringUnits - 1, spans := [⟨0, (up []).ringUnits - 1, .landing .transport⟩] }), 1, bandWrite,
       by unfold AtHead; decide +kernel⟩,
   ⟨atHead (entry [(0, 2), (4, 128), (24, 1)]) (up ringCfg), 1, entry [(0, 2), (4, 128), (24, 1)], [5],
       by unfold AtHead BulkOk; decide +kernel⟩,
   ⟨atHead bandWrite (up ringCfg) |> inJob (fun j => { j with waiting := [⟨.entry 1 bandWrite, 128⟩] }), 1, bandWrite, 128, [], by unfold BulkOk; decide +kernel⟩,
   ⟨up [] |> inJob (fun j => { j with jobs := [job1], wr := 2, spans := [⟨0, 2, .landing (.entry 1 bandWrite)⟩] }), 0, 2, container, 1, bandWrite,
       by unfold SoundSpool SpoolForm; decide +kernel⟩⟩

theorem test_TablesAreStagedAndPatchesStored :
    (∃ (s : State) (r : RingIx) (e : Entry) (payload : List Byte), AtHead s r e ∧ BulkOk s ∧ opcode e = 7 ∧
        formTableLoad e = true ∧ tlTable e ≤ 4 ∧ foldedCrc (tlContext e) (slice payload 0 (fieldAt e 4 4)) =
        BitVec.ofNat 32 (fieldAt e 56 4)) ∧
    (∃ (s : State) (r : RingIx) (e : Entry) (payload : List Byte), AtHead s r e ∧ BulkOk s ∧ opcode e = 7 ∧
        formTableLoad e = true ∧ foldedCrc (tlContext e) (slice payload 0 (fieldAt e 4 4)) ≠ BitVec.ofNat 32
        (fieldAt e 56 4)) ∧
    (∃ (s : State) (r : RingIx) (e : Entry) (payload : List Byte), AtHead s r e ∧ BulkOk s ∧ opcode e = 7 ∧
        formTableLoad e = true) ∧
    (∃ (s : State) (r : RingIx) (e : Entry) (payload : List Byte) (k : BarIx), AtHead s r e ∧ BulkOk s ∧ opcode e =
        8 ∧ formOverlayPatch e = true ∧ s.ovlOn = true ∧ (entryHead e).bar = k.1 ∧ foldedCrc ((entryHead e).context
        34) (slice payload 0 (entryHead e).length) = BitVec.ofNat 32 (fieldAt e 56 4) ∧ s.patchLate ((entryHead
        e).patch k (slice payload 0 (entryHead e).length)) = false ∧ s.patchRoom ((entryHead e).patch k (slice
        payload 0 (entryHead e).length)).bytes = true) ∧
    (∃ (s : State) (r : RingIx) (e : Entry) (q : Patch), s.up = true ∧ s.ovlOn = true ∧ List.find? (fun (w : RingIx
        × Entry × Patch) => decide (w.fst = r)) s.se.ringPatch = some (r, e, q) ∧ s.patchLate q = false ∧
        s.patchRoom q.bytes = true) :=
  ⟨⟨atHead tableEntry (up ringCfg), 1, tableEntry, [7, 0], by unfold AtHead BulkOk; decide +kernel⟩,
   ⟨atHead tableEntry (up ringCfg), 1, tableEntry, [0, 0], by unfold AtHead BulkOk; decide +kernel⟩,
   ⟨atHead tableEntry (runs (up ringCfg)), 1, tableEntry, [7, 0], by unfold AtHead BulkOk; decide +kernel⟩,
   ⟨atHead patchEntry (up overlayOn), 1, patchEntry, [7], 0, by unfold AtHead BulkOk; decide +kernel⟩,
   ⟨{ atHead patchEntry (up overlayOn) with se := { Stripe.reset with ringPatch := [(1, patchEntry, (entryHead patchEntry).patch 0 [7])] } }, 1, patchEntry, (entryHead patchEntry).patch 0 [7],
       by decide +kernel⟩⟩

theorem test_SpoolReadAndCompress :
    (∃ (s : State) (r : RingIx) (e : Entry) (bs : List Byte), AtHead s r e ∧ BulkOk s ∧ opcode e = 9 ∧ formSpoolRead
        e = true ∧ (State.spoolGet 2 (fieldAt e 16 8) (fieldAt e 4 4) s).snd = some bs ∧ SoundSpool s) ∧
    (∃ (s : State) (r : RingIx) (e : Entry) (input : List Byte), AtHead s r e ∧ BulkOk s ∧ s.sys.lpCur = 0 ∧ opcode
        e = 10 ∧ s.formCompress e = true ∧ cmpInSpool e = false ∧ cmpChainCount e = 0 ∧ s.exp.cmp = #v[none, none,
        none, none] ∧ s.exp.cmpWait = []) ∧
    (∃ (s : State) (lane : Fin 4) (j : CmpJob), s.exp.cmp[lane] = some j ∧ s.up = true ∧ s.sys.lpCur = 0 ∧
        s.exp.cmpWait = [] ∧ cmpOutSpool j.entry = false ∧ j.chain = [] ∧ s.ringDead j.ring = false ∧ j.ring.1 ≠ 0) :=
  ⟨⟨atHead (entry [(0, 9), (4, 1), (16, deviceArea - 1)]) (up ringCfg), 1, entry [(0, 9), (4, 1), (16, deviceArea - 1)], [0],
      by unfold AtHead BulkOk SoundSpool SpoolForm; decide +kernel⟩,
   ⟨atHead (entry [(0, 10), (4, 1), (24, 9), (28, 64)]) (up ringCfg), 1, entry [(0, 10), (4, 1), (24, 9), (28, 64)], [7], by unfold AtHead BulkOk; decide +kernel⟩,
   ⟨{ atHead bandWrite (up ringCfg) with exp := { Expand.reset with cmp := #v[none, none, none, some ⟨1, entry [(0, 10), (1, 2), (4, 64), (24, 9), (28, 64)], List.replicate 64 7, [], true⟩] } }, 3, ⟨1, entry [(0, 10), (1, 2), (4, 64), (24, 9), (28, 64)], List.replicate 64 7, [], true⟩,
       by decide +kernel⟩⟩

theorem test_MailboxMessagesAnswer :
    (∃ (s : State) (r : RingIx) (e : Entry), AtHead s r e ∧ opcode e = 11 ∧ State.formMailbox e = true ∧ State.mbMsg
        e = 1 ∧ State.mbArg0 e = 0 ∧ State.mbArg1 e = 0) ∧
    (∃ (s : State) (r : RingIx) (e : Entry), AtHead s r e ∧ opcode e = 11 ∧ State.formMailbox e = true ∧ State.mbMsg
        e = 2 ∧ State.clearArgs e = true ∧ s.engStopped = true ∧ 4 * (s.cal.slots + 1) < 3 * s.halfSlots) ∧
    (∃ (s : State) (r : RingIx) (e : Entry), AtHead s r e ∧ opcode e = 11 ∧ State.formMailbox e = true ∧ State.mbMsg
        e = 3 ∧ State.mbArg0 e = 0 ∧ State.mbArg1 e = 0 ∧ s.cal.ledger ≠ [] ∧ 32 * s.cal.ledger.length ≤ State.mbLen
        e ∧ s.hif.linkUp = true) ∧
    (∃ (s : State) (r : RingIx) (e : Entry), AtHead s r e ∧ opcode e = 11 ∧ State.formMailbox e = true ∧ State.mbMsg
        e = 4 ∧ 1 ≤ State.mbArg0 e ∧ State.mbArg0 e ≤ 9 ∧ State.mbArg1 e = 0 ∧ s.hif.linkUp = true) ∧
    (∃ (s : State) (r : RingIx) (e : Entry), AtHead s r e ∧ opcode e = 11 ∧ State.formMailbox e = true ∧ State.mbMsg
        e = 5 ∧ (State.mbArg0 e = 1 ∨ State.mbArg0 e = 2) ∧ State.mbArg1 e = 0 ∧ s.engStopped = true) ∧
    (∃ (s : State) (r : RingIx) (e : Entry), AtHead s r e ∧ opcode e = 11 ∧ State.formMailbox e = true ∧ State.mbMsg
        e = 6 ∧ State.mbArg0 e = 0 ∧ State.mbArg1 e = 0 ∧ s.engStopped = true) ∧
    (∃ (s : State) (r : RingIx) (e : Entry), AtHead s r e ∧ opcode e = 11 ∧ State.formMailbox e = true ∧ State.mbMsg
        e = 7 ∧ State.mbArg0 e = 0) :=
  ⟨⟨atHead (mail 1 []) (up ringCfg), 1, mail 1 [], by unfold AtHead; decide +kernel⟩,
   ⟨atHead (mail 2 [(28, 0xFF), (32, 0xFFFFFFFF)]) (up ringCfg), 1, mail 2 [(28, 0xFF), (32, 0xFFFFFFFF)],
       by unfold AtHead; decide +kernel⟩,
   ⟨{ atHead (mail 3 [(4, 32)]) (up ringCfg) with cal := { Calib.reset with ledger := [record1] } }, 1, mail 3 [(4, 32)],
       by unfold AtHead; decide +kernel⟩,
   ⟨atHead (mail 4 [(4, 16777216), (28, 9)]) (up ringCfg), 1, mail 4 [(4, 16777216), (28, 9)],
       by unfold AtHead; decide +kernel⟩,
   ⟨atHead (mail 5 [(28, 2)]) (up ringCfg), 1, mail 5 [(28, 2)], by unfold AtHead; decide +kernel⟩,
   ⟨atHead (mail 6 []) (up ringCfg), 1, mail 6 [], by unfold AtHead; decide +kernel⟩,
   ⟨atHead (mail 7 [(32, 255)]) (up ringCfg), 1, mail 7 [(32, 255)], by unfold AtHead; decide +kernel⟩⟩

theorem test_FunctionsStopAndRestart :
    (∃ (s : State) (r : RingIx) (e : Entry) (f : FnRef), AtHead s r e ∧ opcode e = 6 ∧ formFunction e = true ∧
        fnRestarts e = false ∧ fnOf e = some f ∧ (s.fn f).running = false ∧ s.restarting f = false) ∧
    (∃ (s : State) (r : RingIx) (e : Entry) (c : CamIx), AtHead s r e ∧ opcode e = 6 ∧ formFunction e = true ∧
        fnRestarts e = false ∧ fnInGap e = false ∧ fnOf e = some (FnRef.cam c) ∧ s.fns.cam[c].running = true ∧
        s.fns.cam[c].busy = false ∧ s.restarting (FnRef.cam c) = false) ∧
    (∃ (s : State) (r : RingIx) (e : Entry) (f : FnRef), AtHead s r e ∧ opcode e = 6 ∧ formFunction e = true ∧
        fnRestarts e = false ∧ fnInGap e = true ∧ fnOf e = some f ∧ (s.fn f).running = true ∧ s.restarting f = false
        ∧ s.gapReached f (fnAtSheet e) = false) ∧
    (∃ (s : State) (p : PortIx) (q : FnReq), s.up = true ∧ s.gapRequest (FnRef.port p) = some q ∧ q.restart = false
        ∧ s.fns.port[p].running = true ∧ s.fns.port[p].busy = false ∧ s.restarting (FnRef.port p) = false ∧
        s.testing p = false) ∧
    (∃ (s : State) (f : FnRef) (q : FnReq), s.up = true ∧ s.openRequest f false = some q ∧ s.stopDone q = true ∧
        s.ringDead q.ring = false ∧ q.ring.1 ≠ 0 ∧ bit (fieldAt q.entry 1 1) 1 = true) ∧
    (∃ (s : State) (r : RingIx) (e : Entry) (f : FnRef), AtHead s r e ∧ opcode e = 6 ∧ formFunction e = true ∧
        fnRestarts e = true ∧ fnInGap e = false ∧ fnOf e = some f ∧ s.restartBarred f = true) ∧
    (∃ (s : State) (r : RingIx) (e : Entry) (c : CamIx), AtHead s r e ∧ opcode e = 6 ∧ formFunction e = true ∧
        fnRestarts e = true ∧ fnInGap e = false ∧ fnOf e = some (FnRef.cam c) ∧ s.fns.cam[c].running = false ∧
        s.fns.cam[c].busy = false ∧ s.engRuns = true ∧ (State.begin r s).effectFail [FnRef.cam c] true = none) ∧
    (∃ (s : State) (r : RingIx) (e : Entry) (f : FnRef), AtHead s r e ∧ opcode e = 6 ∧ formFunction e = true ∧
        fnRestarts e = true ∧ fnInGap e = false ∧ fnOf e = some f ∧ f ≠ FnRef.engine ∧ s.restartBarred f = false ∧
        (State.begin r s).effectFail (s.restartSet f) true = none ∧ s.newSwaps (s.restartSet f) ≠ []) ∧
    (∃ (s : State) (f : FnRef) (q : FnReq) (bad : List Nat), s.up = true ∧ s.openRequest f true = some q ∧ q.ref ≠
        FnRef.engine ∧ ¬FnRef.engine ∈ q.set ∧ q.set.Nodup ∧ s.restartDone q = true ∧ s.finalFail (s.stillIn q) bad
        [] = none) :=
  ⟨⟨atHead (func [(24, 5)]) (up ringCfg), 1, func [(24, 5)], .engine, by unfold AtHead; decide +kernel⟩,
   ⟨atHead (func [(24, 2), (25, 3)]) (up ringCfg) |> inFns (fun f => { f with cam := f.cam.set 3 on }), 1, func [(24, 2), (25, 3)], 3,
       by unfold AtHead; decide +kernel⟩,
   ⟨atHead (func [(24, 1), (27, 1), (28, 1)]) (printing ringCfg |> inBar 0 fun b => { b with used := true }), 1, func [(24, 1), (27, 1), (28, 1)], .bar 0,
       by unfold AtHead; decide +kernel⟩,
   ⟨up [] |> inFns (fun f => { f with port := f.port.set 31 on, reqs := [stop (.port 31) false (some 1) []] }), 31, stop (.port 31) false (some 1) [],
       by decide +kernel⟩,
   ⟨up ringCfg |> inRing id |> inFns (fun f => { f with reqs := [stop .engine false none [.axis 7]] }), .engine, stop .engine false none [.axis 7],
       by decide +kernel⟩,
   ⟨atHead (func [(24, 5), (26, 1)]) (runs (up ringCfg)), 1, func [(24, 5), (26, 1)], .engine,
       by unfold AtHead; decide +kernel⟩,
   ⟨atHead (func [(24, 2), (25, 3), (26, 1)]) (runs (up (ringCfg ++ [(aCam 3 8, 0x10000)]))), 1, func [(24, 2), (25, 3), (26, 1)], 3,
       by unfold AtHead; decide +kernel⟩,
   ⟨atHead (func [(24, 1), (26, 1)]) (runs (up (ringCfg ++ [(aPrmBar 0, 1)])) |> inBar 0 fun b => { b with engines := [67] }), 1, func [(24, 1), (26, 1)], .bar 0,
       by unfold AtHead; decide +kernel⟩,
   ⟨runs (up [(aCam 3 8, 0x10000)]) |> inFns (fun f => { f with reqs := [stop (.cam 3) true none [.cam 3]] }), .cam 3, stop (.cam 3) true none [.cam 3], [],
       by decide +kernel⟩⟩

theorem test_BandsAreFetchedGrantedAndVerified :
    (∃ (s : State) (k : BarIx) (u : BandUse), s.up = true ∧ s.barRuns k = true ∧ s.fetchNext k = some u ∧
        s.fetchRefused k u = none ∧ s.sheet? u.sheet.id = some u.sheet) ∧
    (∃ (s : State) (k : BarIx) (w : Work) (l : LaneIx), s.up = true ∧ s.grantBar = some k ∧ s.barRequest k = some w
        ∧ s.laneFor w = some l ∧ s.work? k w.sheet w.band.key = some w) ∧
    (∃ (s : State) (k : BarIx) (l : LaneIx) (w : Work) (i : Nat), s.up = true ∧ s.laneSlice l = some (k, w, i) ∧
        (s.readsOutstanding k w.sheet w.band.key fun (b : Nat) => (State.sliceBlocks w.band i).contains b) = false ∧
        s.sliceFailure w i none = none ∧ w.ended = none ∧ i < w.slices.length ∧ (∀ (j : Nat), j ≠ i → j <
        w.slices.length → ∃ (x : LaneIx), w.slices[j]? = some (SliceState.passed x)) ∧ List.filter (fun (x : Work)
        => decide (x.sheet = w.sheet) && decide (x.band.key = w.band.key)) s.bar[k].works = [w]) ∧
    (∃ (s : State) (k : BarIx) (l : LaneIx) (w : Work) (i : Nat) (code : Code) (crc : Word), s.up = true ∧
        s.laneSlice l = some (k, w, i) ∧ (s.readsOutstanding k w.sheet w.band.key fun (b : Nat) =>
        (State.sliceBlocks w.band i).contains b) = false ∧ s.sliceFailure w i none = some (code, crc) ∧ code ≠ 3333) :=
  ⟨⟨printing [] |> inJob (fun j => { j with bands := [band1] }), 0, ⟨sheet1, band1, 0, 1⟩, by decide +kernel⟩,
   ⟨printing [] |> inBar 0 (fun b => { b with works := [work1 (List.replicate 8 .requested)] }), 0, work1 (List.replicate 8 .requested), 0,
       by decide +kernel⟩,
   ⟨{ (printing [] |> inBar 0 fun b => { b with works := [workE] }) with mem := [(78, 3)] }, 0, 33, workE, 7, ⟨by decide +kernel,
       by decide +kernel, by decide +kernel, by decide +kernel, by decide +kernel,
       by decide +kernel, fun j h g => by have : j = 0 ∨ j = 1 ∨ j = 2 ∨ j = 3 ∨ j = 4 ∨ j = 5 ∨ j = 6 := (by have : j < 8 := g; omega); rcases this with rfl | rfl | rfl | rfl | rfl | rfl | rfl <;> exact ⟨0, rfl⟩,
       by decide +kernel⟩⟩,
   ⟨printing [] |> inBar 0 (fun b => { b with works := [work1 ((List.range 8).map lane7)] }), 0, 33, work1 ((List.range 8).map lane7), 7, 0x0303, 0,
       by decide +kernel⟩⟩

theorem test_ChannelsServeScrubAndSleep :
    (∃ (s : State) (c : ChanIx) (q : SpoolReq), SoundSpool s ∧ s.up = true ∧ s.sys.lpCur ≠ 2 ∧ s.spl.chans[c].held =
        0 ∧ s.spl.chans[c].reqs = [q] ∧ (s.place (64 * (q.addr / 64))).fst = c) ∧
    (∃ (s : State) (c : ChanIx) (w : Bool), SoundSpool s ∧ s.sys.held = [] ∧ s.sys.hbm = true ∧ s.fld (aSpl 4) 31 16
        ≠ 0 ∧ s.spl.chans[c].selfRef = false ∧ s.spl.chans[c].held = 0 ∧ s.spl.chans[c].scrub + 1 < 22020096) ∧
    (∃ (s : State) (c : ChanIx) (w : Bool), s.sys.held = [] ∧ s.sys.hbm = true ∧ s.fld (aSpl 4) 31 16 ≠ 0 ∧
        s.spl.chans[c].selfRef = true ∧ s.spl.chans[c].offline = false) ∧
    (∃ (s : State) (g : GroupIx) (region : SramRegion) (w : Bool), s.sys.held = [] ∧ s.fld (aSpl 4) 15 8 ≠ 0 ∧
        s.spl.groups[g].scrub + 1 < 8192) ∧
    (∃ (s : State) (c : ChanIx), s.sys.held = []) ∧
    (∃ (s : State) (c : ChanIx), s.up = true ∧ s.spl.chans[c].reqs = [] ∧ s.fld (aSpl 0) 15 0 ≠ 0 ∧
        s.spl.chans[c].offline = false) ∧
    (∃ (s : State) (c : ChanIx), s.up = true ∧ s.spl.chans[c].selfRef = true ∧ s.spl.chans[c].held = 0 ∧ s.sys.lpCur
        ≠ 2) ∧
    (∃ (s : State) (c : ChanIx) (n : Fin 4), s.up = true ∧ s.spl.chans[c].offline = false ∧ s.spl.chans[c].selfRef =
        false ∧ AsyncRoom s ∧ n.1 < 3) ∧
    (∃ (s : State) (c : ChanIx), s.up = true ∧ s.spl.chans[c].offline = false ∧ s.spl.chans[c].selfRef = false) :=
  ⟨⟨up [] |> inChan 0 (fun c => { c with reqs := [read1] }), 0, read1,
      by unfold SoundSpool SpoolForm; decide +kernel⟩,
   ⟨up [] |> inChan 63 (fun c => { c with selfRef := false, scrub := 22020094 }), 63, true,
       by unfold SoundSpool SpoolForm; decide +kernel⟩,
   ⟨up [] |> inChan 63 (fun c => { c with selfRef := true }), 63, false, by decide +kernel⟩,
   ⟨{ up [] with spl := { Spool.reset with groups := Vector.replicate 256 { Spool.reset.groups[0] with scrub := 8190 } } }, 255, .trims 7 65535, true,
       by decide +kernel⟩,
   ⟨up [] |> inChan 63 (fun c => { c with ecc := { c.ecc with bucket := 1 } }), 63, by decide +kernel⟩,
   ⟨up [] |> inChan 63 (fun c => { c with selfRef := false }), 63, by decide +kernel⟩,
   ⟨up [] |> inChan 63 (fun c => { c with selfRef := true }), 63, by decide +kernel⟩,
   ⟨up [] |> inChan 63 (fun c => { c with selfRef := false }), 63, 2, by unfold AsyncRoom; decide +kernel⟩,
   ⟨runs (up []) |> inChan 63 (fun c => { c with selfRef := false }), 63, by decide +kernel⟩⟩

theorem test_RowsAreComputedAndWritten :
    (∃ (s : State) (k : BarIx) (m : SlotIx) (r : Row) (sh : Sheet) (a : State.RowSource), s.up = true ∧ s.barRuns k
        = true ∧ List.find? (fun (x : Row) => x.parts[m].isNone) s.bar[k].rows = some r ∧ s.sheet? r.sheet = some sh
        ∧ List.filter (fun (x : Row) => decide (x.n = r.n)) s.bar[k].rows = [r] ∧ r.written = false ∧ r.noData =
        none ∧ s.slotsFree k r.n = true ∧ s.staggerOk k m r.n = true ∧ s.rowSource k sh r.n r.srow = some a ∧
        a.noData = none ∧ (s.needsPart k sh.id r.n a.keys = false ∨ s.bar[k].checks.length < 24)) ∧
    (∃ (s : State) (k : BarIx) (m : SlotIx) (r : Row) (sh : Sheet) (c : Code), s.up = true ∧ s.barRuns k = true ∧
        List.find? (fun (x : Row) => x.parts[m].isNone) s.bar[k].rows = some r ∧ s.sheet? r.sheet = some sh ∧
        List.filter (fun (x : Row) => decide (x.n = r.n)) s.bar[k].rows = [r] ∧ r.written = false ∧ r.noData = some
        c ∧ s.slotsFree k r.n = true ∧ s.staggerOk k m r.n = true) ∧
    (∃ (s : State) (k : BarIx) (m : SlotIx) (sh : Sheet) (a : State.RowSource), s.up = true ∧ s.barRuns k = true ∧
        (∀ (x : Row), x ∈ s.bar[k].rows → x.parts[m].isSome = true ∧ x.n < s.bar[k].grow) ∧ s.sheetToCompute k =
        some sh ∧ s.sheet? sh.id = some sh ∧ s.slotsFree k s.bar[k].grow = true ∧ s.staggerOk k m s.bar[k].grow =
        true ∧ s.rowSource k sh s.bar[k].grow sh.computed[k] = some a ∧ a.noData = none ∧ s.ovl.lost = false ∧
        (s.needsPart k sh.id s.bar[k].grow a.keys = false ∨ s.bar[k].checks.length < 24)) ∧
    (∃ (s : State) (k : BarIx) (r : Row), s.up = true ∧ s.barRuns k = true ∧ List.find? (fun (x : Row) =>
        !x.written) s.bar[k].rows = some r ∧ (∀ (m : SlotIx), r.parts[m].isSome = true) ∧ s.slotsFree k r.n = true ∧
        ∀ (p : PortIx), p ∈ s.livePorts k → s.port[p].late = [] ∧ s.deliveryCome p r.sheet r.srow = false ∧ ∀ (x :
        QRow), x ∈ s.port[p].rows → s.deliveryCome p x.sheet x.srow = false) :=
  ⟨⟨(printing [] |> inJob fun j => { j with sheets := [{ sheet1 with mask := 0 }] }) |> inBar 0 (fun b => { b with rows := [row0 none], grow := 1 }), 0, 7, row0 none, { sheet1 with mask := 0 }, ⟨none, [], [], none⟩, ⟨by decide +kernel,
      by decide +kernel, by decide +kernel, by decide +kernel, by decide +kernel, by decide +kernel,
      by decide +kernel, by decide +kernel, by decide +kernel, noPlanes (by decide +kernel), rfl, by decide +kernel⟩⟩,
   ⟨printing [] |> inBar 0 (fun b => { b with rows := [{ row0 none with noData := some 0x0603 }], grow := 1 }), 0, 7, { row0 none with noData := some 0x0603 }, sheet1, 0x0603,
       by decide +kernel⟩,
   ⟨printing [] |> inJob (fun j => { j with sheets := [{ sheet1 with mask := 0 }] }), 0, 7, { sheet1 with mask := 0 }, ⟨none, [], [], none⟩, ⟨by decide +kernel,
      by decide +kernel, by decide +kernel, by decide +kernel, by decide +kernel, by decide +kernel,
      by decide +kernel, noPlanes (by decide +kernel), rfl, by decide +kernel, by decide +kernel⟩⟩,
   ⟨(printing [(aPrmBar 0, 0xF)] |> inFns fun g => { g with port := g.port.set 3 on }) |> inBar 0 (fun b => { b with rows := [row0 (some [])], grow := 1 }), 0, row0 (some []),
       by decide +kernel⟩⟩

theorem test_TrimEpochsTakeTheirBatches :
    (∃ (s : State) (k : BarIx), s.barRuns k = true ∧ s.epochDue k = true) ∧
    (∃ (s : State) (k : BarIx) (e : Nat), s.up = true ∧ s.bar[k].trims.batch = true ∧ s.bar[k].grow ≤ e * 2 ^
        s.epochLog2 k) ∧
    (∃ (s : State) (k : BarIx) (e : Nat), s.up = true ∧ s.bar[k].trims.batch = true ∧ e * 2 ^ s.epochLog2 k <
        s.bar[k].grow) ∧
    (∃ (s : State) (k : BarIx), s.batchAllowed k = true ∧ 16 ≤ (s.densityErrors k).length) :=
  ⟨⟨printing [], 0, by decide +kernel⟩,
   ⟨printing [] |> inBar 0 (fun b => { b with trims := { b.trims with batch := true } }), 0, 0, by decide +kernel⟩,
   ⟨printing [] |> inBar 0 (fun b => { b with grow := 1, trims := { b.trims with batch := true } }), 0, 0,
       by decide +kernel⟩,
   ⟨{ printing [] with cal := { Calib.reset with sums := cells } }, 0, by decide +kernel⟩⟩

theorem test_RowFramesAreSentAndReplayed :
    (∃ (s : State) (p : PortIx) (r : QRow), s.portLive p = true ∧ s.laneFree p = true ∧ s.port[p].link.idle = false
        ∧ s.port[p].replayQ = [] ∧ s.port[p].settle.tx < s.port[p].rel ∧ s.port[p].settle.tx < s.port[p].fire +
        s.lead p ∧ s.port[p].row? s.port[p].settle.tx = some r) ∧
    (∃ (s : State) (p : PortIx) (r : QRow), s.portLive p = true ∧ s.laneFree p = true ∧ s.port[p].link.idle = false
        ∧ s.port[p].replayQ = [] ∧ s.port[p].settle.tx < s.port[p].rel ∧ s.port[p].settle.tx < s.port[p].fire +
        s.lead p ∧ s.port[p].row? s.port[p].settle.tx = some r ∧ (s.sheet? r.sheet).isSome = true) ∧
    (∃ (s : State) (p : PortIx) (n : Nat) (rest : List Nat) (r : QRow), s.portLive p = true ∧ s.laneFree p = true ∧
        s.port[p].link.idle = false ∧ s.port[p].replayQ = n :: rest ∧ s.port[p].row? n = some r ∧ s.ackCome p r =
        false) ∧
    (∃ (s : State) (p : PortIx) (n : Nat) (again : Bool), s.port[p].sending = some (n, again)) :=
  ⟨⟨queued [] qrow id, 3, qrow, by decide +kernel⟩,
   ⟨queued [] qrow id, 3, qrow, by decide +kernel⟩,
   ⟨queued [] { qrow with sent := true } (fun q => { q with replayQ := [0], tx := 1 }), 3, 0, [], { qrow with sent := true }, by decide +kernel⟩,
   ⟨queued [] qrow (fun q => { q with sending := some (0, false) }), 3, 0, false, by decide +kernel⟩⟩

theorem test_AnswersAndDeadlinesSettleRows :
    (∃ (s : State) (p : PortIx) (row : BitVec 40) (r : QRow), s.port[p].link.lstate = 6 ∧ List.find? (fun (r : QRow)
        => State.row40 r.n row && r.sent && !r.acked && !r.given) s.port[p].rows = some r ∧ s.ackCome p r = false ∧
        r.replays = 0) ∧
    (∃ (s : State) (p : PortIx) (row : BitVec 40) (r : QRow) (code : Byte), s.port[p].link.lstate = 6 ∧ List.find?
        (fun (r : QRow) => State.row40 r.n row && r.sent && !r.acked && !r.given) s.port[p].rows = some r ∧
        s.ackCome p r = false ∧ 1 ≤ BitVec.toNat code ∧ BitVec.toNat code ≤ 5) ∧
    (∃ (s : State) (p : PortIx) (row : BitVec 40) (code : Byte), s.port[p].link.lstate = 6 ∧ 5 < BitVec.toNat code) ∧
    (∃ (s : State) (p : PortIx) (row : BitVec 40), s.port[p].link.lstate = 6 ∧ s.port[p].rows = [] ∧ s.port[p].old =
        []) ∧
    (∃ (s : State) (p : PortIx) (n : Nat) (r : QRow), s.portLive p = true ∧ s.port[p].row? n = some r ∧ r.waitAck =
        true ∧ r.acked = false ∧ r.given = false ∧ s.ackCome p r = false) ∧
    (∃ (s : State) (k : BarIx) (n : Nat) (row : Nat) (id : BitVec 32), s.up = true ∧ s.barRuns k = true ∧
        s.latePorts k n ≠ [] ∧ s.rowAt k n = some (id, row) ∧ (s.sheet? id).isSome = true ∧ ∀ (p : PortIx), p ∈
        s.livePorts k → ∀ (x : QRow), x ∈ s.port[p].rows → (s.sheet? x.sheet).isSome = true) ∧
    (∃ (s : State) (p : PortIx) (n : Nat) (d : Nat) (r : QRow), s.up = true ∧ s.portRuns p = true ∧ s.testing p =
        false ∧ s.port[p].row? n = some r ∧ s.rowAckBy p r = some d ∧ d ≤ s.now16 ∧ r.acked = false ∧ r.given =
        false ∧ r.void = false ∧ n < s.port[p].rel ∧ (s.sheet? r.sheet).isSome = true) :=
  ⟨⟨queued [] { qrow with sent := true } id, 3, 0, { qrow with sent := true }, by decide +kernel⟩,
   ⟨queued [] { qrow with sent := true } id, 3, 0, { qrow with sent := true }, 5, by decide +kernel⟩,
   ⟨queued [] qrow id, 3, 0, 6, by decide +kernel⟩,
   ⟨queued [] qrow (fun q => { q with rows := [] }), 3, 0, by decide +kernel⟩,
   ⟨queued [] { qrow with sent := true, waitAck := true } id, 3, 0, { qrow with sent := true, waitAck := true },
       by decide +kernel⟩,
   ⟨late5, 0, 0, 0, 1, ⟨by decide +kernel, by decide +kernel, late5_ports, by decide +kernel, by decide +kernel,
       by decide +kernel⟩⟩,
   ⟨late, 3, 0, late_ack.choose, { qrow with sent := true }, ⟨by decide +kernel, by decide +kernel,
       by decide +kernel, by decide +kernel, late_ack.choose_spec.1, late_ack.choose_spec.2, by decide +kernel,
       by decide +kernel, by decide +kernel, by decide +kernel, by decide +kernel⟩⟩⟩

theorem test_StrobesCommitFireAndEnd :
    (∃ (s : State) (p : PortIx) (r : QRow), s.portRuns p = true ∧ s.inService p = true ∧ s.tbRuns = true ∧
        s.port[p].dead = false ∧ s.port[p].commit = none ∧ ¬p ∈ s.latePorts (barOf p) s.port[p].fire ∧
        s.port[p].row? s.port[p].fire = some r) ∧
    (∃ (s : State) (p : PortIx) (r : QRow) (c : Nat) (i : Int), s.testing p = false ∧ s.portRuns p = true ∧
        s.inService p = true ∧ s.strobeFree p = true ∧ s.port[p].commit = some (c, i) ∧ s.port[p].row?
        s.port[p].fire = some r ∧ s.placeEdge p c / 32 ≤ s.tick) ∧
    (∃ (s : State) (p : PortIx), s.trailingDue p = true) ∧
    (∃ (s : State) (p : PortIx), s.port[p].pair = true) :=
  ⟨⟨queued [] qrow id, 3, qrow, by decide +kernel⟩,
   ⟨queued [] qrow (fun q => { q with commit := some (0, 0) }), 3, qrow, 0, 0, by decide +kernel⟩,
   ⟨{ queued [] qrow (fun q => { q with pair := true, edge := some 0 }) with tick := 100000 }, 3, by decide +kernel⟩,
   ⟨queued [] qrow (fun q => { q with pair := true }), 3, by decide +kernel⟩⟩

theorem test_PressPinsAndEmergencyStop :
    (∃ (s : State), s.integ.estop = false) ∧
    (∃ (s : State), s.integ.estop = true) ∧
    (∃ (s : State), s.integ.estop = false) ∧
    (∃ (s : State) (b : Bool), s.up = true ∧ b ≠ s.integ.pressRun ∧ AsyncRoom s) ∧
    (∃ (s : State), s.integ.reject = true ∧ s.integ.pulseEnds ≤ s.tick) ∧
    (∃ (s : State) (p : CheckedPin), s.up = true) ∧
    (∃ (s : State) (k : BarIx), s.cal.holdoff[k] = true ∧ (s.barRuns k = false ∨ s.cal.pendBar[k] = [] ∨
        s.cal.stopQ[k] = true)) ∧
    (∃ (s : State) (k : BarIx), s.cal.holdoff[k] = true ∧ s.barRuns k = true ∧ s.cal.pendBar[k] ≠ [] ∧
        s.cal.stopQ[k] = false) :=
  ⟨⟨up [], by decide +kernel⟩,
   ⟨{ up [] with integ := { Integrity.reset with estop := true } }, by decide +kernel⟩,
   ⟨{ up [] with integ := { Integrity.reset with holdoff := true } }, by decide +kernel⟩,
   ⟨up [], true, by unfold AsyncRoom; decide +kernel⟩,
   ⟨{ up [] with integ := { Integrity.reset with reject := true, pulseEnds := 0 } }, by decide +kernel⟩,
   ⟨up [], .reject, by decide +kernel⟩,
   ⟨{ up [] with cal := { Calib.reset with holdoff := Vector.replicate 8 true } }, 7, by decide +kernel⟩,
   ⟨{ printing [] with cal := { Calib.reset with holdoff := Vector.replicate 8 true, pendBar := Vector.replicate 8 [(0, 65536)] } }, 0,
       by decide +kernel⟩⟩

theorem test_LinkTrainsInSteps :
    (∃ (s : State) (p : PortIx), s.port[p].link.training = true ∧ s.port[p].link.lstate = 0) ∧
    (∃ (s : State) (p : PortIx) (inv : Bool), s.port[p].link.training = true ∧ s.port[p].link.lstate = 1 ∧
        s.port[p].link.lock = true ∧ 15 ≤ s.port[p].link.trainCnt) ∧
    (∃ (s : State) (p : PortIx) (inv : Bool) (r : Word), BitVec.toNat r < 65536 ∧ s.port[p].link.training = true ∧
        (s.port[p].link.lstate = 2 ∧ s.port[p].link.sub1 = true ∨ s.port[p].link.lstate = 3) ∧ s.port[p].link.report
        = some r ∧ 3 ≤ s.port[p].link.alike ∧ State.reportDeskew r = true ∧ s.invNeeded p r = [] ∧ s.swapNeeded p r
        = false) ∧
    (∃ (s : State) (p : PortIx) (inv : Bool) (r : Word), BitVec.toNat r < 65536 ∧ s.port[p].link.training = true ∧
        (s.port[p].link.lstate = 2 ∧ s.port[p].link.sub1 = true ∨ s.port[p].link.lstate = 3) ∧ s.port[p].link.report
        = some r ∧ 3 ≤ s.port[p].link.alike ∧ State.reportDeskew r = true ∧ (s.invNeeded p r ≠ [] ∨ s.swapNeeded p r
        = true) ∧ s.preinvEn p = true ∧ s.lanesLost p r = false ∧ s.port[p].link.lstate = 2) ∧
    (∃ (s : State) (p : PortIx) (inv : Bool) (r : Word), BitVec.toNat r < 65536 ∧ s.port[p].link.training = true ∧
        (s.port[p].link.lstate = 2 ∧ s.port[p].link.sub1 = true ∨ s.port[p].link.lstate = 3) ∧ s.port[p].link.report
        = some r ∧ 3 ≤ s.port[p].link.alike ∧ State.reportDeskew r = true ∧ (s.invNeeded p r ≠ [] ∨ s.swapNeeded p r
        = true) ∧ (s.preinvEn p = false ∨ s.lanesLost p r = true) ∧ s.testing p = false) ∧
    (∃ (s : State) (p : PortIx), s.port[p].link.echoWait = true ∧ s.port[p].link.training = true) ∧
    (∃ (s : State) (p : PortIx), s.port[p].link.echoWait = true ∧ s.port[p].link.training = false) ∧
    (∃ (s : State) (p : PortIx) (x : Word), s.port[p].link.echoWait = true ∧ x ≠ 0) ∧
    (∃ (s : State) (p : PortIx) (trip : Nat), s.port[p].link.training = true ∧ s.port[p].link.lstate = 5 ∧
        s.port[p].link.pings < 7) ∧
    (∃ (s : State) (p : PortIx) (trip : Nat), s.port[p].link.training = true ∧ s.port[p].link.lstate = 5 ∧
        s.port[p].link.pings = 7 ∧ max s.port[p].link.pingMax trip ≤ 255) ∧
    (∃ (s : State) (p : PortIx) (trip : Nat), s.port[p].link.training = true ∧ s.port[p].link.lstate = 5 ∧
        s.port[p].link.pings = 7 ∧ 255 < max s.port[p].link.pingMax trip ∧ s.testing p = false) ∧
    (∃ (s : State) (p : PortIx), s.port[p].link.training = true ∧ 1 ≤ s.port[p].link.lstate ∧ s.port[p].link.lstate
        ≤ 5 ∧ s.testing p = false) :=
  ⟨⟨linked (fun l => { l with training := true, lstate := 0 }), 31, by decide +kernel⟩,
   ⟨linked (fun l => { l with training := true, lstate := 1, lock := true, trainCnt := 15, idle := false }), 31, true, by decide +kernel⟩,
   ⟨linked (fun l => { l with training := true, lstate := 3, report := some 0xE00, alike := 3, idle := false }), 31, true, 0xE00,
       by decide +kernel⟩,
   ⟨linked (fun l => { l with training := true, lstate := 2, sub1 := true, report := some 0x201, alike := 3, idle := false }), 31, false, 0x201,
       by decide +kernel⟩,
   ⟨linked (fun l => { l with training := true, lstate := 2, sub1 := true, report := some 0x212, alike := 3, idle := false }), 31, false, 0x212,
       by decide +kernel⟩,
   ⟨linked (fun l => { l with training := true, echoWait := true, idle := false }), 31, by decide +kernel⟩,
   ⟨linked (fun l => { l with training := false, echoWait := true }), 31, by decide +kernel⟩,
   ⟨linked (fun l => { l with training := false, echoWait := true }), 31, 1, by decide +kernel⟩,
   ⟨linked (fun l => { l with training := true, lstate := 5, pings := 6, idle := false }), 31, 9, by decide +kernel⟩,
   ⟨linked (fun l => { l with training := true, lstate := 5, pings := 7 }), 31, 255, by decide +kernel⟩,
   ⟨linked (fun l => { l with training := true, lstate := 5, pings := 7 }), 31, 256, by decide +kernel⟩,
   ⟨linked (fun l => { l with training := true, lstate := 5 }), 31, by decide +kernel⟩⟩

theorem test_LinkFaultsStopThePort :
    (∃ (s : State) (p : PortIx), s.port[p].link.lstate = 6) ∧
    (∃ (s : State) (p : PortIx) (cause : Byte), s.port[p].link.lstate = 6 ∧ 1 ≤ BitVec.toNat cause ∧ BitVec.toNat
        cause ≤ 5) ∧
    (∃ (s : State) (p : PortIx) (n : BitVec 16) (q : BitVec 16) (f : Byte), s.port[p].link.lstate = 6 ∧ s.portRuns p
        = true) ∧
    (∃ (s : State) (p : PortIx), s.port[p].link.echoWait = true ∧ s.port[p].link.training = false) ∧
    (∃ (s : State) (p : PortIx) (m : Byte) (n : BitVec 16) (q : BitVec 16) (f : Byte), BitVec.toNat m < 3) ∧
    (∃ (s : State) (p : PortIx) (m : Byte) (n : BitVec 16) (q : BitVec 16) (f : Byte), 3 < BitVec.toNat m) ∧
    (∃ (s : State) (p : PortIx) (m : Byte) (n : BitVec 16) (q : BitVec 16) (f : Byte), m = 0 ∨ 5 < BitVec.toNat m) ∧
    (∃ (s : State) (p : PortIx), s.port[p].link.lstate ≠ 6) ∧
    (∃ (s : State) (p : PortIx), s.sys.held = []) ∧
    (∃ (s : State) (p : PortIx), s.port[p].link.bursting = true) :=
  ⟨⟨queued [] qrow (fun q => { q with link := { q.link with idle := false }, pair := true }), 3, by decide +kernel⟩,
   ⟨linked (fun l => { l with lstate := 6 }), 31, 5, by decide +kernel⟩,
   ⟨queued [] qrow id, 3, 65535, 65535, 255, by decide +kernel⟩,
   ⟨linked (fun l => { l with training := false, echoWait := true }), 31, by decide +kernel⟩,
   ⟨up [], 31, 2, 65535, 65535, 255, by decide +kernel⟩,
   ⟨linked (fun l => { l with lstate := 6 }), 31, 4, 65535, 65535, 255, by decide +kernel⟩,
   ⟨linked (fun l => { l with lstate := 6 }), 31, 6, 65535, 65535, 255, by decide +kernel⟩,
   ⟨linked (fun l => { l with lstate := 5 }), 31, by decide +kernel⟩,
   ⟨up [], 31, by decide +kernel⟩,
   ⟨linked (fun l => { l with bursting := true, idle := false }), 31, by decide +kernel⟩⟩

theorem test_LinkCarriesIdleTrafficAndReports :
    (∃ (h : BitVec 58) (x : BitVec 64) (i : Nat), i < 64) ∧
    (∃ (p : PortIx) (sheet : BitVec 32) (srow : Nat) (n : Nat) (w : Nat) (i : Nat) (data : List Byte), data.length =
        2048 * w ∧ i < 4 * w) ∧
    (∃ (p : PortIx) (sheet : BitVec 32) (srow : Nat) (n : Nat) (w : Nat) (i : Nat) (data : List Byte) (j : Nat),
        data.length = 2048 * w ∧ i < 4 * w ∧ j < 64) ∧
    (∃ (p : PortIx) (sheet : BitVec 32) (srow : Nat) (n : Nat) (w : Nat) (i : Nat) (data : List Byte), data.length =
        2048 * w ∧ i < 4 * w) ∧
    (∃ (s : State) (p : PortIx), s.port[p].link.lstate = 6 ∧ s.beatAllowed p = true) ∧
    (∃ (s : State) (p : PortIx) (b : BitVec 66), rxValid b = true) ∧
    (∃ (s : State) (p : PortIx) (b : BitVec 66), rxValid b = false) ∧
    (∃ (s : State) (p : PortIx), s.port[p].link.idle = false) ∧
    (∃ (s : State) (p : PortIx), s.port[p].link.lstate = 6 ∧ s.laneFree p = true ∧ s.port[p].link.idle = false) ∧
    (∃ (s : State) (p : PortIx) (i : Fin 15) (v : BitVec 16), s.port[p].link.lstate = 6) ∧
    (∃ (s : State) (p : PortIx) (i : Fin 15), s.port[p].link.temp[i].fst = true ∧ AsyncRoom s) ∧
    (∃ (s : State) (p : PortIx) (r : BitVec 48), s.port[p].link.lstate = 6 ∧ ∀ (x : Nat), x ∈ nozzleReports r → x =
        65535 ∨ x < 16384) ∧
    (∃ (s : State) (p : PortIx) (r : BitVec 48), s.port[p].link.lstate = 6 ∧ ∃ (x : Nat), x ∈ nozzleReports r ∧ x ≠
        65535 ∧ x / 16384 = 3) ∧
    (∃ (s : State) (p : PortIx) (n : Nat), n < 16384 ∧ s.port[p].link.lstate = 6 ∧ AsyncRoom s) ∧
    (∃ (s : State) (p : PortIx) (v : Word), CfgForm s ∧ s.hostUp = true ∧ BitVec.getLsbD v 31 = true ∧
        s.port[p].link.lstate = 6 ∧ s.port[p].link.scanning = false) ∧
    (∃ (s : State) (p : PortIx) (n : Nat), s.port[p].link.scanning = true) :=
  ⟨⟨0x2AAAAAAAAAAAAAA, 0x123456789ABCDEF0, 63, by decide +kernel⟩,
   ⟨31, 0xFFFFFFFF, 16777216, 1, 1, 3, List.replicate 2048 7, by decide +kernel⟩,
   ⟨31, 0xFFFFFFFF, 16777216, 1, 1, 3, List.replicate 2048 7, 63, by decide +kernel⟩,
   ⟨31, 0xFFFFFFFF, 16777216, 1, 1, 3, List.replicate 2048 7, by decide +kernel⟩,
   ⟨linked (fun l => { l with lstate := 6, idle := false }), 31, by decide +kernel⟩,
   ⟨linked (fun l => { l with lstate := 6 }), 31, 2, by decide +kernel⟩,
   ⟨linked (fun l => { l with lstate := 6 }), 31, 0, by decide +kernel⟩,
   ⟨linked (fun l => { l with idle := false }), 31, by decide +kernel⟩,
   ⟨linked (fun l => { l with lstate := 6, idle := false }), 31, by decide +kernel⟩,
   ⟨linked (fun l => { l with lstate := 6, caps := { caps15 with nsens := 14 } }), 31, 14, 0x7FFF, by decide +kernel⟩,
   ⟨linked (fun l => { l with temp := Vector.replicate 15 (true, 0) }), 31, 14, by unfold AsyncRoom; decide +kernel⟩,
   ⟨linked (fun l => { l with lstate := 6 }), 31, 0xFFFF3FFF0000, by decide +kernel⟩,
   ⟨linked (fun l => { l with lstate := 6 }), 31, 0xFFFFC0000000, ⟨by decide +kernel, 0xC000, by decide +kernel⟩⟩,
   ⟨linked (fun l => { l with lstate := 6 }), 31, 16383, by unfold AsyncRoom; decide +kernel⟩,
   ⟨linked (fun l => { l with lstate := 6, scanning := false }), 31, 0x80FF80FF, by unfold CfgForm; decide +kernel⟩,
   ⟨linked (fun l => { l with scanning := true }), 31, 2 ^ 33, by decide +kernel⟩⟩

theorem test_SheetEdgesAnchorSheets :
    (∃ (s : State) (i : Fin 2), s.up = true ∧ i = s.edgeSrc ∧ s.engRuns = true ∧ s.tbRuns = true ∧ s.web = false ∧
        (∀ (a : Anchor), a ∈ s.job.anchors → a.decided = true ∨ 256 * s.hwm0 < a.decide) ∧ (∀ (j : Fin 128),
        s.mer.pslot[j].state ≠ SlotState.armed) ∧ (∀ (j : Fin 256), s.timeDue j = false) ∧ s.edgeEarly (s.edgeRow
        s.hls.enc[0].pos) = none ∧ 256 * s.hwm0 < s.decisionPoint s.hls.enc[0].pos (s.edgeRow s.hls.enc[0].pos)) ∧
    (∃ (s : State) (i : Fin 2), s.up = true ∧ i = s.edgeSrc ∧ s.engRuns = true ∧ s.tbRuns = true) ∧
    (∃ (s : State) (i : Fin 2), s.up = true ∧ i ≠ s.edgeSrc) :=
  ⟨⟨(runs (up [(aInt 4, 1)]) |> inJob fun j => { j with sheets := [sheet1] }), 0, by decide +kernel⟩,
   ⟨runs (up []), 0, by decide +kernel⟩,
   ⟨up [], 1, by decide +kernel⟩⟩

theorem test_EncodersCount :
    (∃ (s : State) (m : EncIx) (a : Bool) (b : Bool) (w : Bool), s.encEn m = true ∧ quadStep s.hls.enc[m].a
        s.hls.enc[m].b a b ≠ 0) ∧
    (∃ (s : State) (m : EncIx) (a : Bool) (b : Bool) (w : Bool), s.encEn m = true ∧ a ≠ s.hls.enc[m].a ∧ b ≠
        s.hls.enc[m].b) ∧
    (∃ (s : State) (m : EncIx) (a : Bool) (b : Bool) (w : Bool), s.encEn m = false ∨ a = s.hls.enc[m].a ∧ b =
        s.hls.enc[m].b) :=
  ⟨⟨up [(aHlsEnc 1 0, 0x80020100)], 1, true, false, false, by decide +kernel⟩,
   ⟨up [(aHlsEnc 1 0, 0x80020100)], 1, true, true, true, by decide +kernel⟩,
   ⟨up [], 1, true, false, true, by decide +kernel⟩⟩

theorem test_RecordsAndFeeds :
    (∃ (s : State) (m : EncIx) (b : Bool), s.hls.enc[m].raised = none) ∧
    (∃ (s : State) (m : EncIx) (r : Nat × Int), s.hls.enc[m].raised = some r) ∧
    (∃ (s : State) (m : EncIx) (r : Nat × Int), s.hls.enc[m].raised = some r) ∧
    (∃ (s : State) (p : Pass), s.up = true ∧ s.engRuns = true ∧ s.tbRuns = true ∧ s.scan = true ∧ s.integ.dstop =
        false ∧ s.nextPass = some p ∧ s.commandRefusal s.feedAxis 2 (nearest ((↑p.target / ↑256 - ↑s.hls.enc[0].pos)
        * s.feedScale)) true = none ∧ s.axis[s.feedAxis].motion = Motion.rest ∧ s.axis[s.feedAxis].vel = 0) ∧
    (∃ (s : State) (p : Pass), s.hls.pass = some p ∧ s.scan = true ∧ s.feedArrived p = true) :=
  ⟨⟨up [], 1, true, by decide +kernel⟩,
   ⟨up [] |> inEnc 1 (fun e => { e with raised := some (5, 7), recs := [(4, 3), (3, 2), (2, 1)] }), 1, (5, 7), by decide +kernel⟩,
   ⟨up [] |> inEnc 1 (fun e => { e with raised := some (5, 7) }), 1, (5, 7), by decide +kernel⟩,
   ⟨feeds, feed1, by decide +kernel⟩,
   ⟨up [(aJobTransport, 0x40000000)] |> (fun s => { s with hls := { s.hls with pass := some ⟨1, 0, 0, true, false⟩ } }), ⟨1, 0, 0, true, false⟩,
       by decide +kernel⟩⟩

theorem test_TimeSlotsRunAtTheirTargets :
    (∃ (s : State) (i : Fin 256), s.timeDue i = false) ∧
    (∃ (s : State) (i : Fin 256), s.timeDue i = true ∧ (∀ (j : Fin 256), j < i → s.timeDue j = false) ∧
        s.stillQueued (SlotRef.time i) = false) ∧
    (∃ (s : State) (i : Fin 256), s.timeDue i = true ∧ (∀ (j : Fin 256), j < i → s.timeDue j = false) ∧
        s.stillQueued (SlotRef.time i) = true ∧ AsyncRoom s) ∧
    (∃ (s : State) (i : Fin 256) (j : Fin 256), i < j ∧ s.timeDue i = true ∧ s.timeDue j = true ∧ (∀ (n : Fin 256),
        n < j → n ≠ i → s.timeDue n = false) ∧ 4 ≤ bits (s.slotAct (SlotRef.time i)) 31 24 ∧ 4 ≤ bits (s.slotAct
        (SlotRef.time j)) 31 24 ∧ s.stillQueued (SlotRef.time i) = false ∧ s.stillQueued (SlotRef.time j) = false) :=
  ⟨⟨up [], 255, by decide +kernel⟩,
   ⟨up [(aTSlot 255 0xC, 5), (aTSlot 255 0x10, 0x01000000), (aTSlot 255 0x14, 2)] |> inMer (fun m => { m with tslot := m.tslot.set 255 (armed 0 none) }), 255, by decide +kernel⟩,
   ⟨up [(aTSlot 255 0x10, 0x05000000)] |> inMer (fun m => { m with tslot := m.tslot.set 255 (armed 0 none), dispatch := [⟨.time 255, 5, 0, 0⟩] }), 255,
       by unfold AsyncRoom; decide +kernel⟩,
   ⟨up [(aTSlot 254 0x10, 0x05000000), (aTSlot 255 0x10, 0x05000000)] |> inMer (fun m => { m with tslot := (m.tslot.set 254 (armed 0 none)).set 255 (armed 0 none) }), 254, 255,
       by decide +kernel⟩⟩

theorem test_PulsesPredictionsAndDispatch :
    (∃ (s : State) (o : Fin 40) (d : Nat), d ∈ s.mer.pulse[o] ∧ (∀ (e : Nat), e ∈ s.mer.pulse[o] → d ≤ e) ∧
        s.mer.time < d) ∧
    (∃ (s : State) (o : Fin 40) (d : Nat), d ∈ s.mer.pulse[o] ∧ (∀ (e : Nat), e ∈ s.mer.pulse[o] → d ≤ e) ∧ d ≤
        s.mer.time) ∧
    (∃ (s : State) (j : Fin 128) (d : Nat), s.mer.pslot[j].state = SlotState.armed ∧ s.mer.pslot[j].due = some d ∧
        s.now16 < d) ∧
    (∃ (s : State) (j : Fin 128) (d : Nat), s.mer.pslot[j].state = SlotState.armed ∧ s.mer.pslot[j].due = some d ∧ d
        ≤ s.now16 ∧ s.stillQueued (SlotRef.pos j) = false ∧ (∀ (i : Fin 256), s.timeDue i = false) ∧ ∀ (k : Fin
        128), k < j → s.predictedDue k = false) ∧
    (∃ (s : State) (j : Fin 128) (d : Nat), s.mer.pslot[j].state = SlotState.armed ∧ s.mer.pslot[j].due = none ∧
        s.slotPred j = true ∧ s.posPredict j = some d ∧ s.now16 < d) ∧
    (∃ (s : State) (d : Dispatched) (rest : List Dispatched), s.mer.dispatch = d :: rest ∧ d.act = 5 ∧ AsyncRoom s) ∧
    (∃ (s : State) (d : Dispatched) (rest : List Dispatched) (x : AxisIx), s.mer.dispatch = d :: rest ∧ d.act = 7 ∧
        d.unit = x.1 ∧ s.axis[x].queued = none ∧ AsyncRoom s) ∧
    (∃ (s : State) (d : Dispatched) (rest : List Dispatched) (x : AxisIx), s.mer.dispatch = d :: rest ∧ d.act = 7 ∧
        d.unit = x.1 ∧ s.axis[x].queued ≠ none) ∧
    (∃ (s : State) (d : Dispatched) (rest : List Dispatched), s.mer.dispatch = d :: rest ∧ d.act = 8) :=
  ⟨⟨up [] |> inMer (fun m => { m with pulse := m.pulse.set 39 [2, 1] }), 39, 1, by decide +kernel⟩,
   ⟨up [] |> inMer (fun m => { m with pulse := m.pulse.set 39 [2, 0] }), 39, 0, by decide +kernel⟩,
   ⟨up [] |> inMer (fun m => { m with pslot := m.pslot.set 127 (armed 0 (some 1)) }), 127, 1, by decide +kernel⟩,
   ⟨up [] |> inMer (fun m => { m with pslot := m.pslot.set 127 (armed 0 (some 0)) }), 127, 0, by decide +kernel⟩,
   ⟨predicted, 127, predict_due.choose, ⟨by decide +kernel, by decide +kernel,
       by decide +kernel, predict_due.choose_spec.1, predict_due.choose_spec.2⟩⟩,
   ⟨up [] |> inMer (fun m => { m with dispatch := [⟨.time 0, 5, 0, 0⟩] }), ⟨.time 0, 5, 0, 0⟩, [],
       by unfold AsyncRoom; decide +kernel⟩,
   ⟨up [] |> inMer (fun m => { m with dispatch := [⟨.time 0, 7, 7, 0⟩] }), ⟨.time 0, 7, 7, 0⟩, [], 7,
       by unfold AsyncRoom; decide +kernel⟩,
   ⟨up [] |> inMer (fun m => { m with dispatch := [⟨.time 0, 7, 7, 0⟩] }) |> inAxis 7 (fun a => { a with queued := some (1, 5) }), ⟨.time 0, 7, 7, 0⟩, [], 7,
       by decide +kernel⟩,
   ⟨up [] |> inMer (fun m => { m with dispatch := [⟨.time 0, 8, 0, 5⟩] }), ⟨.time 0, 8, 0, 5⟩, [], by decide +kernel⟩⟩

theorem test_SlotsAreArmedAndDisarmed :
    (∃ (s : State) (i : Fin 256) (v : Word), CfgForm s ∧ s.hostUp = true ∧ BitVec.getLsbD v 31 = true ∧ s.armRefused
        (SlotRef.time i) v = false ∧ s.mer.time < s.timeTarget i * 16777216) ∧
    (∃ (s : State) (i : Fin 256) (v : Word), CfgForm s ∧ s.hostUp = true ∧ BitVec.getLsbD v 31 = true ∧ s.armRefused
        (SlotRef.time i) v = false ∧ s.timeTarget i * 16777216 ≤ s.mer.time ∧ BitVec.getLsbD v 24 = true ∧ s.rdN
        (aTSlot (↑i) 12) = 0 ∧ AsyncRoom s) ∧
    (∃ (s : State) (j : Fin 128) (v : Word), CfgForm s ∧ s.hostUp = true ∧ BitVec.getLsbD v 31 = true ∧ s.armRefused
        (SlotRef.pos j) v = false ∧ s.posReached j = false ∧ s.slotPred j = false) ∧
    (∃ (s : State) (r : SlotRef) (v : Word), s.hostUp = true ∧ BitVec.getLsbD v 31 = true ∧ (State.slotOwned r =
        true ∨ BitVec.getLsbD v 30 = true ∨ (s.slot r).state = SlotState.armed ∨ s.slotTargetOk r = false ∨
        s.actionOk (s.slotAct r) = false) ∧ AsyncRoom s) ∧
    (∃ (s : State) (i : Fin 256) (v : Word), s.hostUp = true ∧ BitVec.getLsbD v 31 = false ∧ BitVec.getLsbD v 30 =
        true ∧ s.mer.tslot[i].state = SlotState.armed ∧ s.timeDue i = false) ∧
    (∃ (s : State) (i : Fin 256) (v : Word), s.hostUp = true ∧ BitVec.getLsbD v 31 = false ∧ BitVec.getLsbD v 30 =
        true ∧ s.mer.tslot[i].state = SlotState.armed ∧ s.timeDue i = true ∧ (∀ (j : Fin 256), j < i → s.timeDue j =
        false) ∧ s.stillQueued (SlotRef.time i) = false) :=
  ⟨⟨up [(aTSlot 223 8, 1)], 223, 0x80000000, by unfold CfgForm; decide +kernel⟩,
   ⟨up [], 223, 0x81000000, by unfold AsyncRoom CfgForm; decide +kernel⟩,
   ⟨up [(aPSlot 111 0, 1)], 111, 0x80000000, by unfold CfgForm; decide +kernel⟩,
   ⟨up [], .time 224, 0x80000000, by unfold AsyncRoom; decide +kernel⟩,
   ⟨up [] |> inMer (fun m => { m with tslot := m.tslot.set 223 (armed 1 none) }), 223, 0x40000000, by decide +kernel⟩,
   ⟨up [] |> inMer (fun m => { m with tslot := m.tslot.set 223 (armed 0 none) }), 223, 0x40000000, by decide +kernel⟩⟩

theorem test_IncrementCapturesAndPtp :
    (∃ (s : State) (v : Word), CfgForm s ∧ s.hostUp = true ∧ 41901097 ≤ BitVec.toNat v ∧ BitVec.toNat v ≤ 41984983) ∧
    (∃ (s : State) (v : Word), CfgForm s ∧ s.hostUp = true ∧ (BitVec.toNat v < 41901097 ∨ 41984983 < BitVec.toNat v)
        ∧ AsyncRoom s) ∧
    (∃ (s : State) (b : Bool) (rising : Bool), s.clear = true) ∧
    (∃ (s : State) (p : EthIx) (lat : Nat) (len : Nat), 64 ≤ len ∧ len ≤ 9216 ∧ s.up = true ∧ s.eth.port[p].link =
        true ∧ p = s.ptpPort ∧ s.ptpOn = true) ∧
    (∃ (s : State) (p : EthIx) (lat : Nat) (len : Nat), 64 ≤ len ∧ len ≤ 9216 ∧ s.up = true ∧ s.eth.port[p].link =
        true ∧ p ≠ s.ptpPort) ∧
    (∃ (s : State) (p : EthIx) (lat : Nat) (request : Nat) (frame : List Byte), s.up = true ∧ s.eth.port[p].link =
        true ∧ p = s.ptpPort ∧ s.ptpOn = true) ∧
    (∃ (s : State) (v : Word), s.hostUp = true ∧ BitVec.getLsbD v 0 = true ∧ s.mer.holdover = true) ∧
    (∃ (s : State), s.up = true ∧ s.ptpOn = true ∧ s.ptpHold = false) ∧
    (∃ (s : State), s.up = true ∧ s.ptpOn = true) ∧
    (∃ (s : State), s.up = true ∧ s.ptpOn = true ∧ s.ptpHold = true ∧ s.mer.holdover = false ∧ AsyncRoom s) :=
  ⟨⟨up [], 41901097, by unfold CfgForm; decide +kernel⟩,
   ⟨up [], 41984984, by unfold AsyncRoom CfgForm; decide +kernel⟩,
   ⟨up [], true, true, by decide +kernel⟩,
   ⟨ptp [(aMer 0x40, 0xA0000000)], 1, 5, 9216, by decide +kernel⟩,
   ⟨ptp [(aMer 0x40, 0x80000000)], 1, 5, 64, by decide +kernel⟩,
   ⟨ptp [(aMer 0x40, 0x80000000)], 0, 5, 0, List.replicate 64 0, by decide +kernel⟩,
   ⟨up [] |> inMer (fun m => { m with holdover := true }), 1, by decide +kernel⟩,
   ⟨up [(aMer 0x40, 0x80000000)], by decide +kernel⟩,
   ⟨up [(aMer 0x40, 0x80000000)] |> inMer (fun m => { m with annLost := true, holdSince := some 5 }), by decide +kernel⟩,
   ⟨up [(aMer 0x40, 0xC0000000)] |> inMer (fun m => { m with policy := true }), by unfold AsyncRoom; decide +kernel⟩⟩

theorem test_OffsetSamplesAreJudged :
    (∃ (s : State) (offset : Int), s.up = true ∧ s.ptpOn = true ∧ s.mer.holdover = false ∧ (offset -
        s.ptpAsym).natAbs ≤ s.jumpLimit ∧ CfgForm s) ∧
    (∃ (s : State) (offset : Int), s.up = true ∧ s.ptpOn = true ∧ s.mer.holdover = false ∧ s.jumpLimit < (offset -
        s.ptpAsym).natAbs ∧ s.ptpPolicy = false ∧ s.mer.mustFit = false) ∧
    (∃ (s : State) (offset : Int), s.up = true ∧ s.ptpOn = true ∧ s.mer.holdover = false ∧ s.jumpLimit < (offset -
        s.ptpAsym).natAbs ∧ (s.ptpPolicy = true ∨ s.mer.mustFit = true) ∧ AsyncRoom s) :=
  ⟨⟨up [(aMer 0x40, 0x8000FFFF)], -65535, by unfold CfgForm; decide +kernel⟩,
   ⟨up [(aMer 0x40, 0x8000FFFF)] |> inMer (fun m => { m with discards := 7 }), -65536, by decide +kernel⟩,
   ⟨up [(aMer 0x40, 0xC000FFFF)], -65536, by unfold AsyncRoom; decide +kernel⟩⟩

theorem test_AxisCommandsTakeEffectOrAreRefused :
    (∃ (s : State) (x : AxisIx), s.hostUp = true ∧ s.axis[x].cmd = none ∧ s.commandRefusal x 1 (s.axTgt x) false =
        none ∧ (s.axis[x].vel ≠ 0 ∨ s.axis[x].pos ≠ ↑(s.axTgt x))) ∧
    (∃ (s : State) (x : AxisIx) (t : Int), s.hostUp = true ∧ s.axis[x].cmd = none ∧ s.commandRefusal x 2 (s.axTgt x)
        false = none ∧ s.axis[x].motion = Motion.move t ∧ (s.axis[x].vel ≠ 0 ∨ s.axis[x].pos ≠ ↑(t + s.axTgt x))) ∧
    (∃ (s : State) (x : AxisIx), s.hostUp = true ∧ s.axis[x].cmd = none ∧ s.commandRefusal x 2 (s.axTgt x) false =
        none ∧ s.axis[x].motion = Motion.rest ∧ (s.axis[x].vel ≠ 0 ∨ s.axis[x].pos ≠ ↑(s.axis[x].pos.floor + s.axTgt
        x))) ∧
    (∃ (s : State) (x : AxisIx), s.hostUp = true ∧ s.axis[x].cmd = none ∧ s.commandRefusal x 3 (signed 32 (s.rdN
        (aMot (x.1) 88))) false = none) ∧
    (∃ (s : State) (x : AxisIx), s.hostUp = true ∧ s.axis[x].cmd = none ∧ s.commandRefusal x 4 (s.axTgt x) false =
        none) ∧
    (∃ (s : State) (x : AxisIx), s.hostUp = true ∧ s.axis[x].cmd = none ∧ s.commandRefusal x 5 (s.axTgt x) false =
        none ∧ s.axis[x].motion = Motion.rest) ∧
    (∃ (s : State) (x : AxisIx) (t : Int), s.hostUp = true ∧ s.axis[x].cmd = none ∧ s.commandRefusal x 5 (s.axTgt x)
        false = none ∧ s.axis[x].motion = Motion.move t ∧ s.axis[x].vel ≠ 0) ∧
    (∃ (s : State) (x : AxisIx) (v : Int), s.hostUp = true ∧ s.axis[x].cmd = none ∧ s.commandRefusal x 5 (s.axTgt x)
        false = none ∧ s.axis[x].motion = Motion.jog v ∧ s.axis[x].vel ≠ 0) ∧
    (∃ (s : State) (x : AxisIx) (t : Int), s.hostUp = true ∧ s.axis[x].cmd = none ∧ s.commandRefusal x 6 (s.axTgt x)
        false = none ∧ s.axis[x].kept = some t ∧ (s.axis[x].vel ≠ 0 ∨ s.axis[x].pos ≠ ↑t)) ∧
    (∃ (s : State) (x : AxisIx), s.hostUp = true ∧ s.axis[x].cmd = none ∧ s.commandRefusal x 7 (s.axTgt x) false =
        none ∧ s.homeMethod x ≠ 3) ∧
    (∃ (s : State) (x : AxisIx), s.hostUp = true ∧ s.axis[x].cmd = none ∧ s.commandRefusal x 7 (s.axTgt x) false =
        none ∧ s.homeMethod x = 3) ∧
    (∃ (s : State) (x : AxisIx), s.hostUp = true ∧ s.axis[x].cmd = none ∧ s.commandRefusal x 8 (s.axTgt x) false =
        none) ∧
    (∃ (s : State) (x : AxisIx) (t : Int), s.hostUp = true ∧ s.axis[x].cmd = none ∧ s.commandRefusal x 9 (s.axTgt x)
        false = none ∧ s.axis[x].motion = Motion.move t) ∧
    (∃ (s : State) (x : AxisIx), s.hostUp = true ∧ s.axis[x].cmd = none ∧ s.commandRefusal x 10 (s.axTgt x) false =
        none ∧ s.fbit (aMot (x.1) 0) 27 = false) ∧
    (∃ (s : State) (x : AxisIx) (c : Instr) (op : Nat) (code : Code), s.hostUp = true ∧ (c, op) ∈ [(Instr.moveAbs x,
        1), (Instr.moveRel x, 2), (Instr.jog x, 3), (Instr.gear x, 4), (Instr.stop x, 5), (Instr.resume x, 6),
        (Instr.home x, 7), (Instr.setPos x, 8), (Instr.quickStop x, 9), (Instr.clear x, 10)] ∧ AsyncRoom s ∧
        s.axis[x].cmd = none ∧ s.commandRefusal x op (s.axArg x op) false = some code) ∧
    (∃ (s : State) (x : AxisIx) (c : Instr) (op : Nat), s.hostUp = true ∧ (c, op) ∈ [(Instr.moveAbs x, 1),
        (Instr.moveRel x, 2), (Instr.jog x, 3), (Instr.gear x, 4), (Instr.stop x, 5), (Instr.resume x, 6),
        (Instr.home x, 7), (Instr.setPos x, 8), (Instr.quickStop x, 9), (Instr.clear x, 10)] ∧ AsyncRoom s ∧
        s.axis[x].cmd ≠ none) ∧
    (∃ (s : State) (x : AxisIx) (op : Nat) (arg : Int), s.hostUp = true ∧ (s.axisRuns x = false ∨ s.fns.axis[x].busy
        = true)) ∧
    (∃ (s : State) (x : AxisIx) (op : Nat) (arg : Int), s.hostUp = true ∧ s.axisRuns x = true ∧ s.fns.axis[x].busy =
        false ∧ s.axis[x].fault ≠ 0 ∧ op ≠ 10) ∧
    (∃ (s : State) (x : AxisIx) (v : Word), s.hostUp = true ∧ s.axis[x].cmd = none ∧ 1 ≤ bits (BitVec.toNat v) 31 28
        ∧ bits (BitVec.toNat v) 31 28 ≤ 10) :=
  ⟨⟨axis7 [] (fun a => { a with pos := 1 }), 7, by decide +kernel⟩,
   ⟨axis7 [] (fun a => { a with motion := .move 0, pos := 1 }), 7, 0, by decide +kernel⟩,
   ⟨axis7 [(aMot 7 0x58, 1)] id, 7, by decide +kernel⟩,
   ⟨axis7 [(aMot 7 0x58, 1)] id, 7, by decide +kernel⟩,
   ⟨axis7 [] id, 7, by decide +kernel⟩,
   ⟨axis7 [] id, 7, by decide +kernel⟩,
   ⟨axis7 [] (fun a => { a with motion := .move 9, vel := 1 }), 7, 9, by decide +kernel⟩,
   ⟨axis7 [] (fun a => { a with motion := .jog 9, vel := 1 }), 7, 9, by decide +kernel⟩,
   ⟨axis7 [] (fun a => { a with kept := some 9, remain := 9 }), 7, 9, by decide +kernel⟩,
   ⟨axis7 [] id, 7, by decide +kernel⟩,
   ⟨axis7 [(aMot 7 0x30, 0xC0000000)] id, 7, by decide +kernel⟩,
   ⟨axis7 [] id, 7, by decide +kernel⟩,
   ⟨axis7 [] (fun a => { a with motion := .move 9, vel := 1 }), 7, 9, by decide +kernel⟩,
   ⟨axis7 [] (fun a => { a with fault := 1 }), 7, by decide +kernel⟩,
   ⟨up [], 7, .clear 7, 10, 0x0A02, by unfold AsyncRoom; decide +kernel⟩,
   ⟨up [] |> inAxis 7 (fun a => { a with cmd := some (0, 0, 0) }), 7, .clear 7, 10, by unfold AsyncRoom; decide +kernel⟩,
   ⟨up [], 7, 10, 0, by decide +kernel⟩,
   ⟨axis7 [] (fun a => { a with fault := 1 }), 7, 9, 0, by decide +kernel⟩,
   ⟨up [], 7, 0xA0000000, by decide +kernel⟩⟩

theorem test_AxesArriveCountAndFault :
    (∃ (s : State) (x : AxisIx) (t : Int), s.axis[x].motion = Motion.move t ∧ s.axis[x].vel = 0 ∧ s.axis[x].pos = ↑t
        ∧ (s.axis[x].rise = 0 ∨ s.axis[x].rise - 1 + 4 * s.fld (aMot (x.1) 0) 13 7 ≤ s.tick)) ∧
    (∃ (s : State) (x : AxisIx) (t : Int), s.axis[x].motion = Motion.move t ∧ (s.axis[x].vel ≠ 0 ∨ s.axis[x].pos ≠
        ↑t)) ∧
    (∃ (s : State) (x : AxisIx) (a : Bool) (b : Bool), s.up = true ∧ (a = s.axis[x].a ∨ b = s.axis[x].b)) ∧
    (∃ (s : State) (x : AxisIx) (a : Bool) (b : Bool), s.up = true ∧ a ≠ s.axis[x].a ∧ b ≠ s.axis[x].b ∧ AsyncRoom
        s) ∧
    (∃ (s : State) (x : AxisIx), s.up = true ∧ s.axis[x].hwaitZ = false) ∧
    (∃ (s : State) (x : AxisIx), s.axisRuns x = true ∧ s.stalled x = true ∧ s.axis[x].fault = 0 ∧ AsyncRoom s) ∧
    (∃ (s : State) (x : AxisIx) (w : Fin 3) (l : Bool) (n : Nat), s.up = true ∧ n < 400 * s.fld (aMot (x.1) 0) 23
        14) ∧
    (∃ (s : State) (x : AxisIx) (w : Fin 3) (l : Bool) (n : Nat), s.up = true ∧ 400 * s.fld (aMot (x.1) 0) 23 14 ≤ n
        ∧ s.axisRuns x = false) ∧
    (∃ (s : State) (x : AxisIx) (w : Fin 3) (l : Bool) (n : Nat) (v : Int), s.up = true ∧ 400 * s.fld (aMot (x.1) 0)
        23 14 ≤ n ∧ s.axisRuns x = true ∧ s.axis[x].fault = 0 ∧ s.axis[x].hstep = 0 ∧ w = 0 ∧ decide (l = s.fbit
        (aMot (x.1) 0) (26 - ↑w)) = true ∧ s.axis[x].sw[0] = false ∧ s.axis[x].sw[1] = false ∧ s.axis[x].motion =
        Motion.jog v ∧ 0 < s.axis[x].vel ∧ s.axEdec x ≠ 0 ∧ AsyncRoom s) ∧
    (∃ (s : State) (x : AxisIx) (w : Fin 3) (l : Bool) (n : Nat), s.up = true ∧ 400 * s.fld (aMot (x.1) 0) 23 14 ≤ n
        ∧ s.axisRuns x = true ∧ s.homeMethod x = 0 ∧ w = 2 ∧ decide (l = s.fbit (aMot (x.1) 0) (26 - ↑w)) = true ∧
        s.axis[x].sw[0] = false ∧ s.axis[x].sw[2] = false ∧ s.axis[x].motion = Motion.homing ∧ s.axis[x].hstep = 4 ∧
        s.axis[x].hwaitZ = false ∧ s.homeZ x = false) :=
  ⟨⟨axis7 [] (fun a => { a with motion := .move 9, pos := 9 }), 7, 9, by decide +kernel⟩,
   ⟨axis7 [] (fun a => { a with motion := .move 9 }), 7, 9, by decide +kernel⟩,
   ⟨axis7 [] id, 7, true, false, by decide +kernel⟩,
   ⟨axis7 [] id, 7, true, true, by unfold AsyncRoom; decide +kernel⟩,
   ⟨axis7 [] id, 7, by decide +kernel⟩,
   ⟨axis7 [(aMot 7 0, 0x08000000)] (fun a => { a with encpos := 10000000 }), 7, by unfold AsyncRoom; decide +kernel⟩,
   ⟨axis7 [(aMot 7 0, 0x00004000)] id, 7, 2, true, 399, by decide +kernel⟩,
   ⟨up [(aMot 7 0, 0x00004000)], 7, 2, true, 400, by decide +kernel⟩,
   ⟨axis7 [(aMot 7 0x14, 1)] (fun a => { a with motion := .jog 9, vel := 1 }), 7, 0, false, 409200, 9,
       by unfold AsyncRoom; decide +kernel⟩,
   ⟨axis7 [] (fun a => { a with motion := .homing, hstep := 4, vel := 1 }), 7, 2, false, 409200, by decide +kernel⟩⟩

theorem test_FramesOpenFillAndEnd :
    (∃ (s : State) (c : CamIx) (h : CsiHeader) (i : Instr) (px : List (BitVec 16)) (ok : Bool) (lost : Bool),
        s.camRuns c = true ∧ i ∈ [Instr.csiFrameStart c h, Instr.csiLine c h px { crcOk := ok, lost := lost },
        Instr.csiFrameEnd c h] ∧ h.bad = true) ∧
    (∃ (s : State) (c : CamIx) (h : CsiHeader) (i : Instr) (px : List (BitVec 16)) (ok : Bool) (lost : Bool),
        s.camRuns c = true ∧ i ∈ [Instr.csiFrameStart c h, Instr.csiLine c h px { crcOk := ok, lost := lost },
        Instr.csiFrameEnd c h] ∧ h.bad = false ∧ h.vc.toNat ≠ s.fld (aCam (↑c) 0) 29 28) ∧
    (∃ (s : State) (c : CamIx) (h : CsiHeader), s.camRuns c = true ∧ h.bad = false ∧ h.corrected = false ∧
        h.vc.toNat = s.fld (aCam (↑c) 0) 29 28 ∧ s.eye.cam[c].fs = none ∧ s.eye.cam[c].frames < 4294967296 ∧
        (s.eye.cam[c].fresh = false ∨ State.stagedOpen s.eye.cam[c] = false)) ∧
    (∃ (s : State) (c : CamIx) (h : CsiHeader) (px : List (BitVec 16)) (ok : Bool) (lost : Bool), s.camRuns c = true
        ∧ h.bad = false ∧ h.corrected = false ∧ h.vc.toNat = s.fld (aCam (↑c) 0) 29 28 ∧ h.dt.toNat = 42 + s.camDt c
        ∧ s.eye.cam[c].fs = none) ∧
    (∃ (s : State) (c : CamIx) (h : CsiHeader) (px : List (BitVec 16)) (ok : Bool) (lost : Bool) (f : Frame),
        s.camRuns c = true ∧ h.bad = false ∧ h.corrected = false ∧ h.vc.toNat = s.fld (aCam (↑c) 0) 29 28 ∧
        h.dt.toNat = 42 + s.camDt c ∧ s.eye.cam[c].fs = some f ∧ f.lines.length < s.camLines c ∧ px.length =
        s.camWidth c ∧ (lost = false ∨ c ≠ 0)) ∧
    (∃ (s : State) (c : CamIx) (h : CsiHeader) (px : List (BitVec 16)) (ok : Bool) (lost : Bool) (f : Frame),
        s.camRuns c = true ∧ h.bad = false ∧ h.corrected = false ∧ h.vc.toNat = s.fld (aCam (↑c) 0) 29 28 ∧
        h.dt.toNat = 42 + s.camDt c ∧ s.eye.cam[c].fs = some f ∧ f.lines.length < s.camLines c ∧ f.has flDropped =
        false ∧ lost = true ∧ c = 0) ∧
    (∃ (s : State) (c : CamIx) (h : CsiHeader) (px : List (BitVec 16)) (ok : Bool) (lost : Bool) (f : Frame),
        s.camRuns c = true ∧ h.bad = false ∧ h.corrected = false ∧ h.vc.toNat = s.fld (aCam (↑c) 0) 29 28 ∧
        h.dt.toNat = 42 + s.camDt c ∧ s.eye.cam[c].fs = some f ∧ s.camLines c ≤ f.lines.length ∧ ok = true) ∧
    (∃ (s : State) (c : CamIx) (h : CsiHeader) (px : List (BitVec 16)) (ok : Bool) (lost : Bool), s.camRuns c = true
        ∧ h.bad = false ∧ h.corrected = false ∧ h.vc.toNat = s.fld (aCam (↑c) 0) 29 28 ∧ (h.dt.toNat = 18 ∨ 8 ≤
        h.dt.toNat ∧ h.dt.toNat ≤ 15)) ∧
    (∃ (s : State) (c : CamIx) (h : CsiHeader) (px : List (BitVec 16)) (ok : Bool) (lost : Bool), s.camRuns c = true
        ∧ h.bad = false ∧ h.corrected = false ∧ h.vc.toNat = s.fld (aCam (↑c) 0) 29 28 ∧ h.dt.toNat ≠ 18 ∧
        (h.dt.toNat < 8 ∨ 15 < h.dt.toNat) ∧ h.dt.toNat ≠ 42 + s.camDt c) ∧
    (∃ (s : State) (c : CamIx) (h : CsiHeader), s.camRuns c = true ∧ h.bad = false ∧ h.corrected = false ∧
        h.vc.toNat = s.fld (aCam (↑c) 0) 29 28 ∧ s.eye.cam[c].fs = none) ∧
    (∃ (s : State) (c : CamIx) (h : CsiHeader) (f : Frame), s.camRuns c = true ∧ h.bad = false ∧ h.corrected = false
        ∧ h.vc.toNat = s.fld (aCam (↑c) 0) 29 28 ∧ s.eye.cam[c].fs = some f ∧ c ≠ 0 ∧ f.has flDropped = false ∧
        s.camLines c ≤ f.lines.length ∧ s.eye.cam[c].actLate = false ∧ s.eye.cam[c].actFail = false) ∧
    (∃ (s : State) (c : CamIx) (h : CsiHeader) (f : Frame), s.camRuns c = true ∧ h.bad = false ∧ h.corrected = false
        ∧ h.vc.toNat = s.fld (aCam (↑c) 0) 29 28 ∧ s.eye.cam[c].fs = some f ∧ c = 0 ∧ f.has flDropped = false ∧
        s.camLines c ≤ f.lines.length ∧ State.setFfEn c f.set = false ∧ s.eye.cam[c].actLate = false ∧
        s.eye.cam[c].actFail = false) ∧
    (∃ (s : State) (c : CamIx) (h : CsiHeader) (f : Frame), s.camRuns c = true ∧ h.bad = false ∧ h.corrected = false
        ∧ h.vc.toNat = s.fld (aCam (↑c) 0) 29 28 ∧ s.eye.cam[c].fs = some f ∧ f.lines.length < s.camLines c ∧
        s.eye.cam[c].actLate = false ∧ s.eye.cam[c].actFail = false) :=
  ⟨⟨cam3 [] id, 3, ⟨3, 63, false, true⟩, .csiFrameStart 3 ⟨3, 63, false, true⟩, [], true, false, by decide +kernel⟩,
   ⟨cam3 [] id, 3, ⟨15, 63, true, false⟩, .csiFrameStart 3 ⟨15, 63, true, false⟩, [], true, false, by decide +kernel⟩,
   ⟨cam3 [] (fun q => { q with frames := 4294967295, fresh := false }), 3, head44, by decide +kernel⟩,
   ⟨cam3 [] id, 3, head44, [65535], false, false, by decide +kernel⟩,
   ⟨cam3 [] (fun q => { q with fs := some { frame0 with lines := [[]] } }), 3, head44, List.replicate 16 65535, false, true, { frame0 with lines := [[]] },
       by decide +kernel⟩,
   ⟨cam0 (fun q => { q with fs := some { frame0 with lines := [[]] } }), 0, head44, [], false, true, { frame0 with lines := [[]] },
       by decide +kernel⟩,
   ⟨cam3 [] (fun q => { q with fs := some { frame0 with lines := [[], []] } }), 3, head44, [], true, false, { frame0 with lines := [[], []] },
       by decide +kernel⟩,
   ⟨cam3 [] id, 3, { head44 with dt := 15 }, [0], false, false, by decide +kernel⟩,
   ⟨cam3 [] id, 3, { head44 with dt := 16 }, [0], false, false, by decide +kernel⟩,
   ⟨cam3 [] id, 3, head44, by decide +kernel⟩,
   ⟨cam3 [] (fun q => { q with fs := some { frame0 with lines := [[], []] } }), 3, head44, { frame0 with lines := [[], []] },
       by decide +kernel⟩,
   ⟨cam0 (fun q => { q with fs := some { frame0 with lines := [[], []] } }), 0, head44, { frame0 with lines := [[], []] },
       by decide +kernel⟩,
   ⟨cam3 [] (fun q => { q with fs := some { frame0 with lines := [[]] } }), 3, head44, { frame0 with lines := [[]] }, by decide +kernel⟩⟩

theorem test_SlicesAndRecordsAreProduced :
    (∃ (s : State) (c : CamIx) (f : Frame) (rest : List Frame), s.grantCam = some c ∧ s.eye.cam[c].raw = f :: rest ∧
        f.slices < f.ages.length) ∧
    (∃ (s : State), s.grantCam = none) ∧
    (∃ (s : State) (c : CamIx) (f : Frame), s.nextRecord c = some f ∧ f.has flVoid = true ∧ SoundSpool s ∧ AsyncRoom
        s ∧ s.recBase c + s.eye.cam[c].recSlot * 524288 + (s.recordBytes c f).length ≤ spoolSize) ∧
    (∃ (s : State) (c : CamIx), s.camRuns c = true) :=
  ⟨⟨cam3 [] (fun q => { q with raw := [frame0] }), 3, frame0, [], by decide +kernel⟩,
   ⟨up [], by decide +kernel⟩,
   ⟨recorded, 3, { frame0 with flags := flVoid }, ⟨by decide +kernel, by decide +kernel,
       by unfold SoundSpool SpoolForm; decide +kernel, by unfold AsyncRoom; decide +kernel,
       by rw [record_length _ _ _ (by decide +kernel)]; decide +kernel⟩⟩,
   ⟨cam3 [] id, 3, by decide +kernel⟩⟩

theorem test_CamerasCommitAndTransfer :
    (∃ (s : State) (c : CamIx) (v : Word), CfgForm s ∧ s.hostUp = true ∧ BitVec.getLsbD v 31 = true ∧
        s.eye.cam[c].commitReq = false ∧ s.eye.cam[c].captured = none) ∧
    (∃ (s : State) (c : CamIx) (v : Word), CfgForm s ∧ s.hostUp = true ∧ BitVec.getLsbD v 31 = true ∧
        (s.eye.cam[c].commitReq = true ∨ s.eye.cam[c].captured.isSome = true)) ∧
    (∃ (s : State) (c : CamIx) (v : Word), s.hostUp = true ∧ s.eye.cam[c].hostXfer = none ∧ s.eye.cam[c].cciBusy =
        none ∧ s.eye.cam[c].staged = []) ∧
    (∃ (s : State) (c : CamIx) (acked : Bool) (data : Byte) (w : Word), s.eye.cam[c].cciBusy = some (false, w) ∧
        s.eye.cam[c].staged = [] ∧ s.eye.cam[c].hostXfer = none) ∧
    (∃ (s : State) (c : CamIx) (acked : Bool) (data : Byte) (w : Word), s.eye.cam[c].cciBusy = some (true, w) ∧
        acked = false ∧ AsyncRoom s) ∧
    (∃ (s : State) (c : CamIx) (v : Word), s.hostUp = true ∧ s.bankBusy c (State.setFf c) (bits (s.rdN (aCam (↑c)
        320)) 31 31) = true) ∧
    (∃ (s : State) (c : CamIx) (v : Word), s.hostUp = true ∧ s.bankBusy c (State.setFf c) (bits (s.rdN (aCam (↑c)
        320)) 31 31) = false ∧ CfgForm s ∧ SoundSpool s ∧ s.camBase c + bits (s.rdN (aCam (↑c) 320)) 31 31 *
        s.ffBankSize c + 2 * bits (s.rdN (aCam (↑c) 320)) 20 0 + 4 ≤ spoolSize) :=
  ⟨⟨up [], 3, 0x80000000, by unfold CfgForm; decide +kernel⟩,
   ⟨up [] |> inCam 3 (fun q => { q with commitReq := true }), 3, 0x80000000, by unfold CfgForm; decide +kernel⟩,
   ⟨up [], 3, 0x80000000, by decide +kernel⟩,
   ⟨up [] |> inCam 3 (fun q => { q with cciBusy := some (false, 5) }), 3, false, 7, 5, by decide +kernel⟩,
   ⟨up [] |> inCam 3 (fun q => { q with cciBusy := some (true, 5) }), 3, false, 7, 5,
       by unfold AsyncRoom; decide +kernel⟩,
   ⟨cam3 [] (fun q => { q with fresh := false }), 3, 5, by decide +kernel⟩,
   ⟨up [], 3, 0x12345678, by unfold CfgForm SoundSpool SpoolForm; decide +kernel⟩⟩

theorem test_OcculterRunsAndRecordsAppend :
    (∃ (s : State) (v : Word), s.hostUp = true ∧ BitVec.getLsbD v 31 = true ∧ s.occ.state ≠ 1 ∧ s.tbRuns = true ∧
        s.occRefused = true ∧ AsyncRoom s) ∧
    (∃ (s : State) (v : Word), s.hostUp = true ∧ BitVec.getLsbD v 31 = true ∧ s.occ.state ≠ 1 ∧ s.tbRuns = true ∧
        s.occRefused = false) ∧
    (∃ (s : State) (v : Word), s.hostUp = true ∧ BitVec.getLsbD v 31 = true ∧ (s.occ.state = 1 ∨ s.tbRuns = false)) ∧
    (∃ (s : State) (v : Word), s.hostUp = true ∧ BitVec.getLsbD v 31 = false ∧ BitVec.getLsbD v 30 = true ∧
        s.occ.state = 1 ∧ s.occ.drops ≠ []) ∧
    (∃ (s : State) (v : Word), s.hostUp = true ∧ BitVec.getLsbD v 31 = false ∧ BitVec.getLsbD v 30 = true ∧
        s.occ.state = 1 ∧ s.occ.drops = []) ∧
    (∃ (s : State) (g : Fin 2) (b : Bool), s.up = true ∧ s.occ.state ≠ 1) ∧
    (∃ (s : State) (g : Fin 2), s.up = true ∧ s.occ.state = 1 ∧ g ∈ s.occGates ∧ s.dropAt g s.now25 = none) ∧
    (∃ (s : State) (g : Fin 2) (i : Nat) (d : TestDrop), s.up = true ∧ s.occ.state = 1 ∧ g ∈ s.occGates ∧ s.dropAt g
        s.now25 = some i ∧ s.occ.drops[i]? = some d ∧ d.pulse[g] = none) ∧
    (∃ (s : State) (g : Fin 2) (t0 : Nat) (i : Nat) (d : TestDrop) (x : Nat × Nat), s.up = true ∧ s.occ.state = 1 ∧
        g ∈ s.occGates ∧ s.occ.pulse[g] = some (t0, some i) ∧ s.occ.judged ≤ i ∧ s.occ.drops[i - s.occ.judged]? =
        some d ∧ d.pulse[g] = some x) ∧
    (∃ (s : State) (d : TestDrop) (rest : List TestDrop), s.occ.state = 1 ∧ s.occ.drops = d :: rest ∧ s.dropOver =
        true ∧ (s.occ.judged + 1) % s.occBurst ≠ 0 ∧ s.occ.judged + 1 < s.occTotal ∧ s.occ.abort = false) ∧
    (∃ (s : State) (d : TestDrop) (rest : List TestDrop), s.occ.state = 1 ∧ s.occ.drops = d :: rest ∧ s.dropOver =
        true ∧ s.occ.judged + 1 = s.occTotal) ∧
    (∃ (s : State) (x : Record) (rest : List Record) (hung : Bool) (a : Bool) (b : Bool), s.sys.held = [] ∧
        s.sys.stage = 4 ∧ s.cal.pending = x :: rest ∧ 4 * (s.cal.slots + 2) < 3 * s.halfSlots ∧ (∀ (q : FnReq), q ∈
        s.fns.reqs → q.ledger = false) ∧ (a = true ∨ b = true)) ∧
    (∃ (s : State) (x : Record) (rest : List Record) (hung : Bool) (a : Bool) (b : Bool), s.sys.held = [] ∧
        s.sys.stage = 4 ∧ s.cal.pending = x :: rest ∧ 4 * (s.cal.slots + 2) < 3 * s.halfSlots ∧ (∀ (q : FnReq), q ∈
        s.fns.reqs → q.ledger = false) ∧ a = false ∧ b = false ∧ (x.kind = 0 ∨ 4 < x.kind) ∧ AsyncRoom s) :=
  ⟨⟨printing [], 0x80000000, by unfold AsyncRoom; decide +kernel⟩,
   ⟨runs (up [(aJobSpool, 63), (aCal 0x1018, 0x0190FC00)]) |> inLink 0 (fun l => { l with absent := false }), 0x80000000,
       by decide +kernel⟩,
   ⟨up [], 0x80000000, by decide +kernel⟩,
   ⟨testing1 [] 0 drop1, 0x40000000, by decide +kernel⟩,
   ⟨up [] |> inOcc (fun o => { o with state := 1 }), 0x40000000, by decide +kernel⟩,
   ⟨up [], 1, true, by decide +kernel⟩,
   ⟨up [] |> inOcc (fun o => { o with state := 1 }), 0, by decide +kernel⟩,
   ⟨testing1 [] 48000 drop1, 0, 0, drop1, by decide +kernel⟩,
   ⟨testing1 [] 48000 { drop1 with pulse := Vector.replicate 2 (some (1, 2)) } |> inOcc (fun o => { o with pulse := Vector.replicate 2 (some (48000, some 0)) }), 0, 48000, 0, { drop1 with pulse := Vector.replicate 2 (some (1, 2)) }, (1, 2),
       by decide +kernel⟩,
   ⟨testing1 [] 68001 drop1, drop1, [], by decide +kernel⟩,
   ⟨testing1 [(aCal 0x1000, 0x00800101), (aCal 0x1004, 1)] 68001 drop1, drop1, [], by decide +kernel⟩,
   ⟨{ up [(aCal 0x204, 1)] with cal := { Calib.reset with pending := [record1] } }, record1, [], true, false, true, by decide +kernel⟩,
   ⟨{ up [(aCal 0x204, 1)] with cal := { Calib.reset with pending := [{ record1 with kind := 5 }] } }, { record1 with kind := 5 }, [], false, false, false,
       by unfold AsyncRoom; decide +kernel⟩⟩

theorem test_BandTransportStoresAndAnswers :
    (∃ (s : State) (p : EthIx) (src : BitVec 144) (m : List Byte), s.btOpen p src.toNat = true ∧ s.sys.lpCur ≠ 2 ∧
        btFrame (s.fbit (aEthPort (↑p) 0) 25) src.toNat m.length ≤ 9216 ∧ btForm m = false) ∧
    (∃ (s : State) (p : EthIx) (src : BitVec 144) (m : List Byte), s.btOpen p src.toNat = true ∧ s.sys.lpCur ≠ 2 ∧
        btFrame (s.fbit (aEthPort (↑p) 0) 25) src.toNat m.length ≤ 9216 ∧ btForm m = true ∧ btCrcOk m = false) ∧
    (∃ (s : State) (p : EthIx) (src : BitVec 144) (m : List Byte), s.btOpen p src.toNat = true ∧ s.sys.lpCur ≠ 2 ∧
        btFrame (s.fbit (aEthPort (↑p) 0) 25) src.toNat m.length ≤ 9216 ∧ btForm m = true ∧ btCrcOk m = true ∧
        (s.band? (btKey m)).isSome = true ∧ ¬btKey m ∈ s.eth.answered) ∧
    (∃ (s : State) (p : EthIx) (src : BitVec 144) (m : List Byte) (k : Tracker), s.btOpen p src.toNat = true ∧
        s.sys.lpCur ≠ 2 ∧ btFrame (s.fbit (aEthPort (↑p) 0) 25) src.toNat m.length ≤ 9216 ∧ btForm m = true ∧
        btCrcOk m = true ∧ s.band? (btKey m) = none ∧ s.planeOpen (btKey m).job (btKey m).plane = true ∧ s.tracker?
        (btKey m) = some k ∧ k.total = btTotal m ∧ k.stride = btStride m ∧ k.count = btCount m ∧ ¬btFrag m ∈ k.bits
        ∧ k.bits.length + 1 < k.count ∧ SoundSpool s ∧ 0 < s.ringUnits ∧ s.ringBase + 64 * s.ringUnits ≤ spoolSize ∧
        k.pos % s.ringUnits + (btOffset m + m.length + 31) / 64 ≤ s.ringUnits) ∧
    (∃ (s : State) (job : BitVec 16) (plane : Fin 16) (band : BitVec 32) (k : Tracker), s.up = true ∧ s.tracker?
        ⟨job.toNat, plane.1, band.toNat⟩ = some k ∧ k.naks < s.fld aEthBt 7 4) ∧
    (∃ (s : State) (job : BitVec 16) (plane : Fin 16) (band : BitVec 32) (k : Tracker), s.up = true ∧ s.tracker?
        ⟨job.toNat, plane.1, band.toNat⟩ = some k ∧ s.fld aEthBt 7 4 ≤ k.naks ∧ AsyncRoom s) ∧
    (∃ (s : State) (job : BitVec 16) (plane : Fin 16) (band : BitVec 32), s.up = true ∧ s.tracker? ⟨job.toNat,
        plane.1, band.toNat⟩ = none) ∧
    (∃ (s : State) (p : EthIx) (len : Nat), s.up = true ∧ s.eth.port[p].link = true ∧ 64 ≤ len ∧ len ≤ 9216) ∧
    (∃ (s : State) (p : EthIx), s.up = true ∧ s.fbit (aEthPort (↑p) 0) 31 = true ∧ AsyncRoom s ∧ (s.ptpOn = false ∨
        p ≠ s.ptpPort)) ∧
    (∃ (s : State) (p : EthIx), s.up = true ∧ s.fbit (aEthPort (↑p) 0) 31 = true ∧ s.ptpOn = true ∧ p = s.ptpPort) ∧
    (∃ (s : State) (p : EthIx), s.up = true ∧ s.fbit (aEthPort (↑p) 0) 31 = true) :=
  ⟨⟨linkedEth btCfg [], 1, BitVec.ofNat 144 (2 ^ 144 - 1), [], by decide +kernel⟩,
   ⟨linkedEth btCfg [], 1, 0, fragment 1, by decide +kernel⟩,
   ⟨linkedEth btCfg [] |> inJob (fun j => { j with bands := [band1] }), 1, 0, fragment 0, by decide +kernel⟩,
   ⟨linkedEth btCfg [track 0] |> inJob (fun j => { j with jobs := [job1] }), 1, 0, fragment 0, track 0,
       by unfold SoundSpool SpoolForm; decide +kernel⟩,
   ⟨linkedEth btCfg [track 0], 1, 0, 0, track 0, by decide +kernel⟩,
   ⟨linkedEth btCfg [track 15], 1, 0, 0, track 15, by unfold AsyncRoom; decide +kernel⟩,
   ⟨linkedEth btCfg [], 65535, 15, 0xFFFFFFFF, by decide +kernel⟩,
   ⟨linkedEth btCfg [], 1, 9216, by decide +kernel⟩,
   ⟨linkedEth btCfg [], 1, by unfold AsyncRoom; decide +kernel⟩,
   ⟨linkedEth ((aMer 0x40, 0xA0000000) :: btCfg) [], 1, by decide +kernel⟩,
   ⟨linkedEth btCfg [], 1, by decide +kernel⟩⟩

theorem test_PreparedChannelsMoveTheirChains :
    (∃ (s : State) (ch : DmaIx) (v : Word), s.hostUp = true ∧ s.prepared ch = true ∧ v = 2147483648 ∧
        s.dma.ch[ch].state ≤ 1) ∧
    (∃ (s : State) (ch : DmaIx) (v : Word), s.hostUp = true ∧ s.prepared ch = true ∧ v = 1073741824 ∧
        s.dma.ch[ch].state = 0) ∧
    (∃ (s : State) (ch : DmaIx) (v : Word), s.hostUp = true ∧ s.prepared ch = true ∧ v = 536870912 ∧
        (s.dma.ch[ch].state = 1 ∨ s.dma.ch[ch].state = 2) ∧ State.chainEnded s.dma.ch[ch] = false) ∧
    (∃ (s : State) (ch : DmaIx) (v : Word), s.hostUp = true ∧ s.prepared ch = true ∧ v = 268435456 ∧ 3 ≤
        s.dma.ch[ch].state) ∧
    (∃ (s : State) (ch : DmaIx) (v : Word), s.hostUp = true ∧ s.prepared ch = true ∧ v = 2147483648 ∧ 2 ≤
        s.dma.ch[ch].state) ∧
    (∃ (s : State) (ch : DmaIx) (v : Word), s.hostUp = true ∧ s.prepared ch = true ∧ v = 1073741824 ∧ 1 ≤
        s.dma.ch[ch].state) ∧
    (∃ (s : State) (ch : DmaIx) (d : Descriptor), s.up = true ∧ s.awaitsDescriptor ch = true ∧
        s.dma.ch[ch].descSpool = false ∧ s.linkOk = true ∧ bit (dCtrl d) 4 = false ∧ dForm d = true ∧ (bit (dCtrl d)
        1 = true → s.mayWrite (dDst d) (dLen d) = true) ∧ (bit (dCtrl d) 0 = true → s.mayRead (dSrc d) (dLen d) =
        true)) ∧
    (∃ (s : State) (ch : DmaIx) (d : Descriptor), s.up = true ∧ s.awaitsDescriptor ch = true ∧
        s.dma.ch[ch].descSpool = false ∧ s.linkOk = true ∧ bit (dCtrl d) 4 = false ∧ dForm d = false ∧ AsyncRoom s) ∧
    (∃ (s : State) (ch : DmaIx) (x : Transfer) (r : Nat × Nat × Bool) (rest : List (Nat × Nat × Bool)) (host : List
        Byte), s.up = true ∧ s.beatChannel = some ch ∧ s.prepared ch = true ∧ s.dma.ch[ch].xfer = some x ∧ x.runs =
        r :: rest ∧ r.snd.snd = false ∧ x.dstSpool = false ∧ (x.last = true ∨ State.beatLen x r.snd.fst <
        r.snd.fst)) ∧
    (∃ (s : State) (ch : DmaIx) (host : List Byte), s.up = true ∧ s.beatChannel = some ch ∧ s.prepared ch = false) ∧
    (∃ (s : State) (ch : DmaIx), s.prepared ch = true ∧ s.dma.ch[ch].state = 2 ∧ State.chainEnded s.dma.ch[ch] =
        true) :=
  ⟨⟨chain (fun c => { c with state := 1 }), 31, 0x80000000, by decide +kernel⟩,
   ⟨chain id, 31, 0x40000000, by decide +kernel⟩,
   ⟨chain (fun c => { c with state := 2 }), 31, 0x20000000, by decide +kernel⟩,
   ⟨chain (fun c => { c with state := 3 }), 31, 0x10000000, by decide +kernel⟩,
   ⟨chain (fun c => { c with state := 2 }), 31, 0x80000000, by decide +kernel⟩,
   ⟨chain (fun c => { c with state := 1 }), 31, 0x40000000, by decide +kernel⟩,
   ⟨chain (fun c => { c with state := 2 }), 31, desc1, by decide +kernel⟩,
   ⟨chain (fun c => { c with state := 2 }), 31, 0, by unfold AsyncRoom; decide +kernel⟩,
   ⟨chain (fun c => { c with state := 2, xfer := some (xfer1 [(0, 1, false)] true) }), 31, xfer1 [(0, 1, false)] true, (0, 1, false), [], [7],
       by decide +kernel⟩,
   ⟨up ringCfg |> poolBusy, 0, [7], by decide +kernel⟩,
   ⟨chain (fun c => { c with state := 2, xfer := some (xfer1 [] true) }), 31, by decide +kernel⟩⟩

theorem test_OverlayPortPacksReadsAndFlushes :
    (∃ (s : State) (d : BitVec 16), s.overlayOpen = true ∧ s.ovl.ignore = false ∧ s.ovl.inItem.isSome = true ∧
        s.ovl.fullAt = false ∧ s.ovl.inWord.length < 30 ∧ ∀ (n : Nat), s.ovl.inLeft = some n → 2 < n) ∧
    (∃ (s : State) (d : BitVec 16), s.overlayOpen = true ∧ s.ovl.ignore = false ∧ s.ovl.inItem.isSome = true ∧
        s.ovl.fullAt = false ∧ s.ovl.inWord.length = 30 ∧ s.ovl.inLeft = none) ∧
    (∃ (s : State) (d : BitVec 16), s.overlayOpen = true ∧ s.ovl.fullAt = true ∧ s.ovl.ignore = false) ∧
    (∃ (s : State) (w : FifoWord) (rest : List FifoWord), s.overlayReads = true ∧ s.ovl.fifo = w :: rest ∧ w.gap =
        none ∧ w.last = false ∧ w.soi = false ∧ s.ovl.part ≠ []) ∧
    (∃ (s : State) (v : Word), s.hostUp = true ∧ BitVec.getLsbD v 31 = true ∧ s.ovl.flushing = false) ∧
    (∃ (s : State), s.up = true ∧ s.ovl.flushing = true ∧ s.fld (aOvl 0) 26 16 ≤ 2044 ∧ s.fld (aOvl 0) 10 0 < s.fld
        (aOvl 0) 26 16) :=
  ⟨⟨overlay (fun o => { o with inItem := some 0, inWord := List.replicate 28 7 }), 0x1234, ⟨by decide +kernel,
      by decide +kernel, by decide +kernel, by decide +kernel,
      by decide +kernel, fun n h => nomatch (show (none : Option Nat) = some n from h)⟩⟩,
   ⟨overlay (fun o => { o with inItem := some 0, inWord := List.replicate 30 7 }), 0x1234, by decide +kernel⟩,
   ⟨overlay (fun o => { o with compat := true, fifo := List.replicate 2047 word1 }), 5, by decide +kernel⟩,
   ⟨overlay (fun o => { o with fifo := [word1], part := [7] }), word1, [], by decide +kernel⟩,
   ⟨up [], 0x80000000, by decide +kernel⟩,
   ⟨overlay (fun o => { o with flushing := true }), by decide +kernel⟩⟩

theorem test_CountersWrapSampleAndWindow :
    (∃ (s : State) (n : Fin 64), 2 ^ 48 ≤ s.pmc.ctr[n].value ∧ s.fbit (aPmcCtr (n.1) 0) 29 = false) ∧
    (∃ (s : State) (n : Fin 64), 2 ^ 48 ≤ s.pmc.ctr[n].value ∧ s.fbit (aPmcCtr (n.1) 0) 29 = true) ∧
    (∃ (s : State) (n : Fin 64) (off : Word) (task : BitVec 16) (skid : Fin 33) (r : RingIx), s.up = true ∧
        s.pmc.ctr[n].sample = true ∧ r.1 = s.fld (aPmc 0) 6 0 ∧ (r.1 = 0 ∨ s.hif.rings[r].state ≠ RingState.active ∨
        s.eqFull r = true)) ∧
    (∃ (s : State) (n : Fin 64) (off : Word) (task : BitVec 16) (skid : Fin 33) (r : RingIx), s.up = true ∧
        s.pmc.ctr[n].sample = true ∧ r.1 = s.fld (aPmc 0) 6 0 ∧ r.1 ≠ 0 ∧ s.hif.rings[r].state = RingState.active ∧
        s.eqFull r = false) ∧
    (∃ (s : State) (m : Fin 16), s.up = true ∧ s.fbit (aPmcBw (↑m) 0) 31 = true ∧ s.fbit (aPmc 0) 31 = false) :=
  ⟨⟨counted [] ⟨2 ^ 48, false, false, 0⟩, 63, by decide +kernel⟩,
   ⟨counted [(aPmcCtr 63 0, 0x20000000)] ⟨2 ^ 48, false, false, 0⟩, 63, by decide +kernel⟩,
   ⟨counted [] ⟨0, false, true, 0⟩, 63, 5, 6, 32, 0, by decide +kernel⟩,
   ⟨counted (ringCfg ++ [(aPmc 0, 1)]) ⟨0, false, true, 0⟩ |> inRing id, 63, 5, 6, 32, 1, by decide +kernel⟩,
   ⟨up [(aPmcBw 15 0, 0x80000000)], 15, by decide +kernel⟩⟩

theorem test_SecondsCopyHoldsUntilTheNextRead :
    (∃ (s : State), s.hostUp = true ∧ s.bar0Up = true) ∧
    (∃ (c : Instr) (s : State) (t : State), exec c s = Host.Outcome.next t) :=
  ⟨⟨up [], by decide +kernel⟩,
   ⟨.refclkReturn, State.reset, _, rfl⟩⟩

theorem test_EachTickAddsTheIncrement :
    (∃ (s : State), s.clear = true ∧ s.sys.pll = true ∧ s.sys.seeded = true) ∧
    (∃ (s : State), s.clear = true ∧ s.sys.pll = true ∧ s.sys.seeded = true ∧ ∀ (x : AxisIx), s.axis[x].cmd = none ∧
        s.axis[x].begins = false ∧ s.axis[x].sw[0] = false ∧ s.axis[x].sw[1] = false ∧ s.fld (aMot (x.1) 44) 15 0 =
        0) ∧
    (∃ (s : State), s.hostUp = true ∧ s.bar0Up = true) ∧
    (∃ (s : State) (t : State) (v : Word), CfgForm s ∧ s.hostUp = true ∧ s.clear = true ∧ s.sys.pll = true ∧
        s.sys.seeded = true ∧ exec (Instr.merIncWrite v) s = Host.Outcome.next t ∧ 41901097 ≤ BitVec.toNat v ∧
        BitVec.toNat v ≤ 41984983) ∧
    (∃ (s : State) (t : State) (v : Word), CfgForm s ∧ s.hostUp = true ∧ s.clear = true ∧ s.sys.pll = true ∧
        s.sys.seeded = true ∧ exec (Instr.merIncWrite v) s = Host.Outcome.next t ∧ (BitVec.toNat v < 41901097 ∨
        41984983 < BitVec.toNat v)) :=
  ⟨⟨boot fun y => { y with seeded := true }, by decide +kernel⟩,
   ⟨boot fun y => { y with seeded := true }, by decide +kernel⟩,
   ⟨up [], by decide +kernel⟩,
   ⟨up [], _, 41984983, ⟨by unfold CfgForm; decide +kernel, by decide +kernel, by decide +kernel,
       by decide +kernel, by decide +kernel, rfl, by decide +kernel, by decide +kernel⟩⟩,
   ⟨up [], _, 41901096, ⟨by unfold CfgForm; decide +kernel, by decide +kernel, by decide +kernel,
       by decide +kernel, by decide +kernel, rfl, by decide +kernel⟩⟩⟩

theorem test_BootFailuresArePosted :
    (∃ (s : State) (t : State) (a : List Byte) (b : List Byte) (bad : List (Fin 5)), s.clear = true ∧ s.sys.pll =
        true ∧ s.sys.hbm = true ∧ s.sys.stage < 2 ∧ exec (Instr.bootSlotVerifyDone a b bad) s = Host.Outcome.next t) ∧
    (∃ (s : State) (t : State) (image : List Byte) (bad : List (Fin 5)), s.clear = true ∧ s.sys.stage = 3 ∧ exec
        (Instr.hostImageVerifyDone image bad) s = Host.Outcome.next t) ∧
    (∃ (s : State), s.clear = true ∧ s.sys.hbm = true ∧ s.sys.seeded = true ∧ s.sys.stage = 4 ∧ s.sys.probed = true
        ∧ s.sys.fwReady = false ∧ 4 ≤ s.activeCores ∧ s.corruptSlots = 0 ∧ s.hif.async.length +
        s.sys.bootErrs.length ≤ 256) ∧
    (∃ (s : State) (r : RingIx) (e : Event) (rest : List Event), s.up = true ∧ s.asyncRing = some r ∧ s.hif.lost = 0
        ∧ s.hif.async = e :: rest ∧ s.asyncBlocked = true) ∧
    (∃ (s : State) (r : RingIx) (e : Event) (rest : List Event), s.up = true ∧ s.asyncRing = some r ∧ s.hif.lost = 0
        ∧ s.hif.async = e :: rest ∧ s.asyncBlocked = false) :=
  ⟨⟨boot (fun y => { y with hbm := true, stage := 1 }), _, [], [], [], ⟨by decide +kernel, by decide +kernel,
      by decide +kernel, by decide +kernel, rfl⟩⟩,
   ⟨boot (fun y => { y with stage := 3 }), _, [], [], ⟨by decide +kernel, by decide +kernel, rfl⟩⟩,
   ⟨boot fun y => { y with hbm := true, seeded := true, stage := 4, probed := true, bootErrs := [0x1001] },
       by decide +kernel⟩,
   ⟨up [(aHifCtrl, 0x100)] |> inHif (fun h => { h with async := [event] }), 1, event, [], by decide +kernel⟩,
   ⟨(up ((aHifCtrl, 0x100) :: ringCfg) |> inRing id) |> inHif (fun h => { h with async := [event] }), 1, event, [], by decide +kernel⟩⟩

theorem test_StepRunsTheFrontCommand :
    (∃ (s : State) (c : Instr) (rest : List Instr), s.pending = c :: rest) ∧
    (∃ (s : State), s.pending = []) :=
  ⟨⟨{ up [] with pending := [.firmwareReady] }, .firmwareReady, [], by decide +kernel⟩,
   ⟨State.reset, by decide +kernel⟩⟩

theorem test_CommandsKeepTheQueueAndTheOutput :
    ∃ (c : Instr) (s : State) (t : State), exec c s = Host.Outcome.next t :=
  ⟨.refclkReturn, State.reset, _, rfl⟩

theorem test_StepKeepsTheSpoolForm :
    ∃ (s : State) (t : State), SpoolForm s ∧ step s = Host.Outcome.next t :=
  ⟨State.reset, _, ⟨by unfold SpoolForm; decide +kernel, rfl⟩⟩

theorem test_StepKeepsTheRegisterForm :
    ∃ (s : State) (t : State), CfgForm s ∧ step s = Host.Outcome.next t :=
  ⟨State.reset, _, ⟨by unfold CfgForm; decide +kernel, rfl⟩⟩

/-! ## Worked examples of the spec: every expected number is the spec's own -/

/-- What a step that answers a next state leaves, seen through `f`. -/
def leaves {α : Type} (f : State → α) : Host.Outcome State Fault Refusal → Option α
  | .next t => some (f t)
  | _ => none

/-- Chapter 0: serial comparison. -/
theorem test_serial_order : afterMod 16 0x0002 0xFFFE = true ∧ afterMod 16 0x8000 0 = false := by decide

/-- Chapter 3: Sidereal reads 1,843,200,000 s and 12,345; Meridian takes 376,739,501 ns and the fraction 0xF400. -/
theorem test_meridian_seed :
    leaves (·.mer.time) (exec .meridianSeed { boot id with sdr := { Sidereal.reset with sec := 1843200000, sub := 12345 } }) =
      some ((1843200000 * 1000000000 + 376739501) * 2 ^ 24 + 0xF400 * 2 ^ 8) := by decide +kernel

def ring5 (f : Ring → Ring) : State :=
  let s := up [(aRing 5 0, 0x1000), (aRing 5 8, 0x80000008), (aRing 5 0x10, 0x2000), (aRing 5 0x18, 0x2007)]
  { s with hif := { s.hif with rings := s.hif.rings.set 5 (f { Ring.reset with state := .active }) } }

/-- Chapter 4: with head and tail at 250, the doorbell 0x8000_0004 moves the tail to 260; at head 260, position 16 halts the
ring with cause 1; 0x8000_0001 moves the event head to 129. -/
theorem test_ring5_doorbells :
    leaves (·.hif.rings[5].sqTail) (exec (.sqDoorbell 5 0x80000004) (ring5 fun c => { c with sqHead := 250, sqTail := 250 })) = some 260 ∧
    leaves (fun t => (t.hif.rings[5].state, t.hif.rings[5].cause))
      (exec (.sqDoorbell 5 0x00000010) (ring5 fun c => { c with sqHead := 260, sqTail := 260 })) = some (.halted, 1) ∧
    leaves (·.hif.rings[5].eqHead) (exec (.eqDoorbell 5 0x80000001) (ring5 fun c => { c with eqHead := 126, eqTail := 129 })) = some 129 := by
  decide +kernel

/-- Chapter 6: 32 rows of 16 bits are 0x0040_0000 bytes. -/
theorem test_uncompressed_length : fmtLen 0x11 32 = 0x00400000 ∧ sliceOut { band1 with format := 0x11, rows := 32 } = 2097152 := by
  decide

/-- Chapter 7: the curve, the trim and the trimmed value of the redistribution example, and its two saturating neighbours. -/
theorem test_stripe_example :
    curveAt (9400 * 2 ^ 120 + 10500 * 2 ^ 135) 9000 = 10268 ∧ trimLine 32768 32440 12 1000 = 32687 ∧ trimmed 10268 32687 = 10243 := by
  decide

theorem test_redistribution_example :
    let t : BarTables := { BarTables.reset with out := [(3, 1 <<< 4)] }
    let v := fun j => if j = 100 then 10243 else if j = 101 then 10100 else if j = 99 then 15000 else 0
    redistributed t 64 32 v 101 = 12661 ∧ 16383 ≤ redistributed t 64 32 v 99 ∧ redistributed t 64 32 v 102 = 1280 := by
  decide +kernel

/-- Chapter 8: v = 9,000 with L = 4 is level 2 at a threshold of 30,000 and level 1 at 50,000; its direct code is 0x8C. -/
theorem test_dither_example :
    let s := fun n => up [(aRetCfg 0, 0x23990000)] |> inBar 0 fun b => { b with active := { b.active with array := [(0, n)] } }
    (s 30000).ditherLevel 0 ⟨0, 0, 0, 0, none⟩ 0 9000 = 2 ∧ (s 50000).ditherLevel 0 ⟨0, 0, 0, 0, none⟩ 0 9000 = 1 ∧
      directCode 9000 = 0x8C := by decide +kernel

/-- Chapter 8: shares of the error-diffusion example. -/
theorem test_shares_example : edShare 7000 37 = 1012 ∧ edShare 7000 27 = 738 ∧ edShare (-7487) 37 = -1082 ∧ edShare (-7487) 27 = -790 ∧
    edShare (-7647) 37 = -1105 ∧ edShare 6650 27 = 701 := by decide

/-- Chapter 10: HP9 reports M0: lane 1, inverted; M1: lane 0; M2: none. The fourth report alike swaps the lanes and pre-inverts L1. -/
theorem test_lane_swap_example :
    leaves (fun t => (t.port[9].link.lstate, t.port[9].link.swapped, t.port[9].link.preinv)) (exec (.trainRx 9 false 2 0 0x2C5)
      (up [] |> inLink 9 fun l => { l with training := true, lstate := 2, sub1 := true, lock := true, report := some 0x2C5, alike := 3 })) =
    some (3, true, 0b010) := by decide +kernel

/-- Chapter 14: the red channel of the quad, stage by stage. -/
theorem test_quad_example :
    widenRaw 2 1000 = 4000 ∧ flatField 0x4400 3744 = 3978 ∧ flatField 0x4400 7744 = 8228 ∧ flatField 0x4400 7784 = 8271 ∧
    (quadPixel 0 false 3978 8228 8271 0).2.1 = 8250 ∧ whiteBalance 0x8000 3978 = 7956 ∧
    matrixRow 0 [(0x24, 0xFC001400)] (7956, 8250, 0) 0 = 7883 ∧
    toneAt (fun i => if i = 492 then 15000 else if i = 493 then 14960 else 0) 7883 = 14973 := by decide +kernel

/-- Chapter 15: δ = −481.9 takes the target from 33,000 to 32,518. -/
theorem test_target_example : (up []).newTarget 1 33000 (-4819 / 10) = 32518 := by decide +kernel

/-! ## Ill-formed commands: one for each check of WellFormed, refused by name -/

/-! ## Commands that no event of the manual spells: one for each range of WellFormed. A meaning answers for them too. -/

theorem test_ill_formed :
    ([.bootPortProbe [(0, ⟨4096, 0, 0, 0, 0, 0⟩)], .bootPortProbe [(0, ⟨0, 256, 0, 0, 0, 0⟩)], .bootPortProbe [(0, ⟨0, 0, 0, 0, 16, 0⟩)],
      .bootPortProbe [(0, ⟨0, 0, 0, 0, 0, 65536⟩)], .comparatorSample 0 32768, .bar4Read 4294967295 2,
      .bar4Read 0 0, .bar4Write 4294967295 [0, 0], .bar4Write 0 [], .compress 1 [] (List.replicate 257 0),
      .spoolRequestServe 0 [(0, 0)], .spoolRequestServe 0 [(1, 1), (1, 2)], .hbmScrubRead 0 [(0, 0)] false,
      .hbmScrubRead 0 [(1, 1), (1, 2)] false] : List Instr).all (fun c => !c.wf) = true := by
  decide +kernel

end Sys2Proof.Tests
end

section
/-!
The laws of the stored registers (R12, R31): every operation on their sparse table keeps its canonical form, a register
read after a write holds what was written, and every other register reads as before.
-/
namespace Sys2Proof.Machine
open Sys2Proof

/-! ## Sparse tables -/

section
variable {α : Type} [DecidableEq α] {d : Nat → α}

theorem tableWf_cons {lo k : Nat} {v : α} {t : Table α} :
    tableWf d lo ((k, v) :: t) = true ↔ lo ≤ k ∧ v ≠ d k ∧ tableWf d (k + 1) t = true := by
  simp only [tableWf, Bool.and_eq_true, decide_eq_true_eq, and_assoc]

theorem tableWf_mono {lo lo' : Nat} (h : lo' ≤ lo) : ∀ {t : Table α}, tableWf d lo t = true → tableWf d lo' t = true
  | [], _ => rfl
  | (k, v) :: t, ht => by
    rw [tableWf_cons] at ht ⊢
    exact ⟨Nat.le_trans h ht.1, ht.2⟩

/-- A key below every listed one reads as its default. -/
theorem tget_of_lt {lo k : Nat} (h : k < lo) : ∀ {t : Table α}, tableWf d lo t = true → tget d t k = d k
  | [], _ => rfl
  | (a, v) :: t, ht => by
    obtain ⟨hlo, -, ht⟩ := tableWf_cons.mp ht
    rw [tget, if_neg (by omega)]
    exact tget_of_lt (lo := a + 1) (by omega) ht

/-- Writing one element keeps the canonical form. -/
theorem tableWf_tput {lo k : Nat} (hk : lo ≤ k) (v : α) :
    ∀ {t : Table α}, tableWf d lo t = true → tableWf d lo (tput d t k v) = true
  | [], _ => by
    by_cases hv : v = d k <;> simp [tput, tableWf, hv, hk]
  | (a, w) :: t, ht => by
    obtain ⟨hlo, hw, ht⟩ := tableWf_cons.mp ht
    rcases Nat.lt_trichotomy k a with h | rfl | h
    · by_cases hv : v = d k
      · simpa [tput, h, hv] using tableWf_cons.mpr ⟨hlo, hw, ht⟩
      · simpa [tput, h, hv] using tableWf_cons.mpr ⟨hk, hv, tableWf_cons.mpr ⟨h, hw, ht⟩⟩
    · by_cases hv : v = d k
      · simpa [tput, hv] using tableWf_mono (by omega) ht
      · simpa [tput, hv] using tableWf_cons.mpr ⟨hk, hv, ht⟩
    · have h' : ¬k < a := by omega
      simpa [tput, h', Nat.ne_of_gt h] using tableWf_cons.mpr ⟨hlo, hw, tableWf_tput h v ht⟩

/-- Leaving out listed elements keeps the canonical form. -/
theorem tableWf_filter (p : Nat × α → Bool) {lo : Nat} :
    ∀ {t : Table α}, tableWf d lo t = true → tableWf d lo (t.filter p) = true
  | [], _ => rfl
  | (a, w) :: t, ht => by
    obtain ⟨hlo, hw, ht⟩ := tableWf_cons.mp ht
    have ih := tableWf_filter p ht
    by_cases h : p (a, w) = true
    · rw [List.filter_cons_of_pos h]
      exact tableWf_cons.mpr ⟨hlo, hw, ih⟩
    · rw [List.filter_cons_of_neg h]
      exact tableWf_mono (by omega) ih

/-- An element read after it is written is the one written. -/
theorem tget_tput_same {lo k : Nat} (v : α) : ∀ {t : Table α}, tableWf d lo t = true → tget d (tput d t k v) k = v
  | [], _ => by
    by_cases hv : v = d k <;> simp [tput, tget, hv]
  | (a, w) :: t, ht => by
    obtain ⟨-, hw, hrest⟩ := tableWf_cons.mp ht
    rcases Nat.lt_trichotomy k a with h | rfl | h
    · by_cases hv : v = d k
      · simpa [tput, h, hv] using tget_of_lt h (tableWf_cons.mpr ⟨Nat.le_refl a, hw, hrest⟩)
      · simp [tput, tget, h, hv]
    · by_cases hv : v = d k
      · simpa [tput, hv] using tget_of_lt (Nat.lt_succ_self k) hrest
      · simp [tput, tget, hv]
    · have h' : ¬k < a := by omega
      simpa [tput, tget, h', Nat.ne_of_lt h, Nat.ne_of_gt h] using tget_tput_same v hrest

/-- Every other element reads as before. -/
theorem tget_tput_ne {k a : Nat} (v : α) (h : a ≠ k) : ∀ t : Table α, tget d (tput d t k v) a = tget d t a
  | [] => by
    by_cases hv : v = d k <;> simp [tput, tget, hv, h.symm]
  | (c, w) :: t => by
    have ih := tget_tput_ne v h t
    rcases Nat.lt_trichotomy k c with hc | rfl | hc
    · by_cases hv : v = d k <;> simp [tput, tget, hc, hv, h.symm]
    · by_cases hv : v = d k <;> simp [tput, tget, hv, h.symm]
    · have hc' : ¬k < c := by omega
      simp [tput, tget, hc', Nat.ne_of_gt hc, ih]

end

/-! ## Registers -/

namespace State
variable {s : State} {off : Nat}

/-- R11: a register read after it is written holds what was written. -/
theorem rd_wr_same (h : CfgForm s) (v : Word) : (s.wr off v).rd off = v := tget_tput_same v h

theorem rd_wr_ne (s : State) (v : Word) {a : Nat} (h : a ≠ off) : (s.wr off v).rd a = s.rd a := tget_tput_ne v h s.cfg

end State

theorem cfgForm_reset : CfgForm State.reset := rfl

end Sys2Proof.Machine
end

section
/-!
The slots of Meridian under a write of their CTRL (R309, R311 to R316): what the write stores, what an ARM and a DISARM make
of the slot, and that nothing else of the state but events and counters moves.
-/
namespace Sys2Proof.Machine
open Sys2Proof

/-! ## Where only the performance counters move -/

theorem upd_upd {α : Type} {n : Nat} (v : Vector α n) (i : Fin n) (f g : α → α) :
    upd (upd v i f) i g = upd v i fun a => g (f a) := by
  simp [upd]

namespace State

/-- A loop whose turns change only the performance counters changes only them. -/
theorem forEach_pmcOnly {α : Type} (g : α → State → State) (h : ∀ a t, ∃ p, g a t = t.onPmc fun _ => p) :
    ∀ (l : List α) (s : State), ∃ p, s.forEach l g = s.onPmc fun _ => p
  | [], s => ⟨s.pmc, rfl⟩
  | a :: l, s => by
    obtain ⟨p, hp⟩ := h a s
    obtain ⟨q, hq⟩ := forEach_pmcOnly g h l (g a s)
    exact ⟨q, by rw [forEach_cons, hq, hp]; rfl⟩

theorem count_pmcOnly (s : State) (ev n : Nat) : ∃ p, s.count ev n = s.onPmc fun _ => p := by
  unfold count
  split
  · exact ⟨s.pmc, rfl⟩
  · refine forEach_pmcOnly _ (fun i t => ?_) _ _
    unfold countOne
    split
    · exact ⟨_, rfl⟩
    · exact ⟨t.pmc, rfl⟩

theorem hostIn_pmcOnly (s : State) (n : Nat) : ∃ p, s.hostIn n = s.onPmc fun _ => p := by
  unfold hostIn pass
  split
  · exact ⟨s.pmc, rfl⟩
  · refine forEach_pmcOnly _ (fun i t => ?_) _ _
    unfold passOne
    split
    · exact ⟨_, rfl⟩
    · exact ⟨t.pmc, rfl⟩

/-! ## Events that find room (R115) -/

theorem le_asyncRoom (s : State) : 256 ≤ s.asyncRoom := by
  unfold asyncRoom
  split
  · exact Nat.le_refl _
  · split <;> omega

theorem postAsync_of_room {s : State} (h : AsyncRoom s) (e : Event) :
    s.postAsync e = s.onHif fun u => { u with async := u.async ++ [e] } := by
  have hlt : s.hif.async.length < s.asyncRoom := Nat.lt_of_lt_of_le h s.le_asyncRoom
  rw [postAsync, if_neg (Nat.not_le.mpr hlt)]

theorem errorUnit_of_room {s : State} (h : AsyncRoom s) (code : Code) (cls : Cls) (unit det src : Nat) :
    s.errorUnit code cls unit det src =
      s.onHif fun u => { u with async := u.async ++ [s.unitEvent code cls unit det src] } := postAsync_of_room h _

/-! ## Writes of a slot's CTRL register (R311) -/

/-- R14, R311: LATE and OVERRUN clear where CTRL is written with a 1 and hardware has not set them in this tick. -/
def clearW1c (s : State) (r : SlotRef) (v : Word) (q : Slot) : Slot :=
  { q with
    late := q.late && (!v.getLsbD 26 || s.heldW1c (slotCtrl r) 26)
    overrun := q.overrun && (!v.getLsbD 25 || s.heldW1c (slotCtrl r) 25) }

/-- R311: what a CTRL write that is not refused does first. -/
def storeCtrl (r : SlotRef) (v : Word) (s : State) : State :=
  (s.wr (slotCtrl r) (v &&& 0x0180FFFF)).onSlot r (s.clearW1c r v)

variable {s : State} {r : SlotRef} {v : Word}

theorem writeSlotCtrl_refused (h31 : v.getLsbD 31 = true) (hr : s.armRefused r v = true) :
    s.writeSlotCtrl r v = s.refuseWrite (slotCtrl r) v := by
  simp [writeSlotCtrl, h31, hr]

theorem writeSlotCtrl_arm (h31 : v.getLsbD 31 = true) (hr : s.armRefused r v = false) :
    s.writeSlotCtrl r v = (s.storeCtrl r v).arm r := by
  simp only [writeSlotCtrl, h31, hr, Bool.and_false, Bool.false_eq_true, if_false, if_true]
  rfl

theorem writeSlotCtrl_disarm (h31 : v.getLsbD 31 = false) (h30 : v.getLsbD 30 = true) :
    s.writeSlotCtrl r v = (s.storeCtrl r v).disarm r := by
  simp only [writeSlotCtrl, h31, h30, Bool.false_and, Bool.false_eq_true, if_false, if_true]
  rfl

@[simp] theorem rd_onSlot (r : SlotRef) (g : Slot → Slot) (s : State) (a : Nat) : (s.onSlot r g).rd a = s.rd a := by
  cases r <;> rfl

/-- Every register but the slot's CTRL stays. -/
theorem rd_storeCtrl_ne {a : Nat} (h : a ≠ slotCtrl r) : (s.storeCtrl r v).rd a = s.rd a := by
  rw [storeCtrl, rd_onSlot, rd_wr_ne s _ h]

theorem rd_storeCtrl_same (h : CfgForm s) : (s.storeCtrl r v).rd (slotCtrl r) = v &&& 0x0180FFFF := by
  rw [storeCtrl, rd_onSlot, rd_wr_same h]

theorem timeTarget_storeCtrl (i : Fin 256) : (s.storeCtrl (.time i) v).timeTarget i = s.timeTarget i := by
  have h (j : Nat) (hj : j ≠ 0x14) : (s.storeCtrl (.time i) v).rd (aTSlot i.1 j) = s.rd (aTSlot i.1 j) :=
    rd_storeCtrl_ne (by simp only [slotCtrl, aTSlot]; omega)
  simp only [timeTarget, fld, rdN, h 0 (by decide), h 4 (by decide), h 8 (by decide)]

/-- A slot's fields but LATE and OVERRUN stay, so that none falls due by the write. -/
theorem timeDue_storeCtrl (i j : Fin 256) : (s.storeCtrl (.time i) v).timeDue j = s.timeDue j := by
  have hslot : (s.storeCtrl (.time i) v).mer.tslot[j] =
      if i = j then s.clearW1c (.time i) v s.mer.tslot[j] else s.mer.tslot[j] :=
    upd_get ..
  have htime : (s.storeCtrl (.time i) v).mer.time = s.mer.time := rfl
  rw [timeDue, timeDue, hslot, htime]
  split <;> rfl

theorem stillQueued_storeCtrl (i : Fin 256) : (s.storeCtrl (.time i) v).stillQueued (.time i) = s.stillQueued (.time i) := by
  have hact : (s.storeCtrl (.time i) v).slotAct (.time i) = s.slotAct (.time i) := by
    have hne : aTSlot i.1 0x10 ≠ slotCtrl (.time i) := by simp only [slotCtrl, aTSlot]; omega
    simp only [slotAct, rdN, rd_storeCtrl_ne hne]
  have hmer : (s.storeCtrl (.time i) v).mer.dispatch = s.mer.dispatch := rfl
  rw [stillQueued, stillQueued, hact, hmer]

/-! ## Arming (R309, R311, R312) -/

/-- A slot that is armed at a target. -/
def armedAt (target : Nat) (q : Slot) : Slot :=
  { q with state := .armed, runs := 0, target := target, due := none, ahead := false }

theorem time_arm_ahead (i : Fin 256) (h : s.mer.time < s.timeTarget i * 16777216) :
    s.arm (.time i) = s.onTSlot i (armedAt (s.timeTarget i)) := by
  have hdue : (s.onTSlot i (armedAt (s.timeTarget i))).timeDue i = false := by
    simp only [timeDue, onTSlot_get_same, armedAt, decide_true, Bool.true_and, decide_eq_false_iff_not]
    exact Nat.not_le.mpr h
  exact if_neg (ne_true_of_eq_false hdue)

theorem time_arm_reached (i : Fin 256) (h : s.timeTarget i * 16777216 ≤ s.mer.time) :
    s.arm (.time i) = (s.onTSlot i (armedAt (s.timeTarget i))).occur (.time i) true := by
  have hdue : (s.onTSlot i (armedAt (s.timeTarget i))).timeDue i = true := by
    simp only [timeDue, onTSlot_get_same, armedAt, decide_true, Bool.true_and, decide_eq_true_eq]
    exact h
  exact if_pos hdue

/-- R312: what a late occurrence that LATE_DROP drops makes of a slot without PERIOD. -/
def droppedLate (q : Slot) : Slot := { q with runs := q.runs + 1, late := true, state := .dropped }

/-- R309: without PERIOD, the occurrence was the slot's last. -/
theorem slotNext_once (i : Fin 256) (h : s.rdN (aTSlot i.1 0xC) = 0) (final : SlotState) :
    s.slotNext (.time i) final = s.onTSlot i fun q => { q with state := final } := by
  simp [slotNext, h]

/-- R312: a late occurrence of a slot with LATE_DROP and no PERIOD is dropped and reported. -/
theorem occur_time_dropped (i : Fin 256) (hdrop : s.fbit (slotCtrl (.time i)) 24 = true) (hper : s.rdN (aTSlot i.1 0xC) = 0)
    (hroom : AsyncRoom s) :
    ∃ p, s.occur (.time i) true = (((s.onTSlot i droppedLate).setW1c (slotCtrl (.time i)) 26).onHif fun u =>
      { u with async := u.async ++ [s.unitEvent 0x0902 .c unitNone 0 0x0D] }).onPmc fun _ => p := by
  let u := (s.onTSlot i fun q => { q with runs := q.runs + 1, late := q.late || true }).setW1c (slotCtrl (.time i)) 26
  have hocc : s.occur (.time i) true =
      ((u.errorUnit 0x0902 .c unitNone 0 0x0D).count (6 * 64 + 14) 1).slotNext (.time i) .dropped := by
    simp only [occur, hdrop, Bool.and_self, if_true]
    rfl
  obtain ⟨p, hp⟩ := count_pmcOnly (u.errorUnit 0x0902 .c unitNone 0 0x0D) (6 * 64 + 14) 1
  refine ⟨p, ?_⟩
  rw [hocc, hp, errorUnit_of_room (s := u) hroom, slotNext_once i (by exact hper)]
  simp only [u, onTSlot, onMer, setW1c, onSetNow, onHif, onPmc, upd_upd, Bool.or_true]
  rfl

/-! ## What a position slot's target rests on (R314) -/

/-- Two states whose stored registers of Heliostat's block are the same. -/
def SameHls (s t : State) : Prop := ∀ j < 0x100000, t.rd (aHls j) = s.rd (aHls j)

section
variable {t : State}

theorem SameHls.enc (h : SameHls s t) {m j : Nat} (hj : 0x1000 * m + j < 0x100000) :
    t.rd (aHlsEnc m j) = s.rd (aHlsEnc m j) := by
  have := h (0x1000 * m + j) hj
  simpa only [aHls, aHlsEnc, Nat.add_assoc] using this

theorem SameHls.gears (h : SameHls s t) : t.gears 0 = s.gears 0 := by
  have hcount : t.gearCount 0 = s.gearCount 0 := by
    simp only [gearCount, fld, rdN, h.enc (m := 0) (j := 0x40) (by decide)]
  have hle : s.gearCount 0 ≤ 16 := by
    have := Nat.mod_lt (s.rdN (aHlsEnc 0 0x40) / 2 ^ 0) (show 0 < 2 ^ (3 + 1 - 0) by decide)
    simp only [gearCount, fld, bits]
    omega
  have hentry (e : Nat) (he : e < 16) : t.gearStart 0 e = s.gearStart 0 e ∧ t.gearRatio 0 e = s.gearRatio 0 e := by
    have hs := h.enc (m := 0) (j := 0x80 + 8 * e) (by omega)
    have hs' := h.enc (m := 0) (j := 0x80 + 8 * e + 4) (by omega)
    have hr := h.enc (m := 0) (j := 0x100 + 8 * e) (by omega)
    have hr' := h.enc (m := 0) (j := 0x104 + 8 * e) (by omega)
    have hadd : aHlsEnc 0 (0x80 + 8 * e) + 4 = aHlsEnc 0 (0x80 + 8 * e + 4) := by simp only [aHlsEnc]; omega
    simp only [gearStart, gearRatio, rdS64, rd64, rdN, hadd, hs, hs', hr, hr', and_self]
  rw [State.gears, State.gears, hcount]
  congr 1
  refine List.map_congr_left fun e he => ?_
  obtain ⟨hs, hr⟩ := hentry e (by have := List.mem_range.mp he; omega)
  rw [hs, hr]

theorem SameHls.barOff (h : SameHls s t) (k : BarIx) : t.barOff k = s.barOff k := by
  have := h (0x3000 + 16 * k.1) (by omega)
  have ha : aHls (0x3000 + 16 * k.1) = aHlsBar k.1 0 := by simp only [aHls, aHlsBar]; omega
  rw [ha] at this
  simp only [State.barOff, rdN, this]

theorem SameHls.rowTarget (h : SameHls s t) (hs : s.scan = false) (ht : t.scan = false) (a : Anchor) (k : BarIx) (n : Nat) :
    t.rowTarget a k n = s.rowTarget a k n := by
  simp only [State.rowTarget, hs, ht, h.gears, h.barOff, Bool.false_eq_true, if_false]

theorem SameHls.passDir (h : SameHls s t) (k : Nat) : t.passDir k = s.passDir k := by
  have hcount : t.passCount = s.passCount := by simp only [passCount, fld, rdN, h 0x2010 (by decide)]
  have hle : s.passCount ≤ 64 := by
    have := Nat.mod_lt (s.rdN (aHls 0x2010) / 2 ^ 0) (show 0 < 2 ^ (5 + 1 - 0) by decide)
    simp only [passCount, fld, bits]
    omega
  have hlt : k % s.passCount < s.passCount := Nat.mod_lt _ (by simp [passCount])
  have hbit : t.fbit (aHls (0x2100 + 4 * (k % s.passCount))) 31 = s.fbit (aHls (0x2100 + 4 * (k % s.passCount))) 31 := by
    simp only [fbit, rdN, h (0x2100 + 4 * (k % s.passCount)) (by omega)]
  rw [State.passDir, State.passDir, hcount, hbit]

theorem SameHls.high (h : SameHls s t) (hscan : t.scan = s.scan) (hhls : t.hls = s.hls) (hjob : t.job = s.job)
    (hbar : t.bar = s.bar) (m : EncIx) : t.high m = s.high m := by
  have hrows : t.passRows = s.passRows := by simp only [passRows, fld, rdN, h 0x2010 (by decide)]
  have hover (p : Pass) : t.passOver p = s.passOver p := by
    have hend (sh : Sheet) (n : Nat) : t.passEnd sh n = s.passEnd sh n := by rw [passEnd, passEnd, hrows]
    have hsheet : t.sheet? = s.sheet? := by funext id; rw [sheet?, sheet?, hjob]
    rw [passOver, passOver, hsheet]
    simp only [hend, hbar]
  have hheld : t.held m = s.held m := by simp only [held, sheet?, hjob, hhls, hscan, hover]
  simp only [State.high, State.travel, hheld, hhls, hscan, h.passDir]

end

/-! ## Arming a position slot (R312, R314, R315) -/

/-- The write of CTRL moves no register but CTRL, and of the state only the slot. -/
theorem posReached_storeCtrl (j : Fin 128) (hok : s.slotTargetOk (.pos j) = true) :
    (s.storeCtrl (.pos j) v).posReached j = s.posReached j := by
  let t := s.storeCtrl (.pos j) v
  have ht : t = s.storeCtrl (.pos j) v := rfl
  have hslot (i : Nat) (hi : i ≠ 0x14) : t.rd (aPSlot j.1 i) = s.rd (aPSlot j.1 i) :=
    rd_storeCtrl_ne (by simp only [slotCtrl, aPSlot]; omega)
  have hhls : SameHls s t := fun i hi => rd_storeCtrl_ne (by simp only [slotCtrl, aPSlot, aHls]; omega)
  have hscan : t.scan = s.scan := by
    simp only [scan, fbit, rdN, ht, rd_storeCtrl_ne (show aJobTransport ≠ slotCtrl (.pos j) by
      simp only [aJobTransport, slotCtrl, aPSlot]; omega)]
  have hbit (i : Nat) : t.fbit (aPSlot j.1 0xC) i = s.fbit (aPSlot j.1 0xC) i := by
    simp only [fbit, rdN, hslot 0xC (by decide)]
  have hpos : t.rdS64 (aPSlot j.1 0) = s.rdS64 (aPSlot j.1 0) := by
    have h4 : aPSlot j.1 0 + 4 = aPSlot j.1 4 := by simp only [aPSlot]
    simp only [rdS64, rd64, rdN, h4, hslot 0 (by decide), hslot 4 (by decide)]
  have htarget : t.posTarget j = s.posTarget j := by
    cases hrow : s.fbit (aPSlot j.1 0xC) 30 with
    | false => simp only [posTarget, hbit, hrow, hpos, Bool.false_eq_true, if_false]
    | true =>
      have hs : s.scan = false := by
        simp only [slotTargetOk, hrow, Bool.true_and, Bool.not_eq_true', Bool.or_eq_false_iff] at hok
        exact hok.2
      have hanchor (id : BitVec 32) : t.anchor? id = s.anchor? id := rfl
      simp only [posTarget, hbit, hrow, hpos, if_true, hanchor, hhls.rowTarget hs (hscan.trans hs), fld, rdN,
        hslot 0xC (by decide), hslot 8 (by decide)]
  have henc : t.slotEnc j = s.slotEnc j := by rw [slotEnc, slotEnc, hbit]
  have hhigh : t.high (s.slotEnc j) = s.high (s.slotEnc j) := hhls.high hscan rfl rfl rfl _
  rw [posReached, posReached, htarget, henc, hhigh]

theorem slotPred_storeCtrl (j : Fin 128) : (s.storeCtrl (.pos j) v).slotPred j = s.slotPred j := by
  simp only [slotPred, fbit, rdN, rd_storeCtrl_ne (show aPSlot j.1 0xC ≠ slotCtrl (.pos j) by
    simp only [slotCtrl, aPSlot]; omega)]

/-- A position slot that is armed. -/
def armedPos (q : Slot) : Slot := { q with state := .armed, runs := 0, due := none, ahead := false }

theorem pos_arm_waits (j : Fin 128) (hreach : s.posReached j = false) (hpred : s.slotPred j = false) :
    s.arm (.pos j) = s.onPSlot j armedPos := by
  have hr : (s.onPSlot j armedPos).posReached j = false := hreach
  have hp : (s.onPSlot j armedPos).slotPred j = false := hpred
  have hdue : (s.onPSlot j armedPos).posDue j true = s.onPSlot j armedPos := if_neg (by simp [hr])
  calc s.arm (.pos j) = ((s.onPSlot j armedPos).posDue j true).predict j := rfl
    _ = (s.onPSlot j armedPos).predict j := by rw [hdue]
    _ = s.onPSlot j armedPos := if_pos (by simp [hp])

/-! ## Disarming (R313, R316) -/

theorem disarm_time_cancels (i : Fin 256) (harmed : s.mer.tslot[i].state = .armed) (hdue : s.timeDue i = false) :
    s.disarm (.time i) = s.onTSlot i fun q => { q with state := .cancelled } := by
  have hs : (s.slot (.time i)).state = .armed := harmed
  simp only [disarm, hs, hdue, ne_eq, not_true_eq_false, if_false, Bool.false_eq_true]

theorem disarm_time_due (i : Fin 256) (hdue : s.timeDue i = true) :
    s.disarm (.time i) = (s.timeSlots (i.1 + 1)).onTSlot i fun q => { q with state := .done } := by
  have hs : (s.slot (.time i)).state = .armed := by
    simp only [timeDue, Bool.and_eq_true, decide_eq_true_eq] at hdue
    exact hdue.1
  simp only [disarm, hs, hdue, ne_eq, not_true_eq_false, if_false, if_true]

/-- In an ascending list that ends with `a`, a loop whose turns before `a` do nothing comes to the turn of `a`. -/
theorem forEach_eq_last {n : Nat} {a : Fin n} {g : Fin n → State → State} (hid : ∀ b < a, g b s = s) :
    ∀ {l : List (Fin n)}, l.Pairwise (· < ·) → a ∈ l → (∀ b ∈ l, b ≤ a) → s.forEach l g = g a s
  | b :: l, hl, ha, hle => by
    obtain ⟨hb, hl⟩ := List.pairwise_cons.mp hl
    rcases List.mem_cons.mp ha with rfl | ha
    · have hnil : l = [] := List.eq_nil_iff_forall_not_mem.mpr fun c hc =>
        absurd (hb c hc) (Nat.not_lt.mpr (hle c (List.mem_cons_of_mem _ hc)))
      rw [hnil, forEach_cons, forEach_nil]
    · rw [forEach_cons, hid b (hb a ha)]
      exact forEach_eq_last hid hl ha fun c hc => hle c (List.mem_cons_of_mem _ hc)

/-- R29: with no slot of a lower index due, a due slot is the only one of the slots up to it that runs. -/
theorem timeSlots_first (i : Fin 256) (hdue : s.timeDue i = true) (hlow : ∀ j : Fin 256, j < i → s.timeDue j = false) :
    s.timeSlots (i.1 + 1) = s.occur (.time i) false := by
  have hsorted : ((all 256).filter fun j => decide (j.1 < i.1 + 1)).Pairwise (· < ·) :=
    (List.pairwise_lt_finRange 256).filter _
  have hmem : i ∈ (all 256).filter fun j => decide (j.1 < i.1 + 1) := by simp [all]
  have hle : ∀ j ∈ (all 256).filter fun j => decide (j.1 < i.1 + 1), j ≤ i := fun j hj => by
    simp only [List.mem_filter, decide_eq_true_eq] at hj
    exact Nat.le_of_lt_succ hj.2
  have hrun := forEach_eq_last (s := s) (g := fun j t => if t.timeDue j then t.occur (.time j) false else t)
    (fun j hj => if_neg (by simp [hlow j hj])) hsorted hmem hle
  exact hrun.trans (if_pos hdue)

/-! ## An occurrence (R309 to R313) -/

/-- Nothing but Meridian has moved, and none of its time slots. -/
def MovesMer (s t : State) : Prop := t = s.onMer (fun _ => t.mer) ∧ t.mer.tslot = s.mer.tslot

theorem MovesMer.refl (s : State) : MovesMer s s := ⟨rfl, rfl⟩

theorem MovesMer.onMer {t : State} (h : MovesMer s t) {g : Meridian → Meridian} (hg : ∀ m, (g m).tslot = m.tslot) :
    MovesMer s (t.onMer g) := by
  obtain ⟨ht, hslot⟩ := h
  exact ⟨by rw [ht]; rfl, (hg t.mer).trans hslot⟩

theorem noteTrigger_moves (u : Nat) (b : Bool) (s : State) : MovesMer s (s.noteTrigger u b) := by
  unfold noteTrigger
  split
  · split
    · exact (MovesMer.refl s).onMer fun _ => rfl
    · exact MovesMer.refl s
  · exact MovesMer.refl s

theorem drive_moves (o : Fin 40) (b : Bool) (s : State) : MovesMer s (s.drive o b) := by
  unfold drive
  split
  · exact (noteTrigger_moves ..).onMer fun _ => rfl
  · exact MovesMer.refl s

/-- R310: a slot's action moves Meridian's outputs and dispatch queue, and no time slot. -/
theorem act_moves (r : SlotRef) (s : State) : MovesMer s (s.act r) := by
  unfold act
  dsimp only
  split
  · exact drive_moves ..
  · exact drive_moves ..
  · exact (drive_moves ..).onMer fun _ => rfl
  · split
    · exact (MovesMer.refl s).onMer fun _ => rfl
    · exact MovesMer.refl s

theorem execEvent_hifOnly (r : SlotRef) (s : State) : ∃ h, s.execEvent r = s.onHif fun _ => h := by
  unfold execEvent status postAsync
  split
  · split
    · exact ⟨_, rfl⟩
    · exact ⟨_, rfl⟩
  · exact ⟨s.hif, rfl⟩

theorem slotNext_time (i : Fin 256) (final : SlotState) (s : State) :
    ∃ g, s.slotNext (.time i) final = s.onTSlot i g ∧ ∀ q, (g q).runs = q.runs :=
  ⟨_, rfl, fun q => by split <;> rfl⟩

/-- R309: an occurrence that is not late and finds its last dispatch entry gone counts in its slot; besides Meridian, only
events and counters move. -/
theorem occur_time_runs (i : Fin 256) (hq : s.stillQueued (.time i) = false) :
    ∃ (m : Meridian) (g : Slot → Slot) (h : Hif) (p : Pmc),
      s.occur (.time i) false = (((s.onPmc fun _ => p).onMer fun _ => m).onHif fun _ => h).onTSlot i g ∧
      m.tslot = upd s.mer.tslot i (fun q => { q with runs := q.runs + 1 }) ∧ ∀ q, (g q).runs = q.runs := by
  let u := s.onTSlot i fun q => { q with runs := q.runs + 1, late := q.late || false }
  have hlate : u = s.onTSlot i fun q => { q with runs := q.runs + 1 } := by simp only [u, Bool.or_false]
  have hocc : s.occur (.time i) false =
      (((u.count (slotCounter (.time i)) 1).act (.time i)).execEvent (.time i)).slotNext (.time i) .done := by
    simp only [occur, Bool.false_and, Bool.false_eq_true, if_false, hq]
    rfl
  obtain ⟨p, hp⟩ := count_pmcOnly u (slotCounter (.time i)) 1
  obtain ⟨hact, hslot⟩ := act_moves (.time i) (u.onPmc fun _ => p)
  let m := ((u.onPmc fun _ => p).act (.time i)).mer
  obtain ⟨h, hh⟩ := execEvent_hifOnly (.time i) ((u.onPmc fun _ => p).onMer fun _ => m)
  obtain ⟨g, hg, hruns⟩ := slotNext_time i .done (((u.onPmc fun _ => p).onMer fun _ => m).onHif fun _ => h)
  refine ⟨m, g, h, p, ?_, ?_, hruns⟩
  · rw [hocc, hp, hact, hh, hg]
    rfl
  · exact hslot.trans (congrArg (·.mer.tslot) hlate)

/-! ## The commands that write a slot's CTRL -/

section
variable {s : State} {r : SlotRef} {v : Word}

theorem exec_slotArm (hup : s.hostUp = true) :
    ∃ p, exec (.slotArm r v) s = .next ((s.onPmc fun _ => p).writeSlotCtrl r v) := by
  obtain ⟨p, hp⟩ := hostIn_pmcOnly s 4
  exact ⟨p, by rw [← hp]; exact congrArg _ (if_pos hup)⟩

theorem bit_toNat (w : Word) (i : Nat) : bit w.toNat i = w.getLsbD i := by
  rw [bit, BitVec.getLsbD, Nat.testBit_eq_decide_div_mod_eq]

/-- R311: an accepted ARM stores CTRL's fields and arms the slot. -/
theorem exec_slotArm_accepted (hup : s.hostUp = true) (h31 : v.getLsbD 31 = true) (hr : s.armRefused r v = false) :
    ∃ p, exec (.slotArm r v) s = .next (((s.onPmc fun _ => p).storeCtrl r v).arm r) := by
  obtain ⟨p, hp⟩ := exec_slotArm (s := s) (r := r) (v := v) hup
  exact ⟨p, by rw [hp, writeSlotCtrl_arm h31 (by exact hr)]⟩

/-- R311, R313: a DISARM stores CTRL's fields and disarms the slot. -/
theorem exec_slotDisarm (hup : s.hostUp = true) (h31 : v.getLsbD 31 = false) (h30 : v.getLsbD 30 = true) :
    ∃ p, exec (.slotDisarm r v) s = .next (((s.onPmc fun _ => p).storeCtrl r v).disarm r) := by
  obtain ⟨p, hp⟩ := exec_slotArm (s := s) (r := r) (v := v) hup
  exact ⟨p, by rw [← writeSlotCtrl_disarm h31 h30, ← hp]; rfl⟩

theorem onTSlot_onTSlot (s : State) (i : Fin 256) (f g : Slot → Slot) :
    (s.onTSlot i f).onTSlot i g = s.onTSlot i fun q => g (f q) :=
  congrArg (fun x => s.onMer fun m => { m with tslot := x }) (upd_upd s.mer.tslot i f g)

theorem storeCtrl_onTSlot_mer (s : State) (i : Fin 256) (v : Word) (g : Slot → Slot) :
    ((s.storeCtrl (.time i) v).onTSlot i g).mer =
      { s.mer with tslot := s.mer.tslot.set i.1 (g (s.clearW1c (.time i) v s.mer.tslot[i])) i.2 } :=
  congrArg (fun x => ({ s.mer with tslot := x } : Meridian)) (upd_upd ..)

theorem storeCtrl_onPSlot_mer (s : State) (j : Fin 128) (v : Word) (g : Slot → Slot) :
    ((s.storeCtrl (.pos j) v).onPSlot j g).mer =
      { s.mer with pslot := s.mer.pslot.set j.1 (g (s.clearW1c (.pos j) v s.mer.pslot[j])) j.2 } :=
  congrArg (fun x => ({ s.mer with pslot := x } : Meridian)) (upd_upd ..)

/-- R309: an ARM of a time slot whose target lies ahead. -/
theorem exec_slotArm_time_ahead (i : Fin 256) (hform : CfgForm s) (hup : s.hostUp = true) (h31 : v.getLsbD 31 = true)
    (hr : s.armRefused (.time i) v = false) (ht : s.mer.time < s.timeTarget i * 16777216) :
    let armed := armedAt (s.timeTarget i) (s.clearW1c (.time i) v s.mer.tslot[i])
    ∃ t, exec (.slotArm (.time i) v) s = .next t ∧
      t.mer = { s.mer with tslot := s.mer.tslot.set i.1 armed i.2 } ∧
      t.rd (aTSlot i.1 0x14) = v &&& 0x0180FFFF ∧ { t with cfg := s.cfg, mer := s.mer, pmc := s.pmc } = s := by
  obtain ⟨p, hp⟩ := exec_slotArm_accepted hup h31 hr
  have htarget : ((s.onPmc fun _ => p).storeCtrl (.time i) v).timeTarget i = s.timeTarget i := timeTarget_storeCtrl i
  rw [time_arm_ahead i (by rw [htarget]; exact ht), htarget] at hp
  exact ⟨_, hp, storeCtrl_onTSlot_mer (s.onPmc fun _ => p) .., rd_storeCtrl_same (r := .time i) hform, rfl⟩

/-- R312: an ARM of a time slot whose target has been reached, with LATE_DROP set and no PERIOD. -/
theorem exec_slotArm_time_dropped (i : Fin 256) (hform : CfgForm s) (hup : s.hostUp = true) (h31 : v.getLsbD 31 = true)
    (hr : s.armRefused (.time i) v = false) (ht : s.timeTarget i * 16777216 ≤ s.mer.time) (h24 : v.getLsbD 24 = true)
    (hper : s.rdN (aTSlot i.1 0xC) = 0) (hroom : AsyncRoom s) :
    let dropped := droppedLate (armedAt (s.timeTarget i) (s.clearW1c (.time i) v s.mer.tslot[i]))
    ∃ t, exec (.slotArm (.time i) v) s = .next t ∧
      t.mer = { s.mer with tslot := s.mer.tslot.set i.1 dropped i.2 } ∧
      t.hif = { s.hif with async := s.hif.async ++ [s.unitEvent 0x0902 .c unitNone 0 0x0D] } ∧
      t.setNow = (32 * aTSlot i.1 0x14 + 26) :: s.setNow ∧
      { t with cfg := s.cfg, mer := s.mer, hif := s.hif, pmc := s.pmc, setNow := s.setNow } = s := by
  obtain ⟨p, hp⟩ := exec_slotArm_accepted hup h31 hr
  let u := (s.onPmc fun _ => p).storeCtrl (.time i) v
  have hu : u = (s.onPmc fun _ => p).storeCtrl (.time i) v := rfl
  have htarget : u.timeTarget i = s.timeTarget i := timeTarget_storeCtrl i
  have hdrop : u.fbit (slotCtrl (.time i)) 24 = true := by
    have hctrl : u.rd (slotCtrl (.time i)) = v &&& 0x0180FFFF := rd_storeCtrl_same (s := s.onPmc fun _ => p) hform
    rw [fbit, rdN, hctrl, bit_toNat, BitVec.getLsbD_and, h24]
    rfl
  have hperiod : u.rdN (aTSlot i.1 0xC) = 0 := by
    have hne : aTSlot i.1 0xC ≠ slotCtrl (.time i) := by simp only [slotCtrl, aTSlot]; omega
    rw [rdN, hu, rd_storeCtrl_ne hne]
    exact hper
  rw [time_arm_reached i (by rw [htarget]; exact ht), htarget] at hp
  obtain ⟨q, hq⟩ := occur_time_dropped (s := u.onTSlot i (armedAt (s.timeTarget i))) i hdrop hperiod hroom
  rw [hq, onTSlot_onTSlot] at hp
  exact ⟨_, hp, storeCtrl_onTSlot_mer (s.onPmc fun _ => p) .., rfl, rfl, rfl⟩

/-- R312, R314: an ARM of a position slot whose target has not been reached. -/
theorem exec_slotArm_pos_waits (j : Fin 128) (hup : s.hostUp = true) (h31 : v.getLsbD 31 = true)
    (hr : s.armRefused (.pos j) v = false) (hreach : s.posReached j = false) (hpred : s.slotPred j = false) :
    ∃ t, exec (.slotArm (.pos j) v) s = .next t ∧
      t.mer = { s.mer with pslot := s.mer.pslot.set j.1 (armedPos (s.clearW1c (.pos j) v s.mer.pslot[j])) j.2 } ∧
      { t with cfg := s.cfg, mer := s.mer, pmc := s.pmc } = s := by
  obtain ⟨p, hp⟩ := exec_slotArm_accepted hup h31 hr
  have hok : s.slotTargetOk (.pos j) = true := by
    simp only [armRefused, Bool.or_eq_false_iff, Bool.not_eq_false'] at hr
    exact hr.1.2
  have hr' : ((s.onPmc fun _ => p).storeCtrl (.pos j) v).posReached j = false :=
    (posReached_storeCtrl (s := s.onPmc fun _ => p) j hok).trans hreach
  have hp' : ((s.onPmc fun _ => p).storeCtrl (.pos j) v).slotPred j = false :=
    (slotPred_storeCtrl (s := s.onPmc fun _ => p) j).trans hpred
  rw [pos_arm_waits j hr' hp'] at hp
  exact ⟨_, hp, storeCtrl_onPSlot_mer (s.onPmc fun _ => p) .., rfl⟩

/-- R31, R311: a refused ARM changes no register and is reported. -/
theorem exec_slotArm_refused (hup : s.hostUp = true) (h31 : v.getLsbD 31 = true) (hr : s.armRefused r v = true)
    (hroom : AsyncRoom s) :
    ∃ t, exec (.slotArm r v) s = .next t ∧ t.hif.refused = s.hif.refused + 1 ∧
      t.hif.async = s.hif.async ++ [s.asyncEvent .configRefused 0x1001 .c (BitVec.ofNat 64 (slotCtrl r))
        (detail v.toNat) (slotCtrl r / 0x100000)] ∧ { t with hif := s.hif, pmc := s.pmc } = s := by
  obtain ⟨p, hp⟩ := exec_slotArm (s := s) (r := r) (v := v) hup
  rw [writeSlotCtrl_refused h31 (by exact hr), refuseWrite, postAsync_of_room (by exact hroom)] at hp
  exact ⟨_, hp, rfl, rfl, rfl⟩

/-- R316: a DISARM of a time slot that is not due cancels it. -/
theorem exec_slotDisarm_time_cancels (i : Fin 256) (hup : s.hostUp = true) (h31 : v.getLsbD 31 = false)
    (h30 : v.getLsbD 30 = true) (harmed : s.mer.tslot[i].state = .armed) (hdue : s.timeDue i = false) :
    ∃ t, exec (.slotDisarm (.time i) v) s = .next t ∧ t.mer.tslot[i].state = .cancelled ∧
      (∀ j : Fin 256, j ≠ i → t.mer.tslot[j] = s.mer.tslot[j]) ∧
      { t with cfg := s.cfg, mer := s.mer, pmc := s.pmc } = s := by
  obtain ⟨p, hp⟩ := exec_slotDisarm (r := .time i) hup h31 h30
  have harmed' : ((s.onPmc fun _ => p).storeCtrl (.time i) v).mer.tslot[i].state = .armed :=
    (congrArg Slot.state (upd_get_same ..)).trans harmed
  rw [disarm_time_cancels i harmed' ((timeDue_storeCtrl i i).trans hdue)] at hp
  exact ⟨_, hp, congrArg Slot.state (upd_get_same ..),
    fun j hj => (upd_get_ne _ _ hj.symm).trans (upd_get_ne _ _ hj.symm), rfl⟩

/-- R313: a DISARM of a time slot that is due in its tick lets it run, and it ends DONE. -/
theorem exec_slotDisarm_time_due (i : Fin 256) (hup : s.hostUp = true) (h31 : v.getLsbD 31 = false)
    (h30 : v.getLsbD 30 = true) (hdue : s.timeDue i = true) (hlow : ∀ j : Fin 256, j < i → s.timeDue j = false)
    (hq : s.stillQueued (.time i) = false) :
    ∃ t, exec (.slotDisarm (.time i) v) s = .next t ∧ t.mer.tslot[i].state = .done ∧
      t.mer.tslot[i].runs = s.mer.tslot[i].runs + 1 ∧ (∀ j : Fin 256, j ≠ i → t.mer.tslot[j] = s.mer.tslot[j]) ∧
      { t with cfg := s.cfg, mer := s.mer, hif := s.hif, pmc := s.pmc } = s := by
  obtain ⟨p, hp⟩ := exec_slotDisarm (r := .time i) hup h31 h30
  let u := (s.onPmc fun _ => p).storeCtrl (.time i) v
  have hu : u = (s.onPmc fun _ => p).storeCtrl (.time i) v := rfl
  have hdue' (j : Fin 256) : u.timeDue j = s.timeDue j := timeDue_storeCtrl i j
  rw [disarm_time_due i ((hdue' i).trans hdue),
    timeSlots_first i ((hdue' i).trans hdue) fun j hj => (hdue' j).trans (hlow j hj)] at hp
  have hqueued := (stillQueued_storeCtrl (v := v) (s := s.onPmc fun _ => p) i).trans hq
  obtain ⟨m, g, h, p', hocc, hslot, hruns⟩ := occur_time_runs i hqueued
  rw [hocc, onTSlot_onTSlot] at hp
  have hslots : upd m.tslot i (fun q => { g q with state := .done }) =
      upd s.mer.tslot i fun q =>
        { g { s.clearW1c (.time i) v q with runs := (s.clearW1c (.time i) v q).runs + 1 } with state := .done } := by
    rw [hslot, upd_upd]
    exact upd_upd ..
  refine ⟨_, hp, ?_, ?_, fun j hj => ?_, rfl⟩
  · exact congrArg Slot.state (upd_get_same ..)
  · have hcount := congrArg (fun x : Vector Slot 256 => x[i].runs) hslots
    exact (hcount.trans (congrArg Slot.runs (upd_get_same ..))).trans (hruns _)
  · exact (congrArg (fun x : Vector Slot 256 => x[j]) hslots).trans (upd_get_ne _ _ hj.symm)

end
end State

/-- A reason of R311 refuses an ARM. -/
theorem armRefused_of_reason {s : State} {r : SlotRef} {v : Word}
    (h : State.slotOwned r = true ∨ v.getLsbD 30 = true ∨ (s.slot r).state = .armed ∨ s.slotTargetOk r = false ∨
      s.actionOk (s.slotAct r) = false) : s.armRefused r v = true := by
  simp only [State.armRefused, Bool.or_eq_true, decide_eq_true_eq, Bool.not_eq_true', or_assoc]
  exact h

end Sys2Proof.Machine
end

section
/-!
Most operations and commands leave the stored registers (R12) alone: one equation each, in the order of the model, so that
the proof about the registers goes through the few that write one.
-/
namespace Sys2Proof.Machine
open Sys2Proof

/-- The stored registers of the state that a command answers with. -/
def registersAfter : Result → Option (Table Word)
  | .next t => some t.cfg
  | .fault _ => none
  | .refused _ => none

@[simp] theorem registersAfter_next (t : State) : registersAfter (.next t) = some t.cfg := rfl

@[simp] theorem registersAfter_ite (c : Prop) [Decidable c] (o o' : Result) :
    registersAfter (if c then o else o') = if c then registersAfter o else registersAfter o' := apply_ite ..

namespace State

/-! ## Branches and loops -/

@[simp] theorem ite_cfg (c : Prop) [Decidable c] (s t : State) : (if c then s else t).cfg = if c then s.cfg else t.cfg :=
  apply_ite ..

@[simp] theorem ite_fst_cfg {α : Type} (c : Prop) [Decidable c] (x y : State × α) :
    (if c then x else y).1.cfg = if c then x.1.cfg else y.1.cfg := apply_ite (fun x : State × α => x.1.cfg) ..

theorem cfg_fst {α : Type} {c : Table Word} {t : State} {a : α} (h : t.cfg = c) : (t, a).1.cfg = c := h

@[simp] theorem when_cfg (c : Bool) (g : State → State) (s : State) (h : ∀ t, (g t).cfg = t.cfg) :
    (s.when c g).cfg = s.cfg := by
  simp [when, h]

@[simp] theorem forEach_cfg {α : Type} (l : List α) (g : α → State → State) (s : State) (h : ∀ a t, (g a t).cfg = t.cfg) :
    (s.forEach l g).cfg = s.cfg := forEach_keeps (·.cfg) g h l s

end State

/-! ## Update -/


namespace State

@[simp] theorem setW1c_cfg (off) (i) (s : State) : (s.setW1c off i).cfg = s.cfg := by simp [setW1c]

/-! ## Ops -/

@[simp] theorem hostIn_cfg (n) (s : State) : (s.hostIn n).cfg = s.cfg := by simp [hostIn]
@[simp] theorem hostOut_cfg (n) (s : State) : (s.hostOut n).cfg = s.cfg := by simp [hostOut]
@[simp] theorem reply_cfg (v) (s : State) : (s.reply v).cfg = s.cfg := by simp [reply]
@[simp] theorem replyData_cfg (b) (s : State) : (s.replyData b).cfg = s.cfg := by simp [replyData]
@[simp] theorem hostStore_cfg (ns) (addr) (bs) (s : State) : (s.hostStore ns addr bs).cfg = s.cfg := by simp [hostStore]
@[simp] theorem hostLoad_cfg (ns) (addr) (len) (s : State) : (s.hostLoad ns addr len).cfg = s.cfg :=
  forEach_cfg _ _ _ fun _ _ => rfl

/-! ## Lanes -/

@[simp] theorem putAlign_cfg (p) (s : State) : (s.putAlign p).cfg = s.cfg := by simp [putAlign]
@[simp] theorem putBlock_cfg (p) (b) (s : State) : (s.putBlock p b).cfg = s.cfg := by simp [putBlock]
@[simp] theorem putNext_cfg (p) (s : State) : (s.putNext p).cfg = s.cfg := by
  simp only [putNext]
  split <;> simp
@[simp] theorem putMany_cfg (p) (n) (s : State) : (s.putMany p n).cfg = s.cfg := by simp [putMany]
@[simp] theorem catchUp_cfg (p) (s : State) : (s.catchUp p).cfg = s.cfg := by simp [catchUp]
@[simp] theorem endSegment_cfg (p) (s : State) : (s.endSegment p).cfg = s.cfg := by simp [endSegment]
@[simp] theorem sendBlock_cfg (p) (b) (s : State) : (s.sendBlock p b).cfg = s.cfg := by simp [sendBlock]
@[simp] theorem cutStream_cfg (p) (s : State) : (s.cutStream p).cfg = s.cfg := by simp [cutStream]
@[simp] theorem beginBlocks_cfg (p) (l) (s : State) : (s.beginBlocks p l).cfg = s.cfg := by simp [beginBlocks]
@[simp] theorem endBlocks_cfg (p) (s : State) : (s.endBlocks p).cfg = s.cfg := by simp [endBlocks]
@[simp] theorem beginFaultBurst_cfg (p) (s : State) : (s.beginFaultBurst p).cfg = s.cfg := by simp [beginFaultBurst]

/-! ## Sheets -/

@[simp] theorem onSheet_cfg (id) (g) (s : State) : (s.onSheet id g).cfg = s.cfg := by simp [onSheet]
@[simp] theorem clearQueue_cfg (p) (s : State) : (s.clearQueue p).cfg = s.cfg := by simp [clearQueue]
@[simp] theorem leaveT6_cfg (p) (s : State) : (s.leaveT6 p).cfg = s.cfg := by simp [leaveT6]
@[simp] theorem faultLink_cfg (p) (cause) (s : State) : (s.faultLink p cause).cfg = s.cfg := by simp [faultLink]
@[simp] theorem portFault_cfg (p) (cause) (cls) (s : State) : (s.portFault p cause cls).cfg = s.cfg := by simp [portFault]
@[simp] theorem axisFault_cfg (x) (cause) (code) (dec) (s : State) : (s.axisFault x cause code dec).cfg = s.cfg := by
  simp [axisFault]
@[simp] theorem classDHalt_cfg (s : State) : (s.classDHalt).cfg = s.cfg := by simp [classDHalt]
@[simp] theorem classDown_cfg (code) (s : State) : (s.classDown code).cfg = s.cfg := by simp [classDown]
@[simp] theorem classD_cfg (code) (unit) (det) (src) (s : State) : (s.classD code unit det src).cfg = s.cfg := by
  simp [classD]
@[simp] theorem sheetError_cfg (code) (cls) (id) (row) (unit) (det) (src) (s : State) :
    (s.sheetError code cls id row unit det src).cfg = s.cfg := by
  simp only [sheetError]
  split
  · simp
  · split <;> simp
@[simp] theorem sheetEvent_cfg (sh) (outcome) (mark) (s : State) : (s.sheetEvent sh outcome mark).cfg = s.cfg := by
  simp [sheetEvent]
@[simp] theorem freePatches_cfg (id) (s : State) : (s.freePatches id).cfg = s.cfg := by simp [freePatches]
@[simp] theorem softenBands_cfg (sh) (s : State) : (s.softenBands sh).cfg = s.cfg := by simp [softenBands]
@[simp] theorem finishSheet_cfg (sh) (s : State) : (s.finishSheet sh).cfg = s.cfg := by simp [finishSheet]
@[simp] theorem finishDone_cfg (s : State) : (s.finishDone).cfg = s.cfg :=
  forEach_cfg _ _ _ fun sh t => by split <;> simp
@[simp] theorem uncommit_cfg (id) (s : State) : (s.uncommit id).cfg = s.cfg := by simp [uncommit]
@[simp] theorem toPhysical_cfg (id) (s : State) : (s.toPhysical id).cfg = s.cfg := by
  simp only [toPhysical]
  split <;> simp
@[simp] theorem cancelSlots_cfg (id) (s : State) : (s.cancelSlots id).cfg = s.cfg := by simp [cancelSlots]
@[simp] theorem cancelSheet_cfg (sh) (s : State) : (s.cancelSheet sh).cfg = s.cfg := by simp [cancelSheet]
@[simp] theorem cancelUnbegun_cfg (s : State) : (s.cancelUnbegun).cfg = s.cfg := by simp [cancelUnbegun]
@[simp] theorem orderlyStop_cfg (s : State) : (s.orderlyStop).cfg = s.cfg := by simp [orderlyStop]

/-! ## Rings -/

@[simp] theorem sendMsix_cfg (r) (s : State) : (s.sendMsix r).cfg = s.cfg := by simp [sendMsix]
@[simp] theorem moderate_cfg (r) (s : State) : (s.moderate r).cfg = s.cfg := by simp [moderate]
@[simp] theorem writeEvent_cfg (r) (e) (s : State) : (s.writeEvent r e).cfg = s.cfg := by simp [writeEvent]
@[simp] theorem haltRing_cfg (r) (cause) (s : State) : (s.haltRing r cause).cfg = s.cfg := by simp [haltRing]
@[simp] theorem disableRing_cfg (r) (s : State) : (s.disableRing r).cfg = s.cfg := by simp [disableRing]

/-! ## Ledger -/

@[simp] theorem queueRecord_cfg (kind) (unit) (old) (new) (s : State) :
    (s.queueRecord kind unit old new).cfg = s.cfg := by
  simp [queueRecord]
@[simp] theorem recordLaneFaults_cfg (s : State) : (s.recordLaneFaults).cfg = s.cfg := by simp [recordLaneFaults]

/-! ## Reset -/

@[simp] theorem idleLanes_cfg (s : State) : (s.idleLanes).cfg = s.cfg := forEach_cfg _ _ _ fun _ _ => rfl
@[simp] theorem keepPins_cfg (s : State) (t : State) : (s.keepPins t).cfg = t.cfg := by simp [keepPins]
@[simp] theorem keepSpool_cfg (s : State) (t : State) : (s.keepSpool t).cfg = t.cfg := by simp [keepSpool]
@[simp] theorem keepWarm_cfg (s : State) (t : State) : (s.keepWarm t).cfg = t.cfg := by simp [keepWarm]
@[simp] theorem release_cfg (h) (s : State) : (s.release h).cfg = s.cfg := by simp [release]

end State

@[simp] theorem execPorstNRelease_registers (s : State) : registersAfter (execPorstNRelease s) = some s.cfg := by
  simp [execPorstNRelease]
@[simp] theorem execOvertempWarning_registers (_sensor) (s : State) :
    registersAfter (execOvertempWarning _sensor s) = some s.cfg := by
  simp [execOvertempWarning]
@[simp] theorem execOvertempRecovered_registers (s : State) : registersAfter (execOvertempRecovered s) = some s.cfg := by
  simp [execOvertempRecovered]
@[simp] theorem execSysrstNRelease_registers (s : State) : registersAfter (execSysrstNRelease s) = some s.cfg := by
  simp [execSysrstNRelease]
@[simp] theorem execWarmResetEnd_registers (s : State) : registersAfter (execWarmResetEnd s) = some s.cfg := by
  simp [execWarmResetEnd]
@[simp] theorem execRefclkReturn_registers (s : State) : registersAfter (execRefclkReturn s) = some s.cfg := by
  simp [execRefclkReturn]
@[simp] theorem execSupplyRecovered_registers (s : State) : registersAfter (execSupplyRecovered s) = some s.cfg := by
  simp [execSupplyRecovered]

/-! ## Boot -/


namespace State

@[simp] theorem bootError_cfg (c) (s : State) : (s.bootError c).cfg = s.cfg := by simp [bootError]
@[simp] theorem runImage_cfg (src) (h) (s : State) : (s.runImage src h).cfg = s.cfg := by simp [runImage]
@[simp] theorem testCores_cfg (bad) (s : State) : (s.testCores bad).cfg = s.cfg := by
  simp only [testCores]
  split <;> simp
@[simp] theorem compactLedger_cfg (s : State) : (s.compactLedger).cfg = s.cfg := by simp [compactLedger]
@[simp] theorem untraced_cfg (s : State) : (s.untraced).cfg = s.cfg := by simp [untraced]
@[simp] theorem writeBootCtrl_cfg (v) (s : State) : (s.writeBootCtrl v).cfg = s.cfg := by simp [writeBootCtrl]

end State

@[simp] theorem execMainPllLock_registers (s : State) : registersAfter (execMainPllLock s) = some s.cfg := by
  simp [execMainPllLock]
@[simp] theorem execMeridianSeed_registers (s : State) : registersAfter (execMeridianSeed s) = some s.cfg := by
  unfold execMeridianSeed
  split
  · simp only [registersAfter_next]
    rw [State.untraced_cfg, State.emit_cfg, State.onSys_cfg, State.onMer_cfg]
  · rfl
@[simp] theorem execHbmTrainingDone_registers (s : State) : registersAfter (execHbmTrainingDone s) = some s.cfg := by
  simp [execHbmTrainingDone]
@[simp] theorem execBootSlotVerifyDone_registers (a) (b) (bad) (s : State) :
    registersAfter (execBootSlotVerifyDone a b bad s) = some s.cfg := by
  simp [execBootSlotVerifyDone]
@[simp] theorem execBootAwaitHost_registers (s : State) : registersAfter (execBootAwaitHost s) = some s.cfg := by
  simp [execBootAwaitHost]
@[simp] theorem execBootGo_registers (v) (s : State) : registersAfter (execBootGo v s) = some s.cfg := by simp [execBootGo]
@[simp] theorem execHostImageVerifyDone_registers (image) (bad) (s : State) :
    registersAfter (execHostImageVerifyDone image bad s) = some s.cfg := by
  simp [execHostImageVerifyDone]
@[simp] theorem execBootPortProbe_registers (found) (s : State) :
    registersAfter (execBootPortProbe found s) = some s.cfg := by
  unfold execBootPortProbe
  split
  · exact congrArg some (State.forEach_cfg _ _ _ fun _ _ => rfl)
  · rfl

/-! ## Sidereal -/


namespace State

@[simp] theorem sdrAlarm_cfg (n) (s : State) : (s.sdrAlarm n).cfg = s.cfg := by simp [sdrAlarm]
@[simp] theorem sdrArmBits_cfg (v) (n) (s : State) : (s.sdrArmBits v n).cfg = s.cfg := by simp [sdrArmBits]
@[simp] theorem sdrCtrl_cfg (v) (s : State) : (s.sdrCtrl v).cfg = s.cfg := by simp [sdrCtrl]

end State

@[simp] theorem execSiderealTick_registers (s : State) : registersAfter (execSiderealTick s) = some s.cfg := by
  simp [execSiderealTick]
@[simp] theorem execSdrLoad_registers (v) (s : State) : registersAfter (execSdrLoad v s) = some s.cfg := by
  simp [execSdrLoad]
@[simp] theorem execSdrArm_registers (_n) (v) (s : State) : registersAfter (execSdrArm _n v s) = some s.cfg := by
  simp [execSdrArm]
@[simp] theorem execSdrDisarm_registers (_n) (v) (s : State) : registersAfter (execSdrDisarm _n v s) = some s.cfg := by
  simp [execSdrDisarm]
@[simp] theorem execSdrSubRead_registers (s : State) : registersAfter (execSdrSubRead s) = some s.cfg := by
  simp [execSdrSubRead]
@[simp] theorem execComparatorSample_registers (n) (level) (s : State) :
    registersAfter (execComparatorSample n level s) = some s.cfg := by
  simp [execComparatorSample]

/-! ## HostRings -/


namespace State

@[simp] theorem readEntries_cfg (r) (s : State) : (s.readEntries r).cfg = s.cfg := by simp [readEntries]
@[simp] theorem takeEntries_cfg (r) (l) (s : State) : (s.takeEntries r l).cfg = s.cfg := by simp [takeEntries]
@[simp] theorem postDue_cfg (r) (s : State) : (s.postDue r).cfg = s.cfg := by
  simp only [postDue]
  split <;> simp
@[simp] theorem postAsyncDue_cfg (s : State) : (s.postAsyncDue).cfg = s.cfg := by
  simp only [postAsyncDue]
  split
  · rfl
  · split
    · rfl
    · split
      · simp
      · split <;> simp
@[simp] theorem heartbeat_cfg (s : State) : (s.heartbeat).cfg = s.cfg := by simp [heartbeat]

end State

@[simp] theorem execSqDoorbell_registers (r) (v) (s : State) : registersAfter (execSqDoorbell r v s) = some s.cfg := by
  simp only [execSqDoorbell]
  split
  · simp
  · split
    · simp
    · split <;> simp
@[simp] theorem execEqDoorbell_registers (r) (v) (s : State) : registersAfter (execEqDoorbell r v s) = some s.cfg := by
  simp only [execEqDoorbell]
  split
  · simp
  · split
    · simp
    · split <;> simp
@[simp] theorem execRingDrainComplete_registers (r) (s : State) :
    registersAfter (execRingDrainComplete r s) = some s.cfg := by
  simp [execRingDrainComplete]
@[simp] theorem execEntryFetch_registers (entries) (s : State) :
    registersAfter (execEntryFetch entries s) = some s.cfg := by
  simp only [execEntryFetch]
  split
  · simp
  · split <;> simp
@[simp] theorem execEventPost_registers (t) (s : State) : registersAfter (execEventPost t s) = some s.cfg := by
  simp only [execEventPost]
  split
  · simp
  · split <;> simp
@[simp] theorem execMsixModerationTimeout_registers (r) (s : State) :
    registersAfter (execMsixModerationTimeout r s) = some s.cfg := by
  simp [execMsixModerationTimeout]
@[simp] theorem execHifHb_registers (_v) (s : State) : registersAfter (execHifHb _v s) = some s.cfg := by simp [execHifHb]
@[simp] theorem execHeartbeatTimeout_registers (s : State) : registersAfter (execHeartbeatTimeout s) = some s.cfg := by
  simp [execHeartbeatTimeout]

/-! ## Memory -/


namespace State

@[simp] theorem bucketEvent_cfg (sram) (i) (s : State) : (s.bucketEvent sram i).cfg = s.cfg := by simp [bucketEvent]
@[simp] theorem correctHbm_cfg (c) (check) (s : State) : (s.correctHbm c check).cfg = s.cfg := by simp [correctHbm]
@[simp] theorem correctSram_cfg (g) (check) (s : State) : (s.correctSram g check).cfg = s.cfg := by simp [correctSram]
@[simp] theorem remapHbm_cfg (c) (row) (blk) (poison) (s : State) : (s.remapHbm c row blk poison).cfg = s.cfg := by
  simp [remapHbm]
@[simp] theorem touchBank_cfg (c) (row) (s : State) : (s.touchBank c row).cfg = s.cfg := by simp [touchBank]
@[simp] theorem wakeChan_cfg (c) (s : State) : (s.wakeChan c).cfg = s.cfg := by simp [wakeChan]
@[simp] theorem uncorrectable_cfg (c) (row) (blk) (s : State) : (s.uncorrectable c row blk).cfg = s.cfg := by
  simp [uncorrectable]
@[simp] theorem lostBlock_cfg (s : State) : (s.lostBlock).cfg = s.cfg := by simp [lostBlock]
@[simp] theorem writeBack_cfg (b) (s : State) : (s.writeBack b).cfg = s.cfg := by
  simp only [writeBack]
  split <;> simp
@[simp] theorem scrubFinds_cfg (c) (row) (blk) (e) (back) (s : State) : (s.scrubFinds c row blk e back).cfg = s.cfg := by
  simp only [scrubFinds]
  split
  · simp
  · split <;> simp
@[simp] theorem scrubNext_cfg (c) (upset) (writeSince) (s : State) : (s.scrubNext c upset writeSince).cfg = s.cfg := by
  simp only [scrubNext]
  split
  · simp
  · split <;> simp
@[simp] theorem issueHeld_cfg (c) (s : State) : (s.issueHeld c).cfg = s.cfg := by simp [issueHeld]
@[simp] theorem reach_cfg (c) (row) (s : State) : (s.reach c row).cfg = s.cfg := by simp [reach]
@[simp] theorem readBlock_cfg (port) (b) (upset) (s : State) : (s.readBlock port b upset).1.cfg = s.cfg := by
  simp only [readBlock]
  split
  · rfl
  · split
    · simp
    · split
      · simp
      · split
        · simp
        · split <;> simp
        · simp
        · split <;> simp
@[simp] theorem fillGranule_cfg (g) (s : State) : (s.fillGranule g).cfg = s.cfg := by simp [fillGranule]
@[simp] theorem applyFlip_cfg (b) (s : State) : (s.applyFlip b).cfg = s.cfg := by
  simp only [applyFlip]
  split <;> simp
@[simp] theorem writeBlock_cfg (port) (a) (bs) (s : State) : (s.writeBlock port a bs).1.cfg = s.cfg := by
  unfold writeBlock
  extract_lets b p t whole x found corrected heal healed
  have ht : t.cfg = s.cfg := by simp [t]
  clear_value whole found
  have hcorrected : corrected.cfg = s.cfg := by
    simp only [corrected]
    split
    · split <;> simp [ht]
    · exact ht
  have hhealed : healed.cfg = s.cfg := by
    simp only [healed]
    split
    · exact (onChan_cfg ..).trans hcorrected
    · exact hcorrected
  split
  · rfl
  · split
    · exact cfg_fst ((uncorrectable_cfg ..).trans ht)
    · exact cfg_fst ((applyFlip_cfg ..).trans hhealed)
@[simp] theorem spoolWrite_cfg (port) (n) (x) (y) (s : State) : (s.spoolWrite port n x y).1.cfg = s.cfg := by
  induction n generalizing x y s with
  | zero => rfl
  | succ n ih =>
    rw [spoolWrite]
    split
    · rfl
    · exact (ih ..).trans (writeBlock_cfg ..)
@[simp] theorem spoolPut_cfg (port) (a) (bs) (s : State) : (s.spoolPut port a bs).1.cfg = s.cfg := by simp [spoolPut]
@[simp] theorem spoolBlocks_cfg (port) (b) (n) (s : State) : (s.spoolBlocks port b n).1.cfg = s.cfg := by
  induction n generalizing b s with
  | zero => rfl
  | succ n ih => exact (ih ..).trans (readBlock_cfg ..)
@[simp] theorem spoolGet_cfg (port) (a) (n) (s : State) : (s.spoolGet port a n).1.cfg = s.cfg := by simp [spoolGet]
@[simp] theorem stageWritten_cfg (s : State) : (s.stageWritten).cfg = s.cfg := by simp [stageWritten]
@[simp] theorem clearChannel_cfg (c) (s : State) : (s.clearChannel c).cfg = s.cfg := by simp [clearChannel]
@[simp] theorem ringPut_cfg (port) (pos) (bs) (s : State) : (s.ringPut port pos bs).1.cfg = s.cfg := by
  unfold ringPut
  exact cfg_fst ((spoolPut_cfg ..).trans (spoolPut_cfg ..))
@[simp] theorem ringGet_cfg (port) (pos) (off) (n) (s : State) : (s.ringGet port pos off n).1.cfg = s.cfg := by
  unfold ringGet
  exact cfg_fst ((spoolGet_cfg ..).trans (spoolGet_cfg ..))

/-! ## Entries -/

@[simp] theorem begin_cfg (r) (s : State) : (s.begin r).cfg = s.cfg := by simp [begin]
@[simp] theorem fail_cfg (r) (e) (code) (src) (s : State) : (s.fail r e code src).cfg = s.cfg := by simp [fail]
@[simp] theorem done_cfg (r) (e) (info0) (src) (s : State) : (s.done r e info0 src).cfg = s.cfg := by simp [done]
@[simp] theorem runEntry_cfg (r) (mine) (form) (body) (s : State) (h : ∀ e t, (body e t).cfg = t.cfg) :
    (s.runEntry r mine form body).cfg = s.cfg := by
  unfold runEntry
  split <;> simp [h]
@[simp] theorem countBeats_cfg (ch) (n) (s : State) : (s.countBeats ch n).cfg = s.cfg := by simp [countBeats]
@[simp] theorem takePool_cfg (ch) (r) (e) (s : State) : (s.takePool ch r e).cfg = s.cfg := by simp [takePool]
@[simp] theorem freePool_cfg (r) (e) (fault) (s : State) : (s.freePool r e fault).cfg = s.cfg := by
  simp only [freePool]
  split <;> simp
@[simp] theorem failBulk_cfg (r) (e) (code) (src) (s : State) : (s.failBulk r e code src).cfg = s.cfg := by simp [failBulk]
@[simp] theorem doneBulk_cfg (r) (e) (info0) (info1) (src) (s : State) :
    (s.doneBulk r e info0 info1 src).cfg = s.cfg := by
  simp [doneBulk]
@[simp] theorem withPool_cfg (r) (e) (body) (s : State) (h : ∀ t, (body t).cfg = t.cfg) :
    (s.withPool r e body).cfg = s.cfg := by
  unfold withPool
  split
  · rfl
  · split <;> simp [h]

end State

@[simp] theorem execNop_registers (r) (s : State) : registersAfter (execNop r s) = some s.cfg := by simp [execNop]

/-! ## Container -/


namespace State

@[simp] theorem passTail_cfg (s : State) : (s.passTail).cfg = s.cfg := by
  simp only [passTail]
  split <;> simp
@[simp] theorem reclaim_cfg (enough) (n) (s : State) : (s.reclaim enough n).cfg = s.cfg := by
  induction n generalizing s with
  | zero => rfl
  | succ n ih =>
    rw [reclaim]
    split
    · rfl
    · split
      · rfl
      · split
        · exact (ih _).trans (passTail_cfg _)
        · rfl
@[simp] theorem makeRoom_cfg (len) (s : State) : (s.makeRoom len).cfg = s.cfg := by simp [makeRoom]
@[simp] theorem reserve_cfg (src) (len) (s : State) : (s.reserve src len).cfg = s.cfg := by simp [reserve]
@[simp] theorem setSpan_cfg (pos) (use) (s : State) : (s.setSpan pos use).cfg = s.cfg := by simp [setSpan]
@[simp] theorem publish_cfg (pos) (c) (s : State) : (s.publish pos c).1.cfg = s.cfg := by
  simp only [publish]
  split
  · simp
  · split
    · simp
    · split
      · simp
      · split <;> simp
@[simp] theorem btResult_cfg (p) (source) (key) (code) (s : State) : (s.btResult p source key code).cfg = s.cfg := by
  simp [btResult]
@[simp] theorem landTransport_cfg (t) (s : State) : (s.landTransport t).cfg = s.cfg := by simp [landTransport]
@[simp] theorem gatherRun_cfg (ns) (job) (x) (host) (s : State) : (s.gatherRun ns job x host).1.cfg = s.cfg := by
  unfold gatherRun
  split
  · exact cfg_fst ((hostIn_cfg ..).trans (hostLoad_cfg ..))
  · split
    · split
      · rfl
      · exact cfg_fst (spoolGet_cfg ..)
    · split
      · rfl
      · dsimp only
        split
        · rfl
        · exact cfg_fst (ringGet_cfg ..)
@[simp] theorem gatherAll_cfg (ns) (l) (host) (acc) (s : State) : (s.gatherAll ns l host acc).1.cfg = s.cfg := by
  induction l generalizing acc host s with
  | nil => rfl
  | cons x xs ih =>
    rw [gatherAll]
    split
    · exact gatherRun_cfg ..
    · exact (ih ..).trans (gatherRun_cfg ..)
@[simp] theorem gather_cfg (ns) (tiles) (len) (l) (host) (s : State) : (s.gather ns tiles len l host).1.cfg = s.cfg := by
  simp only [gather]
  split <;> simp

/-! ## Jobs -/

@[simp] theorem jobOpen_cfg (r) (e) (s : State) : (s.jobOpen r e).cfg = s.cfg := by simp [jobOpen]
@[simp] theorem releaseBands_cfg (id) (s : State) : (s.releaseBands id).cfg = s.cfg := by simp [releaseBands]
@[simp] theorem jobClose_cfg (r) (e) (s : State) : (s.jobClose r e).cfg = s.cfg := by simp [jobClose]
@[simp] theorem clipPatches_cfg (sh) (s : State) : (s.clipPatches sh).cfg = s.cfg := by simp [clipPatches]
@[simp] theorem queueSheet_cfg (r) (e) (s : State) : (s.queueSheet r e).cfg = s.cfg := by
  simp only [queueSheet]
  split
  · rfl
  · split <;> simp
@[simp] theorem failLanding_cfg (r) (e) (pos) (code) (s : State) : (s.failLanding r e pos code).cfg = s.cfg := by
  simp [failLanding]
@[simp] theorem landEntry_cfg (r) (e) (pos) (bs) (s : State) : (s.landEntry r e pos bs).cfg = s.cfg := by simp [landEntry]
@[simp] theorem land_cfg (pos) (host) (s : State) : (s.land pos host).cfg = s.cfg := by
  simp only [land]
  split
  · simp
  · split <;> simp
  · split <;> simp
  · rfl
@[simp] theorem gatherTable_cfg (e) (table) (s : State) : (s.gatherTable e table).1.cfg = s.cfg := by
  simp only [gatherTable]
  split
  · split <;> simp
  · simp
@[simp] theorem enterLanding_cfg (src) (len) (s : State) : (s.enterLanding src len).cfg = s.cfg := by
  simp only [enterLanding]
  split
  · simp
  · split
    · simp
    · split <;> simp
  · simp
@[simp] theorem beginLanding_cfg (ch) (src) (len) (s : State) : (s.beginLanding ch src len).cfg = s.cfg := by
  simp only [beginLanding]
  split <;> simp
@[simp] theorem offerLanding_cfg (src) (len) (s : State) : (s.offerLanding src len).cfg = s.cfg := by
  simp only [offerLanding]
  split
  · rfl
  · split
    · split <;> simp
    · simp
@[simp] theorem reserveWaiting_cfg (s : State) : (s.reserveWaiting).cfg = s.cfg := by
  simp only [reserveWaiting]
  split
  · rfl
  · split <;> simp

end State

@[simp] theorem execJobOpen_registers (r) (s : State) : registersAfter (execJobOpen r s) = some s.cfg := by
  simp [execJobOpen]
@[simp] theorem execJobClose_registers (r) (s : State) : registersAfter (execJobClose r s) = some s.cfg := by
  simp [execJobClose]
@[simp] theorem execSheet_registers (r) (s : State) : registersAfter (execSheet r s) = some s.cfg := by simp [execSheet]
@[simp] theorem execBandWrite_registers (r) (s : State) : registersAfter (execBandWrite r s) = some s.cfg := by
  simp [execBandWrite]
@[simp] theorem execBandGather_registers (r) (table) (s : State) :
    registersAfter (execBandGather r table s) = some s.cfg := by
  simp [execBandGather]
@[simp] theorem execSpoolReservation_registers (s : State) : registersAfter (execSpoolReservation s) = some s.cfg := by
  simp [execSpoolReservation]
@[simp] theorem execContainerLanded_registers (pos) (host) (s : State) :
    registersAfter (execContainerLanded pos host s) = some s.cfg := by
  simp [execContainerLanded]
@[simp] theorem execSpoolRead_registers (r) (s : State) : registersAfter (execSpoolRead r s) = some s.cfg :=
  congrArg some <| State.runEntry_cfg _ _ _ _ _ fun e t => State.withPool_cfg _ _ _ _ fun u => by
    dsimp only
    split
    · simp
    · split <;> simp

/-! ## Gearing -/


namespace State

@[simp] theorem settleHigh_cfg (m) (s : State) : (s.settleHigh m).cfg = s.cfg := by simp [settleHigh]

/-! ## Motion -/

@[simp] theorem startHome_cfg (x) (s : State) : (s.startHome x).cfg = s.cfg := by simp [startHome]
@[simp] theorem clearFault_cfg (x) (s : State) : (s.clearFault x).cfg = s.cfg := by simp [clearFault]
@[simp] theorem applyCommand_cfg (x) (op) (arg) (s : State) : (s.applyCommand x op arg).cfg = s.cfg := by
  simp only [applyCommand]
  split <;> simp
@[simp] theorem axisCommand_cfg (x) (op) (arg) (byHeliostat) (s : State) :
    (s.axisCommand x op arg byHeliostat).cfg = s.cfg := by
  simp only [axisCommand]
  split <;> simp
@[simp] theorem takeCmd_cfg (x) (v) (arg) (s : State) : (s.takeCmd x v arg).cfg = s.cfg := by simp [takeCmd]
@[simp] theorem writeAxisCmd_cfg (x) (v) (s : State) : (s.writeAxisCmd x v).cfg = s.cfg := by simp [writeAxisCmd]
@[simp] theorem commandNow_cfg (x) (v) (s : State) : (s.commandNow x v).cfg = s.cfg := by simp [commandNow]
@[simp] theorem startQueued_cfg (x) (s : State) : (s.startQueued x).cfg = s.cfg := by simp [startQueued]
@[simp] theorem beginQueued_cfg (x) (s : State) : (s.beginQueued x).cfg = s.cfg := by
  simp only [beginQueued]
  split
  · rfl
  · split <;> simp
@[simp] theorem crossCommand_cfg (x) (s : State) : (s.crossCommand x).cfg = s.cfg := by
  simp only [crossCommand]
  split <;> simp
@[simp] theorem comeToRest_cfg (x) (s : State) : (s.comeToRest x).cfg = s.cfg := by simp [comeToRest]
@[simp] theorem axisTick_cfg (x) (s : State) : (s.axisTick x).cfg = s.cfg := by simp [axisTick]
@[simp] theorem homeSwitch_cfg (x) (sw) (latch) (s : State) : (s.homeSwitch x sw latch).cfg = s.cfg := by
  simp only [homeSwitch]
  split <;> simp
@[simp] theorem bothLimits_cfg (x) (s : State) : (s.bothLimits x).cfg = s.cfg := by simp [bothLimits]
@[simp] theorem limitFaults_cfg (x) (s : State) : (s.limitFaults x).cfg = s.cfg := by simp [limitFaults]
@[simp] theorem lagFault_cfg (x) (s : State) : (s.lagFault x).cfg = s.cfg := by
  simp only [lagFault]
  split <;> simp
@[simp] theorem axisStep_cfg (x) (s : State) : (s.axisStep x).cfg = s.cfg := by simp [axisStep]

end State

@[simp] theorem execMoveAbs_registers (x) (s : State) : registersAfter (execMoveAbs x s) = some s.cfg := by
  simp [execMoveAbs]
@[simp] theorem execMoveRel_registers (x) (s : State) : registersAfter (execMoveRel x s) = some s.cfg := by
  simp [execMoveRel]
@[simp] theorem execJog_registers (x) (s : State) : registersAfter (execJog x s) = some s.cfg := by simp [execJog]
@[simp] theorem execGear_registers (x) (s : State) : registersAfter (execGear x s) = some s.cfg := by simp [execGear]
@[simp] theorem execStop_registers (x) (s : State) : registersAfter (execStop x s) = some s.cfg := by simp [execStop]
@[simp] theorem execResume_registers (x) (s : State) : registersAfter (execResume x s) = some s.cfg := by simp [execResume]
@[simp] theorem execHome_registers (x) (s : State) : registersAfter (execHome x s) = some s.cfg := by simp [execHome]
@[simp] theorem execSetPos_registers (x) (s : State) : registersAfter (execSetPos x s) = some s.cfg := by simp [execSetPos]
@[simp] theorem execQuickStop_registers (x) (s : State) : registersAfter (execQuickStop x s) = some s.cfg := by
  simp [execQuickStop]
@[simp] theorem execClear_registers (x) (s : State) : registersAfter (execClear x s) = some s.cfg := by simp [execClear]
@[simp] theorem execQueueMove_registers (x) (v) (s : State) : registersAfter (execQueueMove x v s) = some s.cfg := by
  simp [execQueueMove]
@[simp] theorem execAxisAtRest_registers (x) (s : State) : registersAfter (execAxisAtRest x s) = some s.cfg := by
  simp [execAxisAtRest]
@[simp] theorem execAxisEncoderTransition_registers (x) (a) (b) (s : State) :
    registersAfter (execAxisEncoderTransition x a b s) = some s.cfg := by
  simp [execAxisEncoderTransition]
@[simp] theorem execAxisEncoderZEdge_registers (x) (s : State) :
    registersAfter (execAxisEncoderZEdge x s) = some s.cfg := by
  simp [execAxisEncoderZEdge]
@[simp] theorem execStallDetect_registers (x) (s : State) : registersAfter (execStallDetect x s) = some s.cfg := by
  simp [execStallDetect]
@[simp] theorem execSwitchChange_registers (x) (sw) (level) (held) (s : State) :
    registersAfter (execSwitchChange x sw level held s) = some s.cfg := by
  simp [execSwitchChange]

/-! ## Dma -/


namespace State

@[simp] theorem dmaHalt_cfg (ch) (cause) (addr) (s : State) : (s.dmaHalt ch cause addr).cfg = s.cfg := by simp [dmaHalt]
@[simp] theorem dmaStart_cfg (ch) (s : State) : (s.dmaStart ch).cfg = s.cfg := by simp [dmaStart]
@[simp] theorem dmaAction_cfg (ch) (s : State) : (s.dmaAction ch).cfg = s.cfg := by simp [dmaAction]
@[simp] theorem writeDmaCtrl_cfg (ch) (v) (s : State) : (s.writeDmaCtrl ch v).cfg = s.cfg := by simp [writeDmaCtrl]
@[simp] theorem spoolDescriptor_cfg (a) (s : State) : (s.spoolDescriptor a).1.cfg = s.cfg := by
  simp only [spoolDescriptor]
  split <;> simp
@[simp] theorem descTable_cfg (d) (table) (s : State) : (s.descTable d table).1.cfg = s.cfg := by
  simp only [descTable]
  split
  · split <;> simp
  · simp
@[simp] theorem descRuns_cfg (d) (table) (s : State) : (s.descRuns d table).1.cfg = s.cfg := by
  simp only [descRuns]
  split
  · rfl
  · split
    · rfl
    · split
      · split
        · simp
        · split
          · simp
          · split <;> simp
      · split <;> rfl
@[simp] theorem takeDescriptor_cfg (ch) (d) (table) (s : State) : (s.takeDescriptor ch d table).cfg = s.cfg := by
  simp only [takeDescriptor]
  split <;> simp
@[simp] theorem afterBeat_cfg (ch) (s : State) : (s.afterBeat ch).cfg = s.cfg := by
  simp only [afterBeat]
  split <;> simp
@[simp] theorem beatWrite_cfg (x) (bs) (s : State) : (s.beatWrite x bs).1.cfg = s.cfg := by
  simp only [beatWrite]
  split <;> simp
@[simp] theorem beat_cfg (ch) (host) (s : State) : (s.beat ch host).cfg = s.cfg := by
  simp only [beat]
  split
  · rfl
  · split
    · rfl
    · split
      · split <;> simp
      · split <;> simp
@[simp] theorem countPreempted_cfg (ch) (s : State) : (s.countPreempted ch).cfg = s.cfg := by
  simp only [countPreempted]
  split <;> simp
@[simp] theorem poolBeat_cfg (ch) (s : State) : (s.poolBeat ch).cfg = s.cfg := by simp [poolBeat]

end State

@[simp] theorem execDmaGo_registers (ch) (v) (s : State) : registersAfter (execDmaGo ch v s) = some s.cfg := by
  simp [execDmaGo]
@[simp] theorem execDmaReady_registers (ch) (v) (s : State) : registersAfter (execDmaReady ch v s) = some s.cfg := by
  simp [execDmaReady]
@[simp] theorem execDmaAbort_registers (ch) (v) (s : State) : registersAfter (execDmaAbort ch v s) = some s.cfg := by
  simp [execDmaAbort]
@[simp] theorem execDmaClear_registers (ch) (v) (s : State) : registersAfter (execDmaClear ch v s) = some s.cfg := by
  simp [execDmaClear]
@[simp] theorem execDescriptorFetch_registers (ch) (d) (table) (s : State) :
    registersAfter (execDescriptorFetch ch d table s) = some s.cfg := by
  simp only [execDescriptorFetch]
  split
  · simp
  · split
    · split
      · simp
      · split <;> simp
    · simp
@[simp] theorem execDmaBeat_registers (host) (s : State) : registersAfter (execDmaBeat host s) = some s.cfg := by
  simp only [execDmaBeat]
  split
  · simp
  · split <;> simp
@[simp] theorem execDmaChainDone_registers (ch) (s : State) : registersAfter (execDmaChainDone ch s) = some s.cfg := by
  simp [execDmaChainDone]

/-! ## Tables -/


namespace State

@[simp] theorem stagePut_cfg (table) (unit) (sub) (first) (l) (s : State) :
    (s.stagePut table unit sub first l).cfg = s.cfg := by
  simp only [stagePut]
  split
  · split <;> simp
  · split <;> simp
@[simp] theorem stageDefaults_cfg (s : State) : (s.stageDefaults).cfg = s.cfg := by simp [stageDefaults]
@[simp] theorem crcUnitFault_cfg (s : State) : (s.crcUnitFault).cfg = s.cfg := by simp [crcUnitFault]
@[simp] theorem tableLoad_cfg (r) (e) (payload) (s : State) : (s.tableLoad r e payload).cfg = s.cfg := by simp [tableLoad]

end State

@[simp] theorem execTableLoad_registers (r) (payload) (s : State) :
    registersAfter (execTableLoad r payload s) = some s.cfg := by
  simp [execTableLoad]

/-! ## Trims -/


namespace State

@[simp] theorem trimBoundary_cfg (k) (s : State) : (s.trimBoundary k).cfg = s.cfg := by simp [trimBoundary]
@[simp] theorem trimBoundaries_cfg (k) (s : State) : (s.trimBoundaries k).cfg = s.cfg := by simp [trimBoundaries]
@[simp] theorem trimCommit_cfg (k) (e) (s : State) : (s.trimCommit k e).cfg = s.cfg := by simp [trimCommit]
@[simp] theorem commitAction_cfg (k) (s : State) : (s.commitAction k).cfg = s.cfg := by simp [commitAction]

end State

@[simp] theorem execTrimEpochBoundary_registers (k) (s : State) :
    registersAfter (execTrimEpochBoundary k s) = some s.cfg := by
  simp [execTrimEpochBoundary]
@[simp] theorem execTrimTargetCommit_registers (k) (epoch) (s : State) :
    registersAfter (execTrimTargetCommit k epoch s) = some s.cfg := by
  simp [execTrimTargetCommit]

/-! ## Fetch -/


namespace State

@[simp] theorem onWork_cfg (k) (id) (key) (g) (s : State) : (s.onWork k id key g).cfg = s.cfg := by simp [onWork]
@[simp] theorem bandError_cfg (k) (w) (code) (s : State) : (s.bandError k w code).cfg = s.cfg := by simp [bandError]
@[simp] theorem voidRows_cfg (k) (c) (s : State) : (s.voidRows k c).cfg = s.cfg := forEach_cfg _ _ _ fun _ _ => rfl
@[simp] theorem dropTaps_cfg (c) (s : State) : (s.dropTaps c).cfg = s.cfg := by simp [dropTaps]
@[simp] theorem sweepTaps_cfg (s : State) : (s.sweepTaps).cfg = s.cfg := by simp [sweepTaps]
@[simp] theorem voidTaps_cfg (id) (first) (count) (s : State) : (s.voidTaps id first count).cfg = s.cfg := by simp [voidTaps]
@[simp] theorem recompute_cfg (k) (n) (restore) (s : State) : (s.recompute k n restore).cfg = s.cfg := by simp [recompute]
@[simp] theorem endWork_cfg (k) (code) (u) (s : State) : (s.endWork k code u).cfg = s.cfg := by
  simp only [endWork]
  split <;> simp
@[simp] theorem endUse_cfg (k) (code) (u) (s : State) : (s.endUse k code u).cfg = s.cfg := by
  simp only [endUse]
  split
  · simp
  · split <;> simp
@[simp] theorem endBand_cfg (k) (w) (code) (s : State) : (s.endBand k w code).cfg = s.cfg := by simp [endBand]
@[simp] theorem lateEvents_cfg (k) (id) (row) (s : State) : (s.lateEvents k id row).cfg = s.cfg := by
  simp only [lateEvents]
  split <;> simp
theorem releaseNext_cfg (p) (s t : State) (h : s.releaseNext p = some t) : t.cfg = s.cfg := by
  simp only [releaseNext] at h
  split at h
  · cases h
  · split at h
    · cases h
      rfl
    · split at h
      · cases h
        exact lateEvents_cfg ..
      · split at h
        · cases h
          rfl
        · cases h
@[simp] theorem releasePort_cfg (p) (n) (s : State) : (s.releasePort p n).cfg = s.cfg := by
  induction n generalizing s with
  | zero => rfl
  | succ n ih =>
    rw [releasePort]
    split
    · rfl
    · next t ht => exact (ih t).trans (releaseNext_cfg _ _ _ ht)
@[simp] theorem judgeRefetch_cfg (k) (w) (s : State) : (s.judgeRefetch k w).cfg = s.cfg := by
  simp only [judgeRefetch]
  split <;> simp
@[simp] theorem pruneRows_cfg (k) (s : State) : (s.pruneRows k).cfg = s.cfg := by simp [pruneRows]
@[simp] theorem releaseRows_cfg (k) (s : State) : (s.releaseRows k).cfg = s.cfg := by simp [releaseRows]
@[simp] theorem noteRead_cfg (k) (b) (s : State) : (s.noteRead k b).cfg = s.cfg := by simp [noteRead]
@[simp] theorem requestBand_cfg (k) (u) (s : State) : (s.requestBand k u).cfg = s.cfg := by
  simp only [requestBand]
  split <;> simp
@[simp] theorem presentRead_cfg (k) (w) (block) (s : State) : (s.presentRead k w block).cfg = s.cfg := by simp [presentRead]
@[simp] theorem grantLane_cfg (k) (w) (l) (s : State) : (s.grantLane k w l).cfg = s.cfg := by simp [grantLane]
@[simp] theorem laneFail_cfg (l) (s : State) : (s.laneFail l).cfg = s.cfg := by simp [laneFail]
@[simp] theorem laneDisagree_cfg (l) (s : State) : (s.laneDisagree l).cfg = s.cfg := by simp [laneDisagree]
@[simp] theorem refetch_cfg (k) (w) (s : State) : (s.refetch k w).cfg = s.cfg := by
  simp only [refetch]
  split <;> simp
@[simp] theorem freeChecks_cfg (k) (s : State) : (s.freeChecks k).cfg = s.cfg := by simp [freeChecks]
@[simp] theorem verify_cfg (k) (w) (s : State) : (s.verify k w).cfg = s.cfg := by simp [verify]
@[simp] theorem markBad_cfg (key) (s : State) : (s.markBad key).cfg = s.cfg := by simp [markBad]
@[simp] theorem disagree_cfg (g) (f) (s : State) : (s.disagree g f).cfg = s.cfg := by simp [disagree]
@[simp] theorem refetchFails_cfg (k) (w) (s : State) : (s.refetchFails k w).cfg = s.cfg := by simp [refetchFails]
@[simp] theorem judgeBand_cfg (k) (x) (s : State) : (s.judgeBand k x).cfg = s.cfg := by simp [judgeBand]
@[simp] theorem endSlice_cfg (k) (w) (i) (l) (upset) (s : State) : (s.endSlice k w i l upset).cfg = s.cfg := by
  simp only [endSlice]
  split
  · split <;> simp
  · split <;> simp

end State

@[simp] theorem execBandFetchRequest_registers (k) (s : State) :
    registersAfter (execBandFetchRequest k s) = some s.cfg := by
  simp only [execBandFetchRequest]
  split
  · simp
  · split <;> simp
@[simp] theorem execLaneGrant_registers (s : State) : registersAfter (execLaneGrant s) = some s.cfg := by
  simp only [execLaneGrant]
  split
  · simp
  · split
    · simp
    · split
      · simp
      · split <;> simp
@[simp] theorem execSliceEnd_registers (lane) (upset) (s : State) :
    registersAfter (execSliceEnd lane upset s) = some s.cfg := by
  simp only [execSliceEnd]
  split <;> simp

/-! ## Rows -/


namespace State

@[simp] theorem beginTap_cfg (c) (k) (sh) (row) (s : State) : (s.beginTap c k sh row).cfg = s.cfg := by simp [beginTap]
@[simp] theorem tapRows_cfg (k) (sh) (row) (contone) (s : State) : (s.tapRows k sh row contone).cfg = s.cfg := by
  simp [tapRows]
@[simp] theorem writeCheck_cfg (k) (m) (n) (s : State) : (s.writeCheck k m n).cfg = s.cfg := by simp [writeCheck]
@[simp] theorem clearState_cfg (k) (m) (v) (s : State) : (s.clearState k m v).cfg = s.cfg := by simp [clearState]
@[simp] theorem setPart_cfg (k) (m) (n) (vals) (s : State) : (s.setPart k m n vals).cfg = s.cfg := by simp [setPart]
@[simp] theorem voidPart_cfg (k) (m) (n) (s : State) : (s.voidPart k m n).cfg = s.cfg := by
  rw [voidPart, setPart_cfg, onBar_cfg]
@[simp] theorem dataPart_cfg (k) (m) (v) (contone) (s : State) : (s.dataPart k m v contone).cfg = s.cfg := by simp [dataPart]
@[simp] theorem rowFault_cfg (k) (m) (id) (row) (f) (s : State) : (s.rowFault k m id row f).cfg = s.cfg := by
  simp only [rowFault]
  split
  · split <;> simp
  · simp
  · simp
@[simp] theorem overlayMissing_cfg (id) (row) (s : State) : (s.overlayMissing id row).cfg = s.cfg := by simp [overlayMissing]
@[simp] theorem numberRow_cfg (k) (sh) (keys) (noData) (s : State) : (s.numberRow k sh keys noData).cfg = s.cfg := by
  simp [numberRow]
@[simp] theorem computeRow_cfg (k) (m) (sh) (n) (row) (new) (src) (s : State) :
    (s.computeRow k m sh n row new src).cfg = s.cfg := by
  simp [computeRow]
@[simp] theorem rowCompute_cfg (k) (m) (fault) (s : State) : (s.rowCompute k m fault).cfg = s.cfg := by
  simp only [rowCompute]
  split
  · rfl
  · split
    · rfl
    · split
      · rfl
      · split
        · rfl
        · split <;> simp
@[simp] theorem settlePort_cfg (p) (s : State) : (s.settlePort p).cfg = s.cfg := by simp [settlePort]
@[simp] theorem writePorts_cfg (k) (r) (s : State) : (s.writePorts k r).cfg = s.cfg := by simp [writePorts]
@[simp] theorem markWritten_cfg (k) (n) (s : State) : (s.markWritten k n).cfg = s.cfg := by simp [markWritten]
@[simp] theorem rewriteCodes_cfg (k) (r) (s : State) : (s.rewriteCodes k r).cfg = s.cfg := forEach_cfg _ _ _ fun _ _ => rfl
@[simp] theorem rowWrite_cfg (k) (s : State) : (s.rowWrite k).cfg = s.cfg := by
  simp only [rowWrite]
  split <;> simp
@[simp] theorem refresh_cfg (k) (n) (s : State) : (s.refresh k n).cfg = s.cfg := by
  simp only [refresh]
  split <;> simp

end State

@[simp] theorem execRowCompute_registers (k) (m) (fault) (s : State) :
    registersAfter (execRowCompute k m fault s) = some s.cfg := by
  simp only [execRowCompute]
  split
  · split <;> simp
  · simp
@[simp] theorem execRowWrite_registers (k) (s : State) : registersAfter (execRowWrite k s) = some s.cfg := by
  simp [execRowWrite]

/-! ## Prism -/


namespace State

@[simp] theorem portError_cfg (code) (cls) (p) (r) (s : State) : (s.portError code cls p r).cfg = s.cfg := by
  simp [portError]
@[simp] theorem unacked_cfg (p) (n) (s : State) : (s.unacked p n).cfg = s.cfg := by
  simp only [unacked]
  split <;> simp
@[simp] theorem queueData_cfg (p) (r) (s : State) : (s.queueData p r).cfg = s.cfg := by simp [queueData]
@[simp] theorem sendFrame_cfg (p) (r) (again) (s : State) : (s.sendFrame p r again).cfg = s.cfg := by simp [sendFrame]
@[simp] theorem transmit_cfg (p) (badWord) (s : State) : (s.transmit p badWord).cfg = s.cfg := by
  simp only [transmit]
  split
  · rfl
  · split <;> simp
@[simp] theorem replay_cfg (p) (badWord) (s : State) : (s.replay p badWord).cfg = s.cfg := by
  simp only [replay]
  split
  · rfl
  · split
    · rfl
    · split <;> simp
@[simp] theorem frameEnd_cfg (p) (s : State) : (s.frameEnd p).cfg = s.cfg := by
  simp only [frameEnd]
  split <;> simp
@[simp] theorem acknowledge_cfg (p) (r) (s : State) : (s.acknowledge p r).cfg = s.cfg := by simp [acknowledge]
@[simp] theorem wantReplay_cfg (p) (n) (s : State) : (s.wantReplay p n).cfg = s.cfg := by simp [wantReplay]
@[simp] theorem invalidBlock_cfg (p) (s : State) : (s.invalidBlock p).cfg = s.cfg := by simp [invalidBlock]
@[simp] theorem response_cfg (p) (row) (code) (s : State) : (s.response p row code).cfg = s.cfg := by
  simp only [response]
  split <;> simp
@[simp] theorem lateRow_cfg (k) (n) (ports) (s : State) : (s.lateRow k n ports).cfg = s.cfg := by
  unfold lateRow
  split
  · rfl
  · next id row _ =>
    have hvoid := forEach_cfg ports (fun p u => (u.onPort p (Port.endVoid n id row)).settlePort p) (s.lateEvents k id row)
      fun p u => settlePort_cfg p _
    have hsettle (t : State) := forEach_cfg (portsOf k) (fun p u => u.onPort p Port.settle) t fun _ _ => rfl
    rw [hsettle, releaseRows_cfg, hvoid, lateEvents_cfg]
@[simp] theorem expire_cfg (p) (n) (s : State) : (s.expire p n).cfg = s.cfg := by simp [expire]

end State

@[simp] theorem execRowTransmit_registers (p) (badWord) (s : State) :
    registersAfter (execRowTransmit p badWord s) = some s.cfg := by
  simp [execRowTransmit]
@[simp] theorem execRowReplay_registers (p) (badWord) (s : State) :
    registersAfter (execRowReplay p badWord s) = some s.cfg := by
  simp [execRowReplay]
@[simp] theorem execRowFrameEnd_registers (p) (s : State) : registersAfter (execRowFrameEnd p s) = some s.cfg := by
  simp [execRowFrameEnd]
@[simp] theorem execRespRx_registers (p) (row) (code) (s : State) :
    registersAfter (execRespRx p row code s) = some s.cfg := by
  simp [execRespRx]
@[simp] theorem execAckTimeout_registers (p) (row) (s : State) :
    registersAfter (execAckTimeout p row s) = some s.cfg := by
  simp only [execAckTimeout]
  split <;> simp
@[simp] theorem execDeliveryDeadline_registers (k) (row) (s : State) :
    registersAfter (execDeliveryDeadline k row s) = some s.cfg := by
  simp [execDeliveryDeadline]
@[simp] theorem execAckDeadline_registers (p) (row) (s : State) :
    registersAfter (execAckDeadline p row s) = some s.cfg := by
  simp only [execAckDeadline]
  split <;> simp

/-! ## Nozzles -/


namespace State

@[simp] theorem replaceChannel_cfg (k) (j) (s : State) : (s.replaceChannel k j).cfg = s.cfg := by
  simp only [replaceChannel]
  split
  · rfl
  · split <;> simp
@[simp] theorem findingEvent_cfg (j) (kind) (s : State) : (s.findingEvent j kind).cfg = s.cfg := by simp [findingEvent]
@[simp] theorem foundFailed_cfg (k) (j) (s : State) : (s.foundFailed k j).cfg = s.cfg := by simp [foundFailed]
@[simp] theorem foundGood_cfg (k) (j) (s : State) : (s.foundGood k j).cfg = s.cfg := by simp [foundGood]
@[simp] theorem occulterFinding_cfg (k) (j) (verdict) (s : State) : (s.occulterFinding k j verdict).cfg = s.cfg := by
  simp [occulterFinding]
@[simp] theorem queueBarStop_cfg (k) (s : State) : (s.queueBarStop k).cfg = s.cfg := by simp [queueBarStop]
@[simp] theorem stopForChanges_cfg (k) (s : State) : (s.stopForChanges k).cfg = s.cfg := by simp [stopForChanges]
@[simp] theorem noteChange_cfg (k) (j) (r) (s : State) : (s.noteChange k j r).cfg = s.cfg := by simp [noteChange]

end State

@[simp] theorem execNozzleStopHoldoffExpiry_registers (k) (s : State) :
    registersAfter (execNozzleStopHoldoffExpiry k s) = some s.cfg := by
  simp [execNozzleStopHoldoffExpiry]

/-! ## Link -/


namespace State

@[simp] theorem beginTraining_cfg (p) (s : State) : (s.beginTraining p).cfg = s.cfg := by simp [beginTraining]
@[simp] theorem failTraining_cfg (p) (s : State) : (s.failTraining p).cfg = s.cfg := by simp [failTraining]
@[simp] theorem sendTrain_cfg (p) (s : State) : (s.sendTrain p).cfg = s.cfg := by simp [sendTrain]
@[simp] theorem enterT1_cfg (p) (s : State) : (s.enterT1 p).cfg = s.cfg := by simp [enterT1]
@[simp] theorem sendConfig_cfg (p) (s : State) : (s.sendConfig p).cfg = s.cfg := by simp [sendConfig]
@[simp] theorem sendPing_cfg (p) (seq) (s : State) : (s.sendPing p seq).cfg = s.cfg := by simp [sendPing]
@[simp] theorem enterT4_cfg (p) (s : State) : (s.enterT4 p).cfg = s.cfg := by simp [enterT4]
@[simp] theorem judgeReport_cfg (p) (r) (s : State) : (s.judgeReport p r).cfg = s.cfg := by simp [judgeReport]
@[simp] theorem takeReport_cfg (p) (r) (s : State) : (s.takeReport p r).cfg = s.cfg := by simp [takeReport]
@[simp] theorem takeCaps_cfg (p) (d) (s : State) : (s.takeCaps p d).cfg = s.cfg := by
  simp only [takeCaps]
  split
  · split <;> simp
  · simp
@[simp] theorem train_cfg (p) (inverted) (step) (sub) (d) (s : State) : (s.train p inverted step sub d).cfg = s.cfg := by
  simp [train]
@[simp] theorem sendSync_cfg (p) (s : State) : (s.sendSync p).cfg = s.cfg := by simp [sendSync]
@[simp] theorem pong_cfg (p) (seq) (trip) (s : State) : (s.pong p seq trip).cfg = s.cfg := by simp [pong]

end State

@[simp] theorem execTrainT0Elapsed_registers (p) (s : State) : registersAfter (execTrainT0Elapsed p s) = some s.cfg := by
  simp [execTrainT0Elapsed]
@[simp] theorem execTrainRx_registers (p) (inverted) (step) (sub) (data) (s : State) :
    registersAfter (execTrainRx p inverted step sub data s) = some s.cfg := by
  simp [execTrainRx]
@[simp] theorem execTrainTimeout_registers (p) (s : State) : registersAfter (execTrainTimeout p s) = some s.cfg := by
  simp [execTrainTimeout]
@[simp] theorem execPongRx_registers (p) (seq) (trip) (s : State) :
    registersAfter (execPongRx p seq trip s) = some s.cfg := by
  simp [execPongRx]
@[simp] theorem execConfigEchoRx_registers (p) (fields) (reserved) (s : State) :
    registersAfter (execConfigEchoRx p fields reserved s) = some s.cfg := by
  simp [execConfigEchoRx]
@[simp] theorem execConfigEchoTimeout_registers (p) (s : State) :
    registersAfter (execConfigEchoTimeout p s) = some s.cfg := by
  simp [execConfigEchoTimeout]
@[simp] theorem execHeartbeatTx_registers (p) (s : State) : registersAfter (execHeartbeatTx p s) = some s.cfg := by
  simp [execHeartbeatTx]
@[simp] theorem execModuleHeartbeatRx_registers (p) (modState) (_strobes) (_seq) (_free) (s : State) :
    registersAfter (execModuleHeartbeatRx p modState _strobes _seq _free s) = some s.cfg := by
  simp [execModuleHeartbeatRx]
@[simp] theorem execModuleHeartbeatLoss_registers (p) (s : State) :
    registersAfter (execModuleHeartbeatLoss p s) = some s.cfg := by
  simp [execModuleHeartbeatLoss]
@[simp] theorem execRxBlockLockLoss_registers (p) (s : State) :
    registersAfter (execRxBlockLockLoss p s) = some s.cfg := by
  simp [execRxBlockLockLoss]
@[simp] theorem execRxBlockLockAcquire_registers (p) (s : State) :
    registersAfter (execRxBlockLockAcquire p s) = some s.cfg := by
  simp [execRxBlockLockAcquire]
@[simp] theorem execLinkFaultRx_registers (p) (cause) (s : State) :
    registersAfter (execLinkFaultRx p cause s) = some s.cfg := by
  simp [execLinkFaultRx]
@[simp] theorem execInvalidBlockRx_registers (block) (s : State) :
    registersAfter (execInvalidBlockRx block s) = some s.cfg := by
  simp [execInvalidBlockRx]
@[simp] theorem execAlignRx_registers (p) (bip) (carried) (s : State) :
    registersAfter (execAlignRx p bip carried s) = some s.cfg := by
  simp [execAlignRx]
@[simp] theorem execAlignTx_registers (p) (s : State) : registersAfter (execAlignTx p s) = some s.cfg := by
  simp [execAlignTx]
@[simp] theorem execTempStale_registers (p) (sensor) (s : State) :
    registersAfter (execTempStale p sensor s) = some s.cfg := by
  simp [execTempStale]
@[simp] theorem execNozzleRx_registers (p) (reports) (s : State) :
    registersAfter (execNozzleRx p reports s) = some s.cfg := by
  simp [execNozzleRx]
@[simp] theorem execRefreshTx_registers (p) (s : State) : registersAfter (execRefreshTx p s) = some s.cfg := by
  simp [execRefreshTx]
@[simp] theorem execRefreshRx_registers (p) (s : State) : registersAfter (execRefreshRx p s) = some s.cfg := by
  simp [execRefreshRx]
@[simp] theorem execAdaptationFreeze_registers (p) (s : State) :
    registersAfter (execAdaptationFreeze p s) = some s.cfg := by
  simp [execAdaptationFreeze]
@[simp] theorem execAdaptationResume_registers (p) (s : State) :
    registersAfter (execAdaptationResume p s) = some s.cfg := by
  simp [execAdaptationResume]
@[simp] theorem execPortFaultBurstEnd_registers (p) (s : State) :
    registersAfter (execPortFaultBurstEnd p s) = some s.cfg := by
  simp [execPortFaultBurstEnd]
@[simp] theorem execEyeScanDone_registers (p) (errors) (s : State) :
    registersAfter (execEyeScanDone p errors s) = some s.cfg := by
  simp [execEyeScanDone]

/-! ## Occulter -/


namespace State

@[simp] theorem queueTests_cfg (n) (s : State) : (s.queueTests n).cfg = s.cfg := by
  induction n generalizing s with
  | zero => rfl
  | succ n ih =>
    rw [queueTests]
    split
    · exact ih _
    · rfl
@[simp] theorem occStart_cfg (s : State) : (s.occStart).cfg = s.cfg := by simp [occStart]
@[simp] theorem occEnd_cfg (state) (s : State) : (s.occEnd state).cfg = s.cfg := by simp [occEnd]
@[simp] theorem writeOccCtrl_cfg (v) (s : State) : (s.writeOccCtrl v).cfg = s.cfg := by simp [writeOccCtrl]
@[simp] theorem occStrobe_cfg (s : State) : (s.occStrobe).cfg = s.cfg := by simp [occStrobe]
@[simp] theorem onDrop_cfg (i) (g) (s : State) : (s.onDrop i g).cfg = s.cfg := by simp [onDrop]
@[simp] theorem pulseRise_cfg (g) (s : State) : (s.pulseRise g).cfg = s.cfg := by
  simp only [pulseRise]
  split <;> simp
@[simp] theorem pulseFall_cfg (g) (s : State) : (s.pulseFall g).cfg = s.cfg := by
  simp only [pulseFall]
  split
  · rfl
  · split <;> simp
@[simp] theorem nozzleDone_cfg (i) (s : State) : (s.nozzleDone i).cfg = s.cfg := by
  simp only [nozzleDone]
  rw [occulterFinding_cfg, onOcc_cfg, spoolPut_cfg, onFree_cfg]
@[simp] theorem judgeDrop_cfg (d) (s : State) : (s.judgeDrop d).cfg = s.cfg := by simp [judgeDrop]

end State

@[simp] theorem execOccStart_registers (v) (s : State) : registersAfter (execOccStart v s) = some s.cfg := by
  simp [execOccStart]
@[simp] theorem execOccAbort_registers (v) (s : State) : registersAfter (execOccAbort v s) = some s.cfg := by
  simp [execOccAbort]
@[simp] theorem execOccGateEdge_registers (g) (rising) (s : State) :
    registersAfter (execOccGateEdge g rising s) = some s.cfg := by
  simp [execOccGateEdge]
@[simp] theorem execOccWindowEnd_registers (s : State) : registersAfter (execOccWindowEnd s) = some s.cfg := by
  simp only [execOccWindowEnd]
  split <;> simp

/-! ## Strobe -/


namespace State

@[simp] theorem missPort_cfg (id) (row) (p) (s : State) : (s.missPort id row p).cfg = s.cfg := by simp [missPort]
@[simp] theorem freeFired_cfg (k) (s : State) : (s.freeFired k).cfg = s.cfg := by simp [freeFired]
@[simp] theorem leaveSheet_cfg (k) (id) (s : State) : (s.leaveSheet k id).cfg = s.cfg := by simp [leaveSheet]
@[simp] theorem markPassed_cfg (k) (id) (row) (s : State) : (s.markPassed k id row).cfg = s.cfg := by simp [markPassed]
@[simp] theorem passFired_cfg (k) (s : State) : (s.passFired k).cfg = s.cfg := by
  simp only [passFired]
  split <;> simp
@[simp] theorem passLive_cfg (k) (s : State) : (s.passLive k).cfg = s.cfg := by
  simp only [passLive]
  split <;> simp
@[simp] theorem passIdle_cfg (k) (id) (row) (s : State) : (s.passIdle k id row).cfg = s.cfg := by simp [passIdle]
@[simp] theorem passSheet_cfg (k) (id) (n) (x) (s : State) : (s.passSheet k id n x).cfg = s.cfg := by
  induction n generalizing x s with
  | zero => rfl
  | succ n ih =>
    rw [passSheet]
    split
    · exact (ih ..).trans (passIdle_cfg ..)
    · rfl
@[simp] theorem passDue_cfg (k) (s : State) : (s.passDue k).cfg = s.cfg := by simp [passDue]
@[simp] theorem commitEdge_cfg (p) (s : State) : (s.commitEdge p).cfg = s.cfg := by
  simp only [commitEdge]
  split <;> simp
@[simp] theorem judgeEdge_cfg (p) (r) (c) (g) (ideal) (s : State) : (s.judgeEdge p r c g ideal).cfg = s.cfg := by
  simp only [judgeEdge]
  split
  · split <;> simp
  · split <;> simp
@[simp] theorem fireRow_cfg (p) (g) (s : State) : (s.fireRow p g).cfg = s.cfg := by simp [fireRow]
@[simp] theorem leadingEdge_cfg (p) (r) (c) (ideal) (s : State) : (s.leadingEdge p r c ideal).cfg = s.cfg := by
  simp [leadingEdge]
@[simp] theorem strobe_cfg (p) (s : State) : (s.strobe p).cfg = s.cfg := by
  simp only [strobe]
  split
  · simp
  · split
    · rfl
    · split <;> simp
@[simp] theorem cutPairs_cfg (s : State) : (s.cutPairs).cfg = s.cfg := by simp [cutPairs]

end State

@[simp] theorem execFireCommit_registers (p) (s : State) : registersAfter (execFireCommit p s) = some s.cfg := by
  simp [execFireCommit]
@[simp] theorem execStrobeLeadingEdge_registers (p) (s : State) :
    registersAfter (execStrobeLeadingEdge p s) = some s.cfg := by
  simp [execStrobeLeadingEdge]
@[simp] theorem execStrobeTrailingEdge_registers (p) (s : State) :
    registersAfter (execStrobeTrailingEdge p s) = some s.cfg := by
  simp [execStrobeTrailingEdge]
@[simp] theorem execStrobeWatchdogTrip_registers (p) (s : State) :
    registersAfter (execStrobeWatchdogTrip p s) = some s.cfg := by
  simp [execStrobeWatchdogTrip]
@[simp] theorem execEstopAssert_registers (s : State) : registersAfter (execEstopAssert s) = some s.cfg := by
  simp [execEstopAssert]
@[simp] theorem execEstopRelease_registers (s : State) : registersAfter (execEstopRelease s) = some s.cfg := by
  simp [execEstopRelease]
@[simp] theorem execEstopHoldoffExpiry_registers (s : State) :
    registersAfter (execEstopHoldoffExpiry s) = some s.cfg := by
  simp [execEstopHoldoffExpiry]

/-! ## Calib -/


namespace State

@[simp] theorem missTaps_cfg (s : State) : (s.missTaps).cfg = s.cfg := by simp [missTaps]
@[simp] theorem sampleBar_cfg (t) (s1) (n) (k) (s : State) : (s.sampleBar t s1 n k).cfg = s.cfg := by simp [sampleBar]
@[simp] theorem pairTap_cfg (c) (h0) (s1) (n) (s : State) : (s.pairTap c h0 s1 n).cfg = s.cfg := by
  simp only [pairTap]
  split <;> simp
@[simp] theorem denseFindings_cfg (k) (errs) (s : State) : (s.denseFindings k errs).cfg = s.cfg := by simp [denseFindings]
@[simp] theorem formBatch_cfg (k) (s : State) : (s.formBatch k).cfg = s.cfg := by simp [formBatch]
@[simp] theorem thermCheck_cfg (k) (s : State) : (s.thermCheck k).cfg = s.cfg := by simp [thermCheck]
@[simp] theorem clearCells_cfg (k) (old) (new) (s : State) : (s.clearCells k old new).cfg = s.cfg := by simp [clearCells]

end State

@[simp] theorem execCalBatch_registers (k) (s : State) : registersAfter (execCalBatch k s) = some s.cfg := by
  simp [execCalBatch]
@[simp] theorem execTempRx_registers (p) (sensor) (temp) (s : State) :
    registersAfter (execTempRx p sensor temp s) = some s.cfg := by
  simp [execTempRx]

/-! ## Compress -/


namespace State

@[simp] theorem cmpInput_cfg (e) (input) (s : State) : (s.cmpInput e input).1.cfg = s.cfg := by
  simp only [cmpInput]
  split <;> simp
@[simp] theorem writeBuffer_cfg (e) (x) (acc : State × Bool) : (writeBuffer e x acc).1.cfg = acc.1.cfg := by
  unfold writeBuffer
  split
  · exact spoolPut_cfg ..
  · exact hostStore_cfg ..
theorem foldl_writeBuffer_cfg (e) (l : List (Nat × List Byte)) (acc : State × Bool) :
    (l.foldl (fun acc x => writeBuffer e x acc) acc).1.cfg = acc.1.cfg := by
  induction l generalizing acc with
  | nil => rfl
  | cons x l ih => rw [List.foldl_cons, ih, writeBuffer_cfg]
@[simp] theorem takeCmpLane_cfg (i) (s : State) : (s.takeCmpLane i).cfg = s.cfg := by
  simp only [takeCmpLane]
  split <;> simp
@[simp] theorem takeCmpLanes_cfg (s : State) : (s.takeCmpLanes).cfg = s.cfg := by simp [takeCmpLanes]
@[simp] theorem startCompress_cfg (r) (e) (input) (chain) (s : State) :
    (s.startCompress r e input chain).cfg = s.cfg := by
  simp only [startCompress]
  split
  · simp
  · split
    · split
      · simp
      · split <;> simp
    · split
      · simp
      · split <;> simp
@[simp] theorem endCompress_cfg (j) (s : State) : (s.endCompress j).cfg = s.cfg := by
  have hparts := foldl_writeBuffer_cfg j.entry (fillBuffers j.buffers j.written) (s, true)
  simp only [endCompress]
  split
  · exact (failBulk_cfg ..).trans hparts
  · split
    · exact (failBulk_cfg ..).trans hparts
    · exact (failBulk_cfg ..).trans hparts
    · exact (doneBulk_cfg ..).trans hparts

end State

@[simp] theorem execCompress_registers (r) (input) (chain) (s : State) :
    registersAfter (execCompress r input chain s) = some s.cfg := by
  simp [execCompress]
@[simp] theorem execCompressLaneDone_registers (lane) (s : State) :
    registersAfter (execCompressLaneDone lane s) = some s.cfg := by
  simp only [execCompressLaneDone]
  split <;> simp

/-! ## Meridian -/


namespace State

@[simp] theorem merTick_cfg (s : State) : (s.merTick).cfg = s.cfg := by simp [merTick]
@[simp] theorem latchCapture_cfg (k) (s : State) : (s.latchCapture k).cfg = s.cfg := by simp [latchCapture]
@[simp] theorem noteTrigger_cfg (u) (rising) (s : State) : (s.noteTrigger u rising).cfg = s.cfg := by
  unfold noteTrigger
  split
  · split <;> rfl
  · rfl
@[simp] theorem drive_cfg (o) (level) (s : State) : (s.drive o level).cfg = s.cfg := by simp [drive]
@[simp] theorem onSlot_cfg (r) (g) (s : State) : (s.onSlot r g).cfg = s.cfg := by
  simp only [onSlot]
  split <;> simp
@[simp] theorem issue_cfg (d) (s : State) : (s.issue d).cfg = s.cfg := by
  simp only [issue]
  split
  · split <;> simp
  · simp
  · split <;> simp
  · split <;> simp
  · simp
@[simp] theorem act_cfg (r) (s : State) : (s.act r).cfg = s.cfg := by
  simp only [act]
  split <;> simp
@[simp] theorem slotNext_cfg (r) (final) (s : State) : (s.slotNext r final).cfg = s.cfg := by
  simp only [slotNext]
  split <;> simp
@[simp] theorem execEvent_cfg (r) (s : State) : (s.execEvent r).cfg = s.cfg := by simp [execEvent]
@[simp] theorem occur_cfg (r) (late) (s : State) : (s.occur r late).cfg = s.cfg := by simp [occur]
@[simp] theorem timeSlots_cfg (n) (s : State) : (s.timeSlots n).cfg = s.cfg := by simp [timeSlots]
@[simp] theorem predict_cfg (j) (s : State) : (s.predict j).cfg = s.cfg := by
  simp only [predict]
  split
  · rfl
  · split <;> simp
@[simp] theorem posDue_cfg (j) (late) (s : State) : (s.posDue j late).cfg = s.cfg := by simp [posDue]
@[simp] theorem runPredicted_cfg (j) (s : State) : (s.runPredicted j).cfg = s.cfg := by simp [runPredicted]
@[simp] theorem posSlots_cfg (m) (h) (s : State) : (s.posSlots m h).cfg = s.cfg := by simp [posSlots]
@[simp] theorem anchorSlots_cfg (h) (s : State) : (s.anchorSlots h).cfg = s.cfg := by simp [anchorSlots]
@[simp] theorem cfg_arm (r) (s : State) : (s.arm r).cfg = s.cfg := by
  simp only [arm]
  split <;> simp
@[simp] theorem disarm_cfg (r) (s : State) : (s.disarm r).cfg = s.cfg := by
  simp only [disarm]
  split
  · rfl
  · split <;> simp
@[simp] theorem cancelAllSlots_cfg (s : State) : (s.cancelAllSlots).cfg = s.cfg := by simp [cancelAllSlots]
@[simp] theorem beginHoldover_cfg (s : State) : (s.beginHoldover).cfg = s.cfg := by simp [beginHoldover]
@[simp] theorem beginHolding_cfg (s : State) : (s.beginHolding).cfg = s.cfg := by simp [beginHolding]
@[simp] theorem discardSample_cfg (s : State) : (s.discardSample).cfg = s.cfg := by simp [discardSample]
@[simp] theorem writePtpCtrl_cfg (v) (s : State) : (s.writePtpCtrl v).cfg = s.cfg := by simp [writePtpCtrl]
@[simp] theorem annLoss_cfg (s : State) : (s.annLoss).cfg = s.cfg := by simp [annLoss]

end State

@[simp] theorem execTimeSlotDue_registers (i) (disagree) (s : State) :
    registersAfter (execTimeSlotDue i disagree s) = some s.cfg := by
  simp [execTimeSlotDue]
@[simp] theorem execOutputPulseEnd_registers (o) (s : State) : registersAfter (execOutputPulseEnd o s) = some s.cfg := by
  simp only [execOutputPulseEnd]
  split <;> simp
@[simp] theorem execPredictedSlotDue_registers (j) (s : State) :
    registersAfter (execPredictedSlotDue j s) = some s.cfg := by
  simp [execPredictedSlotDue]
@[simp] theorem execDispatchIssue_registers (s : State) : registersAfter (execDispatchIssue s) = some s.cfg := by
  simp only [execDispatchIssue]
  split <;> simp
@[simp] theorem execGpioCaptureEdge_registers (second) (rising) (s : State) :
    registersAfter (execGpioCaptureEdge second rising s) = some s.cfg := by
  simp [execGpioCaptureEdge]

namespace State

@[simp] theorem frameIn_cfg (p) (len) (s : State) : (s.frameIn p len).cfg = s.cfg := by simp [frameIn]

end State

@[simp] theorem execPtpEventRx_registers (p) (latency) (len) (s : State) :
    registersAfter (execPtpEventRx p latency len s) = some s.cfg := by
  simp [execPtpEventRx]
@[simp] theorem execPtpEventTx_registers (p) (sent) (s : State) :
    registersAfter (execPtpEventTx p sent s) = some s.cfg := by
  simp [execPtpEventTx]
@[simp] theorem execAnnounceLoss_registers (s : State) : registersAfter (execAnnounceLoss s) = some s.cfg := by
  simp [execAnnounceLoss]
@[simp] theorem execAnnounceRx_registers (s : State) : registersAfter (execAnnounceRx s) = some s.cfg := by
  simp [execAnnounceRx]
@[simp] theorem execPtpMasterChange_registers (s : State) : registersAfter (execPtpMasterChange s) = some s.cfg := by
  simp [execPtpMasterChange]
@[simp] theorem execPtpResume_registers (v) (s : State) : registersAfter (execPtpResume v s) = some s.cfg := by
  simp [execPtpResume]
@[simp] theorem execMerTimeFracRead_registers (s : State) : registersAfter (execMerTimeFracRead s) = some s.cfg := by
  simp [execMerTimeFracRead]

/-! ## Press -/


namespace State

@[simp] theorem settleOk_cfg (s : State) : (s.settleOk).cfg = s.cfg := by simp [settleOk]
@[simp] theorem pulse_cfg (parity) (s : State) : (s.pulse parity).cfg = s.cfg := by simp [pulse]
@[simp] theorem decideAnchor_cfg (a) (s : State) : (s.decideAnchor a).cfg = s.cfg := by
  simp only [decideAnchor]
  split
  · simp
  · split
    · simp
    · split <;> simp
@[simp] theorem decideSheets_cfg (s : State) : (s.decideSheets).cfg = s.cfg := by simp [decideSheets]
@[simp] theorem pruneAnchors_cfg (s : State) : (s.pruneAnchors).cfg = s.cfg := by simp [pruneAnchors]
@[simp] theorem addAnchor_cfg (sheet) (pe) (y) (s : State) : (s.addAnchor sheet pe y).cfg = s.cfg := by
  simp only [addAnchor]
  split <;> simp
@[simp] theorem notReady_cfg (pe) (s : State) : (s.notReady pe).cfg = s.cfg := by simp [notReady]
@[simp] theorem skipSheet_cfg (pe) (y) (s : State) : (s.skipSheet pe y).cfg = s.cfg := by simp [skipSheet]
@[simp] theorem takeSheet_cfg (pe) (y) (s : State) : (s.takeSheet pe y).cfg = s.cfg := by
  simp only [takeSheet]
  split
  · simp
  · split
    · simp
    · split <;> simp
@[simp] theorem sheetFedEdge_cfg (pe) (s : State) : (s.sheetFedEdge pe).cfg = s.cfg := by
  simp only [sheetFedEdge]
  split
  · simp
  · split <;> simp
@[simp] theorem virtualDue_cfg (pe) (y) (s : State) : (s.virtualDue pe y).cfg = s.cfg := by
  simp only [virtualDue]
  split
  · split <;> simp
  · simp
@[simp] theorem moveAnchor_cfg (a) (pe) (y) (s : State) : (s.moveAnchor a pe y).cfg = s.cfg := by simp [moveAnchor]
@[simp] theorem webReanchor_cfg (pe) (next) (s : State) : (s.webReanchor pe next).cfg = s.cfg := by
  simp only [webReanchor]
  split <;> simp
@[simp] theorem webEdgeAt_cfg (pe) (s : State) : (s.webEdgeAt pe).cfg = s.cfg := by
  simp only [webEdgeAt]
  split <;> simp
@[simp] theorem virtualSheets_cfg (n) (s : State) : (s.virtualSheets n).cfg = s.cfg := by
  induction n generalizing s with
  | zero => rfl
  | succ n ih =>
    rw [virtualSheets]
    split
    · split
      · exact (ih _).trans (virtualDue_cfg ..)
      · rfl
    · rfl
@[simp] theorem anchorEdge_cfg (s : State) : (s.anchorEdge).cfg = s.cfg := by simp [anchorEdge]

end State

@[simp] theorem execSheetEdge_registers (edge) (s : State) : registersAfter (execSheetEdge edge s) = some s.cfg := by
  simp [execSheetEdge]
@[simp] theorem execSheetEdgeCapture_registers (input) (s : State) :
    registersAfter (execSheetEdgeCapture input s) = some s.cfg := by
  simp [execSheetEdgeCapture]
@[simp] theorem execPressRunChange_registers (level) (s : State) :
    registersAfter (execPressRunChange level s) = some s.cfg := by
  simp [execPressRunChange]
@[simp] theorem execRejectPulseEnd_registers (s : State) : registersAfter (execRejectPulseEnd s) = some s.cfg := by
  simp [execRejectPulseEnd]
@[simp] theorem execPinCheckFault_registers (_pin) (s : State) :
    registersAfter (execPinCheckFault _pin s) = some s.cfg := by
  simp [execPinCheckFault]

/-! ## Heliostat -/


namespace State

@[simp] theorem encoderError_cfg (m) (code) (s : State) : (s.encoderError m code).cfg = s.cfg := by
  simp only [encoderError]
  split <;> simp
@[simp] theorem countRows_cfg (h0) (h1) (s : State) : (s.countRows h0 h1).cfg = s.cfg := by simp [countRows]
@[simp] theorem rowEvents_cfg (p) (n) (x) (s : State) : (s.rowEvents p n x).cfg = s.cfg := by
  induction n generalizing x s with
  | zero => rfl
  | succ n ih =>
    rw [rowEvents]
    split
    · rfl
    · split
      · rfl
      · simp [ih]
@[simp] theorem feedLost_cfg (s : State) : (s.feedLost).cfg = s.cfg := by
  simp only [feedLost]
  split
  · split
    · split <;> simp
    · rfl
  · rfl
@[simp] theorem markRaised_cfg (m) (h0) (s : State) : (s.markRaised m h0).cfg = s.cfg := by simp [markRaised]
@[simp] theorem reverseCheck_cfg (m) (s : State) : (s.reverseCheck m).cfg = s.cfg := by simp [reverseCheck]
@[simp] theorem countStep_cfg (m) (d) (s : State) : (s.countStep m d).cfg = s.cfg := by simp [countStep]
@[simp] theorem encoderStep_cfg (m) (a) (b) (disagree) (s : State) : (s.encoderStep m a b disagree).cfg = s.cfg := by
  simp [encoderStep]
@[simp] theorem slowUpdate_cfg (s : State) : (s.slowUpdate).cfg = s.cfg := by simp [slowUpdate]
@[simp] theorem takeRecord_cfg (m) (r) (s : State) : (s.takeRecord m r).cfg = s.cfg := by
  simp only [takeRecord]
  split <;> simp
@[simp] theorem clearHistory_cfg (m) (s : State) : (s.clearHistory m).cfg = s.cfg := by simp [clearHistory]
@[simp] theorem startFeed_cfg (p) (s : State) : (s.startFeed p).cfg = s.cfg := by simp [startFeed]

end State

@[simp] theorem execEncoderTransition_registers (m) (levels) (disagree) (s : State) :
    registersAfter (execEncoderTransition m levels disagree s) = some s.cfg := by
  simp [execEncoderTransition]
@[simp] theorem execEncoderZEdge_registers (m) (s : State) : registersAfter (execEncoderZEdge m s) = some s.cfg := by
  simp [execEncoderZEdge]
@[simp] theorem execEncoderIdleTimeout_registers (m) (s : State) :
    registersAfter (execEncoderIdleTimeout m s) = some s.cfg := by
  simp [execEncoderIdleTimeout]
@[simp] theorem execEstimatorRecord_registers (m) (disagree) (s : State) :
    registersAfter (execEstimatorRecord m disagree s) = some s.cfg := by
  simp only [execEstimatorRecord]
  split <;> simp
@[simp] theorem execEstimatorHistoryClear_registers (m) (s : State) :
    registersAfter (execEstimatorHistoryClear m s) = some s.cfg := by
  simp [execEstimatorHistoryClear]
@[simp] theorem execFeedStart_registers (s : State) : registersAfter (execFeedStart s) = some s.cfg := by
  simp only [execFeedStart]
  split
  · simp
  · split <;> simp
@[simp] theorem execFeedComplete_registers (s : State) : registersAfter (execFeedComplete s) = some s.cfg := by
  simp only [execFeedComplete]
  split <;> simp

/-! ## Eyepiece -/


namespace State

@[simp] theorem startCci_cfg (c) (s : State) : (s.startCci c).cfg = s.cfg := by
  simp only [startCci]
  split
  · rfl
  · split <;> simp
@[simp] theorem noteSlices_cfg (c) (ended) (s : State) : (s.noteSlices c ended).cfg = s.cfg := by
  simp only [noteSlices]
  split <;> simp
@[simp] theorem writeRaw_cfg (c) (f) (line) (px) (s : State) : (s.writeRaw c f line px).cfg = s.cfg := by simp [writeRaw]
@[simp] theorem addLine_cfg (c) (px) (s : State) : (s.addLine c px).cfg = s.cfg := by
  simp only [addLine]
  split <;> simp
@[simp] theorem fillLines_cfg (c) (n) (s : State) : (s.fillLines c n).cfg = s.cfg := by
  induction n generalizing s with
  | zero => rfl
  | succ n ih => exact (ih _).trans (addLine_cfg ..)
@[simp] theorem camData_cfg (c) (s : State) : (s.camData c).cfg = s.cfg := by simp [camData]
@[simp] theorem takeImage_cfg (c) (f) (s : State) : (s.takeImage c f).1.cfg = s.cfg := by
  simp only [takeImage]
  split <;> simp
@[simp] theorem processLines_cfg (c) (f) (y) (lines) (s : State) : (s.processLines c f y lines).1.cfg = s.cfg := by
  unfold processLines
  extract_lets r x g t out bytes per stored
  have hr : r.1.cfg = s.cfg := takeImage_cfg ..
  have hg : g.1.cfg = s.cfg := by
    simp only [g]
    split
    · exact cfg_fst ((spoolGet_cfg ..).trans hr)
    · exact hr
  have ht : t.cfg = s.cfg := by simp [t, hg]
  have hstored : stored.cfg = s.cfg := by
    simp only [stored]
    split
    · exact ht
    · exact (spoolPut_cfg ..).trans ht
  exact cfg_fst hstored
@[simp] theorem endFrame_cfg (c) (s : State) : (s.endFrame c).cfg = s.cfg := by
  simp only [endFrame]
  split
  · rfl
  · split <;> simp
@[simp] theorem frameSets_cfg (c) (no) (s : State) : (s.frameSets c no).cfg = s.cfg := by simp [frameSets]
@[simp] theorem openFrame_cfg (c) (s : State) : (s.openFrame c).cfg = s.cfg := by simp [openFrame]
@[simp] theorem countPacket_cfg (c) (s : State) : (s.countPacket c).cfg = s.cfg := by simp [countPacket]
@[simp] theorem orphan_cfg (c) (s : State) : (s.orphan c).cfg = s.cfg := by simp [orphan]
@[simp] theorem flag_cfg (c) (x) (s : State) : (s.flag c x).cfg = s.cfg := by simp [flag]
@[simp] theorem header_cfg (c) (h) (s : State) : (s.header c h).1.cfg = s.cfg := by
  simp only [header]
  split
  · simp
  · split <;> simp
@[simp] theorem takeLine_cfg (c) (pixels) (crcOk) (lost) (s : State) : (s.takeLine c pixels crcOk lost).cfg = s.cfg := by
  simp only [takeLine]
  split <;> simp
@[simp] theorem processSlice_cfg (c) (f) (s : State) : (s.processSlice c f).cfg = s.cfg := by
  unfold processSlice
  extract_lets n row r lines t g p u
  have hr : r.1.cfg = s.cfg := spoolGet_cfg ..
  have ht : t.cfg = s.cfg := by simp [t, hr]
  have hp : p.1.cfg = s.cfg := (processLines_cfg ..).trans ht
  have hu : u.cfg = s.cfg := (onEye_cfg ..).trans hp
  split
  · split
    · exact (onCam_cfg ..).trans hu
    · exact (onCam_cfg ..).trans hu
  · exact (onCam_cfg ..).trans hu
@[simp] theorem lostSum_cfg (c) (k) (x) (s : State) : (s.lostSum c k x).cfg = s.cfg := by simp [lostSum]
@[simp] theorem writeRecord_cfg (c) (f) (s : State) : (s.writeRecord c f).cfg = s.cfg := by
  simp only [writeRecord]
  split
  · rw [status_cfg, onCam_cfg, onFree_cfg, spoolPut_cfg]
  · rw [pairTap_cfg, status_cfg, onCam_cfg, onFree_cfg, spoolPut_cfg]
@[simp] theorem camStop_cfg (c) (s : State) : (s.camStop c).cfg = s.cfg := by simp [camStop]
@[simp] theorem camStart_cfg (c) (s : State) : (s.camStart c).cfg = s.cfg := by simp [camStart]

end State

@[simp] theorem execCsiFrameStart_registers (c) (h) (s : State) :
    registersAfter (execCsiFrameStart c h s) = some s.cfg := by
  simp [execCsiFrameStart]
@[simp] theorem execCsiLine_registers (c) (h) (pixels) (fate) (s : State) :
    registersAfter (execCsiLine c h pixels fate s) = some s.cfg := by
  simp [execCsiLine]
@[simp] theorem execCsiFrameEnd_registers (c) (h) (s : State) : registersAfter (execCsiFrameEnd c h s) = some s.cfg := by
  simp [execCsiFrameEnd]
@[simp] theorem execMemorySliceProcess_registers (s : State) :
    registersAfter (execMemorySliceProcess s) = some s.cfg := by
  simp only [execMemorySliceProcess]
  split
  · simp
  · split <;> simp
@[simp] theorem execRecordWritten_registers (record) (s : State) :
    registersAfter (execRecordWritten record s) = some s.cfg := by
  simp only [execRecordWritten]
  split <;> simp
@[simp] theorem execCameraNoFsTimeout_registers (c) (s : State) :
    registersAfter (execCameraNoFsTimeout c s) = some s.cfg := by
  simp [execCameraNoFsTimeout]
@[simp] theorem execCciTransferDone_registers (c) (acked) (data) (s : State) :
    registersAfter (execCciTransferDone c acked data s) = some s.cfg := by
  simp only [execCciTransferDone]
  split <;> simp

/-! ## Functions -/


namespace State

@[simp] theorem stopPort_cfg (gap) (p) (s : State) : (s.stopPort gap p).cfg = s.cfg := by simp [stopPort]
@[simp] theorem stopBar_cfg (gap) (k) (s : State) : (s.stopBar gap k).cfg = s.cfg := by simp [stopBar]
@[simp] theorem stopCam_cfg (c) (s : State) : (s.stopCam c).cfg = s.cfg := by simp [stopCam]
@[simp] theorem stopAxis_cfg (x) (s : State) : (s.stopAxis x).cfg = s.cfg := by simp [stopAxis]
@[simp] theorem rejectBegun_cfg (sh) (s : State) : (s.rejectBegun sh).cfg = s.cfg := by simp [rejectBegun]
@[simp] theorem stopTimebase_cfg (s : State) : (s.stopTimebase).cfg = s.cfg := by simp [stopTimebase]
@[simp] theorem stopOne_cfg (gap) (f) (s : State) : (s.stopOne gap f).cfg = s.cfg := by
  simp only [stopOne]
  split <;> simp
@[simp] theorem stopFn_cfg (f) (gap) (s : State) : (s.stopFn f gap).cfg = s.cfg := by simp [stopFn]
@[simp] theorem dropReq_cfg (q) (s : State) : (s.dropReq q).cfg = s.cfg := by simp [dropReq]
@[simp] theorem addReq_cfg (q) (s : State) : (s.addReq q).cfg = s.cfg := by simp [addReq]
@[simp] theorem stopEffect_cfg (q) (s : State) : (s.stopEffect q).cfg = s.cfg := by simp [stopEffect]
@[simp] theorem finishStop_cfg (q) (s : State) : (s.finishStop q).cfg = s.cfg := by
  rw [finishStop, done_cfg, dropReq_cfg]
  exact forEach_cfg _ _ _ fun _ _ => rfl
@[simp] theorem refuseRestart_cfg (q) (x) (s : State) : (s.refuseRestart q x).cfg = s.cfg := by simp [refuseRestart]
@[simp] theorem awaitLedger_cfg (q) (l) (s : State) : (s.awaitLedger q l).cfg = s.cfg := by simp [awaitLedger]
@[simp] theorem restartBegins_cfg (q) (l) (s : State) : (s.restartBegins q l).cfg = s.cfg := by
  have hbusy := forEach_cfg l (fun f u => u.onFn f fun x => { x with busy := true }) s fun _ _ => rfl
  simp [restartBegins, hbusy]
@[simp] theorem clearAbsent_cfg (s : State) : (s.clearAbsent).cfg = s.cfg := by simp [clearAbsent]
@[simp] theorem engineFails_cfg (i) (s : State) : (s.engineFails i).cfg = s.cfg := by simp [engineFails]
@[simp] theorem promoteDropped_cfg (k) (x) (s : State) : (s.promoteDropped k x).cfg = s.cfg := by simp [promoteDropped]
@[simp] theorem applyRemaps_cfg (f) (s : State) : (s.applyRemaps f).cfg = s.cfg := by simp [applyRemaps]
@[simp] theorem retireEngines_cfg (s : State) : (s.retireEngines).cfg = s.cfg := by simp [retireEngines]
@[simp] theorem joinRow_cfg (p) (s : State) : (s.joinRow p).cfg = s.cfg := by simp [joinRow]
@[simp] theorem startPort_cfg (p) (s : State) : (s.startPort p).cfg = s.cfg := by simp [startPort]
@[simp] theorem startAxis_cfg (x) (s : State) : (s.startAxis x).cfg = s.cfg := by simp [startAxis]
@[simp] theorem resetLanding_cfg (x) (s : State) : (s.resetLanding x).cfg = s.cfg := by
  simp only [resetLanding]
  split <;> simp
@[simp] theorem spoolReset_cfg (new) (s : State) : (s.spoolReset new).cfg = s.cfg := by simp [spoolReset]
@[simp] theorem startSpool_cfg (s : State) : (s.startSpool).cfg = s.cfg := by
  simp only [startSpool]
  split <;> simp
@[simp] theorem runFn_cfg (f) (s : State) : (s.runFn f).cfg = s.cfg := by simp [runFn]
@[simp] theorem unbusy_cfg (f) (s : State) : (s.unbusy f).cfg = s.cfg := by simp [unbusy]

end State

@[simp] theorem execFunctionStopComplete_registers (f) (s : State) :
    registersAfter (execFunctionStopComplete f s) = some s.cfg := by
  simp only [execFunctionStopComplete]
  split <;> simp

/-! ## Mailbox -/


namespace State

@[simp] theorem program_cfg (x) (skip) (s : State) : (s.program x skip).cfg = s.cfg := by simp [program]
@[simp] theorem recoverFlash_cfg (s : State) : (s.recoverFlash).cfg = s.cfg := by simp [recoverFlash]
@[simp] theorem served_cfg (s : State) : (s.served).cfg = s.cfg := by simp [served]
@[simp] theorem mbFail_cfg (r) (e) (cause) (s : State) : (s.mbFail r e cause).cfg = s.cfg := by simp [mbFail]
@[simp] theorem mbDone_cfg (r) (e) (value) (reply) (s : State) : (s.mbDone r e value reply).cfg = s.cfg := by simp [mbDone]
@[simp] theorem mbRun_cfg (r) (e) (args) (cond) (body) (value) (s : State) (h : ∀ t, (body t).cfg = t.cfg) :
    (s.mbRun r e args cond body value).cfg = s.cfg := by
  simp [mbRun, h]
@[simp] theorem mbReply_cfg (r) (e) (args) (reply) (s : State) : (s.mbReply r e args reply).cfg = s.cfg := by simp [mbReply]
@[simp] theorem mailbox_cfg (msg) (body) (r) (s : State) (h : ∀ r e t, (body r e t).cfg = t.cfg) :
    (s.mailbox msg body r).cfg = s.cfg :=
  runEntry_cfg _ _ _ _ _ fun e t => by split <;> simp [h]
@[simp] theorem clearLedger_cfg (kind) (unit) (s : State) : (s.clearLedger kind unit).cfg = s.cfg := by simp [clearLedger]
@[simp] theorem snapshot_cfg (r) (e) (s : State) : (s.snapshot r e).cfg = s.cfg := by simp [snapshot]

end State

@[simp] theorem execVersion_registers (r) (s : State) : registersAfter (execVersion r s) = some s.cfg := by
  simp [execVersion]
@[simp] theorem execLedgerClear_registers (r) (s : State) : registersAfter (execLedgerClear r s) = some s.cfg := by
  simp [execLedgerClear]
@[simp] theorem execLedgerRead_registers (r) (s : State) : registersAfter (execLedgerRead r s) = some s.cfg := by
  simp [execLedgerRead]
@[simp] theorem execHealthSnapshot_registers (r) (s : State) : registersAfter (execHealthSnapshot r s) = some s.cfg := by
  simp [execHealthSnapshot]
@[simp] theorem execServiceState_registers (r) (s : State) : registersAfter (execServiceState r s) = some s.cfg :=
  congrArg some (State.mailbox_cfg _ _ _ _ fun _ _ _ => State.mbRun_cfg _ _ _ _ _ _ _ fun _ => rfl)
@[simp] theorem execRollbackCommit_registers (r) (s : State) : registersAfter (execRollbackCommit r s) = some s.cfg :=
  congrArg some (State.mailbox_cfg _ _ _ _ fun _ _ _ => State.mbRun_cfg _ _ _ _ _ _ _ fun _ => rfl)
@[simp] theorem execEcho_registers (r) (s : State) : registersAfter (execEcho r s) = some s.cfg := by simp [execEcho]

/-! ## Counters -/


namespace State

@[simp] theorem loseSample_cfg (s : State) : (s.loseSample).cfg = s.cfg := by simp [loseSample]
@[simp] theorem wrapCounter_cfg (n) (s : State) : (s.wrapCounter n).cfg = s.cfg := by simp [wrapCounter]
@[simp] theorem takeSample_cfg (n) (offset) (task) (skid) (s : State) :
    (s.takeSample n offset task skid).cfg = s.cfg := by
  simp only [takeSample]
  split <;> simp
@[simp] theorem endWindow_cfg (m) (s : State) : (s.endWindow m).cfg = s.cfg := by simp [endWindow]

end State

@[simp] theorem execPmcCounterWrap_registers (n) (s : State) : registersAfter (execPmcCounterWrap n s) = some s.cfg := by
  simp [execPmcCounterWrap]
@[simp] theorem execPmcSampleTaken_registers (n) (offset) (task) (skid) (s : State) :
    registersAfter (execPmcSampleTaken n offset task skid s) = some s.cfg := by
  simp [execPmcSampleTaken]
@[simp] theorem execBwWindowEnd_registers (m) (s : State) : registersAfter (execBwWindowEnd m s) = some s.cfg := by
  simp [execBwWindowEnd]

/-! ## Ethernet -/


namespace State

@[simp] theorem btDrop_cfg (p) (g) (s : State) : (s.btDrop p g).cfg = s.cfg := by simp [btDrop]
@[simp] theorem dropFormat_cfg (p) (s : State) : (s.dropFormat p).cfg = s.cfg := by simp [dropFormat]
@[simp] theorem dropCrc_cfg (p) (s : State) : (s.dropCrc p).cfg = s.cfg := by simp [dropCrc]
@[simp] theorem dropNoSpace_cfg (p) (s : State) : (s.dropNoSpace p).cfg = s.cfg := by simp [dropNoSpace]
@[simp] theorem dropDup_cfg (p) (s : State) : (s.dropDup p).cfg = s.cfg := by simp [dropDup]
@[simp] theorem onTracker_cfg (key) (g) (s : State) : (s.onTracker key g).cfg = s.cfg := by simp [onTracker]
@[simp] theorem btAnswer_cfg (p) (source) (key) (code) (s : State) : (s.btAnswer p source key code).cfg = s.cfg := by
  simp [btAnswer]
@[simp] theorem openTracker_cfg (p) (source) (m) (s : State) : (s.openTracker p source m).cfg = s.cfg := by
  simp [openTracker]
@[simp] theorem writeFragment_cfg (p) (source) (m) (t) (s : State) : (s.writeFragment p source m t).cfg = s.cfg := by
  simp only [writeFragment]
  split
  · simp
  · split
    · simp
    · split <;> simp
@[simp] theorem btData_cfg (p) (source) (m) (s : State) : (s.btData p source m).cfg = s.cfg := by
  simp only [btData]
  split
  · simp
  · split
    · simp
    · split
      · simp
      · split
        · simp
        · simp
          split
          · simp
          · simp
            split <;> simp
@[simp] theorem sendNak_cfg (t) (s : State) : (s.sendNak t).cfg = s.cfg := by simp [sendNak]
@[simp] theorem abandon_cfg (t) (s : State) : (s.abandon t).cfg = s.cfg := by simp [abandon]
@[simp] theorem btGap_cfg (key) (s : State) : (s.btGap key).cfg = s.cfg := by
  simp only [btGap]
  split <;> simp

end State

@[simp] theorem execBtDataRx_registers (p) (source) (msg) (s : State) :
    registersAfter (execBtDataRx p source msg s) = some s.cfg := by
  simp [execBtDataRx]
@[simp] theorem execBtGapTimeout_registers (job) (plane) (band) (s : State) :
    registersAfter (execBtGapTimeout job plane band s) = some s.cfg := by
  simp [execBtGapTimeout]
@[simp] theorem execFirmwareFrameRx_registers (p) (withinRate) (len) (s : State) :
    registersAfter (execFirmwareFrameRx p withinRate len s) = some s.cfg := by
  simp [execFirmwareFrameRx]
@[simp] theorem execEthLinkLoss_registers (p) (s : State) : registersAfter (execEthLinkLoss p s) = some s.cfg := by
  simp [execEthLinkLoss]
@[simp] theorem execEthLinkUp_registers (p) (s : State) : registersAfter (execEthLinkUp p s) = some s.cfg := by
  simp [execEthLinkUp]
@[simp] theorem execEthBtCntRead_registers (p) (s : State) : registersAfter (execEthBtCntRead p s) = some s.cfg := by
  simp [execEthBtCntRead]

/-! ## Patches -/


namespace State

@[simp] theorem storePatch_cfg (q) (s : State) : (s.storePatch q).cfg = s.cfg := by simp [storePatch]
@[simp] theorem latePatch_cfg (q) (s : State) : (s.latePatch q).cfg = s.cfg := by simp [latePatch]
@[simp] theorem offerPatch_cfg (r) (e) (q) (s : State) : (s.offerPatch r e q).cfg = s.cfg := by simp [offerPatch]
@[simp] theorem overlayPatch_cfg (r) (e) (payload) (s : State) : (s.overlayPatch r e payload).cfg = s.cfg := by
  simp only [overlayPatch]
  split
  · simp
  · split
    · simp
    · split
      · simp
      · split <;> simp
@[simp] theorem retryPatch_cfg (r) (s : State) : (s.retryPatch r).cfg = s.cfg := by
  simp only [retryPatch]
  split <;> simp
@[simp] theorem settleHold_cfg (s : State) : (s.settleHold).cfg = s.cfg := by simp [settleHold]
@[simp] theorem watchHold_cfg (f) (s : State) (h : ∀ t, (f t).cfg = t.cfg) : (s.watchHold f).cfg = s.cfg := by
  simp [watchHold, h]
@[simp] theorem overlayReject_cfg (l) (s : State) : (s.overlayReject l).cfg = s.cfg := by simp [overlayReject]
@[simp] theorem overlayLoss_cfg (s : State) : (s.overlayLoss).cfg = s.cfg := by simp [overlayLoss]
@[simp] theorem badItem_cfg (code) (s : State) : (s.badItem code).cfg = s.cfg := by simp [badItem]
@[simp] theorem endLoss_cfg (id) (s : State) : (s.endLoss id).cfg = s.cfg := by simp [endLoss]
@[simp] theorem overlayWord_cfg (d) (soi) (s : State) : (s.overlayWord d soi).cfg = s.cfg := by simp [overlayWord]
@[simp] theorem startFlush_cfg (s : State) : (s.startFlush).cfg = s.cfg := by simp [startFlush]
@[simp] theorem pointerFault_cfg (s : State) : (s.pointerFault).cfg = s.cfg := by simp [pointerFault]
@[simp] theorem overlayRemaps_cfg (s : State) : (s.overlayRemaps).cfg = s.cfg := by simp [overlayRemaps]
@[simp] theorem commitOverlay_cfg (s : State) : (s.commitOverlay).cfg = s.cfg := by simp [commitOverlay]
@[simp] theorem endFlush_cfg (s : State) : (s.endFlush).cfg = s.cfg := by simp [endFlush]
@[simp] theorem finishItem_cfg (s : State) : (s.finishItem).cfg = s.cfg := by
  simp only [finishItem]
  split
  · simp
  · split
    · simp
    · split <;> simp
@[simp] theorem takeWord_cfg (w) (s : State) : (s.takeWord w).cfg = s.cfg := by simp [takeWord]
@[simp] theorem readWord_cfg (s : State) : (s.readWord).cfg = s.cfg := by
  simp only [readWord]
  split <;> simp
@[simp] theorem lostWord_cfg (s : State) : (s.lostWord).cfg = s.cfg := by simp [lostWord]

end State

@[simp] theorem execOverlayPatch_registers (r) (payload) (s : State) :
    registersAfter (execOverlayPatch r payload s) = some s.cfg := by
  simp [execOverlayPatch]
@[simp] theorem execPatchAccept_registers (src) (s : State) : registersAfter (execPatchAccept src s) = some s.cfg := by
  simp only [execPatchAccept]
  split
  · simp
  · split <;> simp
@[simp] theorem execOverlayInputWord_registers (d) (soi) (mismatch) (s : State) :
    registersAfter (execOverlayInputWord d soi mismatch s) = some s.cfg := by
  simp [execOverlayInputWord]
@[simp] theorem execOverlayItemRead_registers (mismatch) (s : State) :
    registersAfter (execOverlayItemRead mismatch s) = some s.cfg := by
  simp [execOverlayItemRead]
@[simp] theorem execOvlFlush_registers (v) (s : State) : registersAfter (execOvlFlush v s) = some s.cfg := by
  simp [execOvlFlush]
@[simp] theorem execOvlFlushDone_registers (s : State) : registersAfter (execOvlFlushDone s) = some s.cfg := by
  simp [execOvlFlushDone]

/-! ## SpoolCtl -/


namespace State

@[simp] theorem remapSram_cfg (g) (row) (region) (s : State) : (s.remapSram g row region).cfg = s.cfg := by simp [remapSram]
@[simp] theorem lostDiffusion_cfg (k) (s : State) : (s.lostDiffusion k).cfg = s.cfg := by
  simp only [lostDiffusion]
  split
  · rfl
  · split <;> simp
@[simp] theorem lostCheck_cfg (k) (s : State) : (s.lostCheck k).cfg = s.cfg := by
  simp only [lostCheck]
  split <;> simp
@[simp] theorem lostSlot_cfg (p) (s : State) : (s.lostSlot p).cfg = s.cfg := by
  simp only [lostSlot]
  split
  · rfl
  · split <;> simp
@[simp] theorem lostWindow_cfg (l) (s : State) : (s.lostWindow l).cfg = s.cfg := by
  simp only [lostWindow]
  split <;> simp
@[simp] theorem lostLines_cfg (c) (s : State) : (s.lostLines c).cfg = s.cfg := by simp [lostLines]
@[simp] theorem lostTap_cfg (k) (c) (s : State) : (s.lostTap k c).cfg = s.cfg := by simp [lostTap]
@[simp] theorem sramLost_cfg (region) (s : State) : (s.sramLost region).cfg = s.cfg := by
  simp only [sramLost]
  split <;> simp
@[simp] theorem scrubWord_cfg (g) (region) (find) (s : State) : (s.scrubWord g region find).cfg = s.cfg := by
  simp only [scrubWord]
  split
  · split
    · split
      · split <;> simp
      · split <;> simp
    · split <;> simp
  · split
    · split
      · split <;> simp
      · split <;> simp
    · split <;> simp
@[simp] theorem serve_cfg (c) (q) (upset) (s : State) : (s.serve c q upset).cfg = s.cfg := by simp [serve]
@[simp] theorem issueRead_cfg (c) (upset) (s : State) : (s.issueRead c upset).cfg = s.cfg := by
  simp only [issueRead]
  split
  · rfl
  · split <;> simp
@[simp] theorem enterSelfRefresh_cfg (c) (s : State) : (s.enterSelfRefresh c).cfg = s.cfg := by simp [enterSelfRefresh]

end State

@[simp] theorem execSpoolRequestServe_registers (c) (upset) (s : State) :
    registersAfter (execSpoolRequestServe c upset s) = some s.cfg := by
  simp [execSpoolRequestServe]
@[simp] theorem execHbmScrubRead_registers (c) (upset) (writeSince) (s : State) :
    registersAfter (execHbmScrubRead c upset writeSince s) = some s.cfg := by
  simp [execHbmScrubRead]
@[simp] theorem execSramScrubRead_registers (g) (region) (find) (_writeSince) (s : State) :
    registersAfter (execSramScrubRead g region find _writeSince s) = some s.cfg := by
  simp [execSramScrubRead]
@[simp] theorem execBucketLeak_registers (b) (s : State) : registersAfter (execBucketLeak b s) = some s.cfg := by
  simp only [execBucketLeak]
  split
  · simp
  · split <;> simp
@[simp] theorem execSelfRefreshEntry_registers (c) (s : State) :
    registersAfter (execSelfRefreshEntry c s) = some s.cfg := by
  simp [execSelfRefreshEntry]
@[simp] theorem execScrubWake_registers (c) (s : State) : registersAfter (execScrubWake c s) = some s.cfg := by
  simp [execScrubWake]
@[simp] theorem execCaParityAlert_registers (c) (failures) (s : State) :
    registersAfter (execCaParityAlert c failures s) = some s.cfg := by
  simp only [execCaParityAlert]
  split
  · simp
  · split
    · simp
    · split <;> simp

/-! ## HostAccess -/


namespace State

@[simp] theorem scrambleStaged_cfg (s : State) : (s.scrambleStaged).cfg = s.cfg := by simp [scrambleStaged]
@[simp] theorem bar4Store_cfg (a) (bs) (s : State) : (s.bar4Store a bs).cfg = s.cfg := by simp [bar4Store]
@[simp] theorem setPower_cfg (n) (s : State) : (s.setPower n).cfg = s.cfg := by simp [setPower]
@[simp] theorem trigRises_cfg (s : State) (t : State) (c) (u : State) : (s.trigRises t c u).cfg = u.cfg := by
  simp [trigRises]
@[simp] theorem gpioHeld_cfg (s : State) (set) : (s.gpioHeld set).cfg = s.cfg := by simp [gpioHeld]
@[simp] theorem writeSdrStatus_cfg (v) (s : State) : (s.writeSdrStatus v).cfg = s.cfg := by simp [writeSdrStatus]
@[simp] theorem writeTrip_cfg (v) (s : State) : (s.writeTrip v).cfg = s.cfg := by simp [writeTrip]
@[simp] theorem writeSafe_cfg (v) (s : State) : (s.writeSafe v).cfg = s.cfg := by simp [writeSafe]
@[simp] theorem writeOvlStatus_cfg (v) (s : State) : (s.writeOvlStatus v).cfg = s.cfg := by simp [writeOvlStatus]
@[simp] theorem writeOvlCtrl_cfg (v) (s : State) : (s.writeOvlCtrl v).cfg = s.cfg := by simp [writeOvlCtrl]
@[simp] theorem writeCounter_cfg (n) (hi) (v) (s : State) : (s.writeCounter n hi v).cfg = s.cfg := by simp [writeCounter]
@[simp] theorem clearOvf_cfg (n) (v) (s : State) : (s.clearOvf n v).cfg = s.cfg := by simp [clearOvf]
@[simp] theorem sideClear_cfg (off) (v) (s : State) : (s.sideClear off v).cfg = s.cfg := by
  simp only [sideClear]
  split
  · split <;> simp
  · rfl
@[simp] theorem badBar0_cfg (s : State) : (s.badBar0).cfg = s.cfg := by simp [badBar0]
@[simp] theorem bar0Read_cfg (off) (s : State) : (s.bar0Read off).1.cfg = s.cfg := by simp [bar0Read]
@[simp] theorem bar4Get_cfg (o) (len) (s : State) : (s.bar4Get o len).cfg = s.cfg := by
  simp only [bar4Get]
  split
  · simp
  · split
    · split <;> simp
    · split <;> simp
@[simp] theorem bar4Put_cfg (o) (bs) (s : State) : (s.bar4Put o bs).cfg = s.cfg := by simp [bar4Put]

end State

@[simp] theorem execSnapshotLoRead_registers (read) (s : State) :
    registersAfter (execSnapshotLoRead read s) = some s.cfg := by
  simp [execSnapshotLoRead]
@[simp] theorem execBarBadAccess_registers (a) (s : State) : registersAfter (execBarBadAccess a s) = some s.cfg := by
  simp only [execBarBadAccess]
  split
  · simp
  · split <;> simp
@[simp] theorem execBar4Read_registers (addr) (len) (s : State) :
    registersAfter (execBar4Read addr len s) = some s.cfg := by
  simp [execBar4Read]
@[simp] theorem execBar4Write_registers (addr) (data) (s : State) :
    registersAfter (execBar4Write addr data s) = some s.cfg := by
  simp [execBar4Write]

/-! ## HostLink -/


namespace State

@[simp] theorem dropCompress_cfg (r) (e) (s : State) : (s.dropCompress r e).cfg = s.cfg := by simp [dropCompress]
@[simp] theorem abortEntry_cfg (r) (e) (code) (s : State) : (s.abortEntry r e code).cfg = s.cfg := by
  simp only [abortEntry]
  split <;> simp
@[simp] theorem loseRing_cfg (r) (s : State) : (s.loseRing r).cfg = s.cfg := by simp [loseRing]
@[simp] theorem loseLink_cfg (s : State) : (s.loseLink).cfg = s.cfg := by simp [loseLink]
@[simp] theorem countTimeout_cfg (timeout) (s : State) : (s.countTimeout timeout).cfg = s.cfg := by simp [countTimeout]
@[simp] theorem failAccess_cfg (r) (tag) (timeout) (s : State) : (s.failAccess r tag timeout).cfg = s.cfg := by
  simp only [failAccess]
  split
  · simp
  · split <;> simp
@[simp] theorem accessFails_cfg (a) (s : State) : (s.accessFails a).cfg = s.cfg := by
  simp only [accessFails]
  split <;> simp

end State

@[simp] theorem execLinkLoss_registers (_cause) (s : State) : registersAfter (execLinkLoss _cause s) = some s.cfg := by
  simp [execLinkLoss]
@[simp] theorem execLinkReturn_registers (s : State) : registersAfter (execLinkReturn s) = some s.cfg := by
  simp [execLinkReturn]
@[simp] theorem execHostAccessFail_registers (a) (s : State) : registersAfter (execHostAccessFail a s) = some s.cfg := by
  simp [execHostAccessFail]

/-! ## Tick -/


namespace State

@[simp] theorem levelTick_cfg (old : State) (n) (s : State) : (old.levelTick n s).cfg = s.cfg := by simp [levelTick]
@[simp] theorem clockTick_cfg (s : State) : (s.clockTick).cfg = s.cfg := by simp [clockTick]

end State

end Sys2Proof.Machine
end

section
/-!
The operations and commands that write a stored register keep its canonical form (R12, R31): each one's writes go through
the table's own write, and a reset or a power-on of Sidereal leaves listed registers out.
-/
namespace Sys2Proof.Machine
open Sys2Proof

/-! ## Keeping the form -/

variable {s t : State}

/-- The form speaks of the stored registers alone. -/
theorem CfgForm.congr (h : CfgForm s) (e : t.cfg = s.cfg) : CfgForm t := by rwa [CfgForm, e]

theorem CfgForm.wr (h : CfgForm s) (off : Nat) (v : Word) : CfgForm (s.wr off v) := tableWf_tput (Nat.zero_le off) v h

theorem CfgForm.wrN (h : CfgForm s) (off v : Nat) : CfgForm (s.wrN off v) := h.wr off _

theorem CfgForm.putField (h : CfgForm s) (off lo width v : Nat) : CfgForm (State.putField off lo width v s) := h.wrN off _

theorem CfgForm.filter (h : CfgForm s) (p : Nat × Word → Bool) (e : t.cfg = s.cfg.filter p) : CfgForm t := by
  rw [CfgForm, e]
  exact tableWf_filter p h

theorem CfgForm.ite {c : Prop} [Decidable c] (ht : CfgForm t) (hs : CfgForm s) : CfgForm (if c then t else s) := by
  split <;> assumption

theorem CfgForm.forEach {α : Type} (h : CfgForm s) (l : List α) {g : α → State → State}
    (hg : ∀ a t, CfgForm t → CfgForm (g a t)) : CfgForm (s.forEach l g) := State.forEach_inv CfgForm g hg l s h

/-- The form holds of the state that a command answers with, if it answers with one. -/
def FormAfter (o : Result) : Prop := ∀ t, o = .next t → CfgForm t

theorem CfgForm.after (h : CfgForm s) : FormAfter (.next s) := fun _ e => by cases e; exact h

theorem FormAfter.ite {c : Prop} [Decidable c] {o o' : Result} (h : FormAfter o) (h' : FormAfter o') :
    FormAfter (if c then o else o') := by
  split <;> assumption

/-- The form holds of the state that a write may be answered with. -/
def FormIn (o : Option State) : Prop := ∀ t, o = some t → CfgForm t

theorem formIn_none : FormIn none := fun _ e => by cases e

theorem CfgForm.formIn (h : CfgForm s) : FormIn (some s) := fun _ e => by cases e; exact h

theorem FormIn.ite {c : Prop} [Decidable c] {o o' : Option State} (h : FormIn o) (h' : FormIn o') :
    FormIn (if c then o else o') := by
  split <;> assumption

theorem formIn_bind {α : Type} {x : Option α} {g : α → Option State} (h : ∀ a, FormIn (g a)) :
    FormIn (x.bind g) := by
  cases x with
  | none => exact formIn_none
  | some a => exact h a

theorem formIn_map {α : Type} {x : Option α} {g : α → State} (h : ∀ a, CfgForm (g a)) : FormIn (x.map g) := by
  cases x with
  | none => exact formIn_none
  | some a => exact (h a).formIn

/-- A command that writes no register keeps the form. -/
theorem CfgForm.after_of_registers (h : CfgForm s) {o : Result} (e : registersAfter o = some s.cfg) : FormAfter o := by
  rintro t rfl
  exact h.congr (Option.some.inj e)

namespace State

/-! ## Resets -/

theorem loadMacs_cfgForm (h : CfgForm s) : CfgForm s.loadMacs := h.forEach _ fun _ _ ht => (ht.wrN _ _).wrN _ _

/-- R77: a reset leaves the registers of Sidereal's block. -/
theorem resetCommon_cfg (s : State) : s.resetCommon.cfg = s.cfg.filter fun e => decide (e.1 / 0x100000 = 4) := by
  simp [resetCommon]

theorem resetCommon_cfgForm (h : CfgForm s) : CfgForm s.resetCommon := h.filter _ (resetCommon_cfg s)

theorem coldReset_cfgForm (cause : ResetCause) (hold : Hold) (h : CfgForm s) : CfgForm (s.coldReset cause hold) :=
  (resetCommon_cfgForm (h.congr (idleLanes_cfg s))).congr (onSys_cfg ..)

theorem warmReset_cfgForm (cause : ResetCause) (hold : Hold) (h : CfgForm s) : CfgForm (s.warmReset cause hold) := by
  have hkeep : CfgForm ((s.keepWarm s.idleLanes.resetCommon).onSys fun y =>
      { y with cause := cause, rstTick := s.tick + 1, held := [hold] }) :=
    (resetCommon_cfgForm (h.congr (idleLanes_cfg s))).congr ((onSys_cfg ..).trans (keepWarm_cfg ..))
  unfold warmReset
  split
  · exact h.congr (onSys_cfg ..)
  · exact .ite (loadMacs_cfgForm hkeep) hkeep

/-! ## Boot and the ledger -/

theorem holdLanes_cfgForm (h : CfgForm s) : CfgForm s.holdLanes := (h.wrN _ _).wrN _ _

theorem takeOut_cfgForm (h : CfgForm s) : CfgForm s.takeOut :=
  (holdLanes_cfgForm (h.congr ((onExp_cfg ..).trans (onSe_cfg ..)))).congr (onSpl_cfg ..)

theorem recordEffect_cfgForm (x : Record) (h : CfgForm s) : CfgForm (s.recordEffect x) := by
  unfold recordEffect
  extract_lets old new
  split
  · split
    · exact h.congr (onEngineU_cfg ..)
    · exact h
  · exact holdLanes_cfgForm (h.congr (onExp_cfg ..))
  · split
    · exact h.congr (onChan_cfg ..)
    · exact h
  · split
    · exact h.congr (onSys_cfg ..)
    · exact h
  · split
    · exact h.congr (noteChange_cfg ..)
    · exact h
  · split
    · exact h.congr (noteChange_cfg ..)
    · exact h
  · split
    · exact h.congr (noteChange_cfg ..)
    · exact h
  · exact h

theorem undoSwap_cfgForm (x : Record) (h : CfgForm s) : CfgForm (s.undoSwap x) := by
  unfold undoSwap
  extract_lets unit m
  split
  · exact h.putField ..
  · exact (h.wrN _ _).wrN _ _
  · exact .ite (h.putField ..) (h.putField ..)
  · exact h.forEach _ fun _ _ ht => ht.putField ..
  · exact h

theorem appendNext_cfgForm (firstOk secondOk : Bool) (h : CfgForm s) : CfgForm (s.appendNext firstOk secondOk) := by
  unfold appendNext
  split
  · exact h
  · next x rest _ =>
    extract_lets t room
    have ht : CfgForm t := h.congr (onCal_cfg ..)
    split
    · exact (recordEffect_cfgForm x (ht.congr (program_cfg ..))).congr (compactLedger_cfg _)
    · split
      · exact (recordEffect_cfgForm x (ht.congr (program_cfg ..))).congr (compactLedger_cfg _)
      · exact (undoSwap_cfgForm x (ht.congr (onCal_cfg ..))).congr (errorUnit_cfg ..)

/-! ## Rings, messages and the eye scan -/

theorem writeSqCfg_cfgForm (r : RingIx) (v : Word) (h : CfgForm s) : CfgForm (s.writeSqCfg r v) := by
  unfold writeSqCfg
  extract_lets off old new
  split
  · exact h.congr (badAccess_cfg s)
  · split
    · split
      · exact h
      · split
        · exact .ite ((h.wr _ _).congr (onRing_cfg ..)) (h.congr (refuseWrite_cfg ..))
        · exact h.wr _ _
    · split
      · exact (h.wr _ _).congr (onRing_cfg ..)
      · exact .ite h (h.congr (refuseWrite_cfg ..))

theorem unmask_cfgForm (v : Fin 128) (h : CfgForm s) : CfgForm (s.unmask v) := by
  have ht : CfgForm (s.wr (aMsix v.1) 0) := h.wr _ _
  simp only [unmask]
  exact .ite (ht.congr (by simp)) ht

theorem writeEyeCtrl_cfgForm (p : PortIx) (v : Word) (h : CfgForm s) : CfgForm (s.writeEyeCtrl p v) := by
  have ht := h.wr (aAbr p.1 0x20) (v &&& 0x00FFFF3F)
  simp only [writeEyeCtrl]
  exact .ite (.ite (ht.congr (onLink_cfg ..)) (h.congr (badAccess_cfg s))) ht

/-! ## Time and slots -/

theorem writeInc_cfgForm (v : Word) (h : CfgForm s) : CfgForm (s.writeInc v) :=
  .ite (h.wr _ _) (h.congr (refuseWrite_cfg ..))

theorem applyStep_cfgForm (h : CfgForm s) : CfgForm s.applyStep := by
  simp only [applyStep]
  exact .wrN (h.congr (onMer_cfg ..)) _ _

theorem writeSlotCtrl_cfgForm (r : SlotRef) (v : Word) (h : CfgForm s) : CfgForm (s.writeSlotCtrl r v) := by
  unfold writeSlotCtrl
  split
  · exact h.congr (refuseWrite_cfg ..)
  · extract_lets t
    have ht : CfgForm t := (h.wr _ _).congr (onSlot_cfg ..)
    exact .ite (ht.congr (cfg_arm ..)) (.ite (ht.congr (disarm_cfg ..)) ht)

theorem acceptSample_cfgForm (o : Int) (h : CfgForm s) : CfgForm (s.acceptSample o) := by
  unfold acceptSample
  extract_lets estimate inc t u
  have hu : CfgForm u := h.congr ((count_cfg ..).trans (onMer_cfg ..))
  exact .ite hu (.wrN (hu.congr (onMer_cfg ..)) _ _)

theorem ptpSample_cfgForm (o : Int) (h : CfgForm s) : CfgForm (s.ptpSample o) := by
  unfold ptpSample
  extract_lets t fits
  have ht : CfgForm t := h.congr (onMer_cfg ..)
  exact .ite ht (.ite (acceptSample_cfgForm o ht) (.ite (ht.congr (beginHoldover_cfg _)) (ht.congr (discardSample_cfg _))))

/-! ## Cameras -/

theorem writePset_cfgForm (c : CamIx) (v : Word) (h : CfgForm s) : CfgForm (s.writePset c v) := by
  have ht := h.wr (aCam c.1 0x10) (v &&& psetMask)
  simp only [writePset]
  exact .ite (h.congr (refuseWrite_cfg ..)) (.ite (ht.congr (onCam_cfg ..)) ht)

theorem writeXfer_cfgForm (c : CamIx) (v : Word) (h : CfgForm s) : CfgForm (s.writeXfer c v) :=
  .ite h ((h.wr _ _).congr ((startCci_cfg ..).trans (onCam_cfg ..)))

theorem writeFf_cfgForm (c : CamIx) (v : Word) (h : CfgForm s) : CfgForm (s.writeFf c v) := by
  unfold writeFf
  extract_lets a bank i t
  have ht : CfgForm t := (h.wr _ _).wrN _ _
  exact .ite (h.congr (refuseWrite_cfg ..)) (ht.congr (spoolPut_cfg ..))

/-! ## Functions started, stopped and restarted -/

theorem thermRun_cfgForm (k : BarIx) (h : CfgForm s) : CfgForm (s.thermRun k) := by
  unfold thermRun
  split
  · exact h
  · extract_lets ports means tb t u term
    have ht : CfgForm t := .ite h (h.wrN _ _)
    have hu : CfgForm u := ht.forEach _ fun _ _ hv => hv.wrN _ _
    exact hu.congr ((onCal_cfg ..).trans (onFree_cfg ..))

theorem useSpares_cfgForm (h : CfgForm s) : CfgForm s.useSpares :=
  h.forEach _ fun i t ht => by
    split
    · exact .ite (ht.putField ..) ht
    · exact ht

theorem restartEffect_cfgForm (q : FnReq) (h : CfgForm s) : CfgForm (s.restartEffect q) := by
  unfold restartEffect
  split
  · exact h.congr ((refuseRestart_cfg ..).trans (onHif_cfg ..))
  · extract_lets t l
    have ht : CfgForm t := .ite (useSpares_cfgForm h) h
    split
    · exact ht.congr (refuseRestart_cfg ..)
    · split
      · exact ht.congr (restartBegins_cfg ..)
      · exact ht.congr (awaitLedger_cfg ..)

theorem resumeRestarts_cfgForm (h : CfgForm s) : CfgForm s.resumeRestarts :=
  .ite h (h.forEach _ fun q t ht => restartEffect_cfgForm q (ht.congr (dropReq_cfg q t)))

theorem startBar_cfgForm (k : BarIx) (h : CfgForm s) : CfgForm (s.startBar k) := by
  have hdue := h.congr ((retireEngines_cfg _).trans (passDue_cfg k s))
  exact (thermRun_cfgForm k hdue).congr (by simp [startBar])

theorem startTb_cfgForm (h : CfgForm s) : CfgForm s.startTb :=
  (applyStep_cfgForm h).congr (by simp [startTb])

theorem refit_cfgForm (h : CfgForm s) : CfgForm s.refit := by
  unfold refit
  extract_lets pend t u v
  have hv : CfgForm u := holdLanes_cfgForm (h.congr ((onExp_cfg ..).trans (onSe_cfg ..)))
  exact hv.congr ((onSpl_cfg ..).trans (onSys_cfg ..))

theorem startEng_cfgForm (h : CfgForm s) : CfgForm s.startEng :=
  (refit_cfgForm h).congr (by simp [startEng])

theorem startOne_cfgForm (f : FnRef) (h : CfgForm s) : CfgForm (s.startOne f) := by
  cases f with
  | engine => exact startEng_cfgForm h
  | timebase => exact startTb_cfgForm h
  | bar k => exact startBar_cfgForm k h
  | port p => exact h.congr (startPort_cfg p s)
  | cam c => exact h.congr ((applyRemaps_cfg ..).trans (camStart_cfg c s))
  | axis x => exact h.congr (startAxis_cfg x s)

theorem finishRestart_cfgForm (q : FnReq) (bad : List Nat) (lost : List BarIx) (h : CfgForm s) :
    CfgForm (s.finishRestart q bad lost) := by
  unfold finishRestart
  extract_lets t l lost' u idle started
  have ht : CfgForm t := .ite (h.congr (clearAbsent_cfg s)) h
  have hu : CfgForm u := ht.congr (by simp [u])
  have hidle : CfgForm idle := hu.congr (by simp [idle])
  have hall : CfgForm (idle.forEach l startOne) := hidle.forEach l fun f _ => startOne_cfgForm f
  have hstarted : CfgForm started := hall.congr (forEach_cfg _ _ _ runFn_cfg)
  split
  · exact hidle.congr (by simp)
  · exact hstarted.congr ((done_cfg ..).trans (dropReq_cfg ..))

theorem request_cfgForm (r : RingIx) (e : Entry) (f : FnRef) (h : CfgForm s) : CfgForm (s.request r e f) := by
  unfold request
  extract_lets q
  have hbegin : CfgForm (s.begin r) := h.congr (begin_cfg r s)
  split
  · exact h
  · split
    · exact hbegin.congr ((done_cfg ..).trans (onFn_cfg ..))
    · split
      · exact hbegin.congr (addReq_cfg ..)
      · split
        · exact restartEffect_cfgForm q hbegin
        · exact .ite h (hbegin.congr (stopEffect_cfg ..))

/-! ## Register writes -/

theorem writeFlip_cfgForm (v : Word) (h : CfgForm s) : CfgForm (s.writeFlip v) := by
  have ht := h.wrN (aSpl 0xC) (v.toNat &&& 0x207F7F7F)
  have hrefused := h.congr (refuseWrite_cfg s (aSpl 0xC) v)
  simp only [writeFlip]
  exact .ite hrefused (.ite hrefused (.ite (ht.congr (onSpl_cfg ..)) ht))

/-- What a write of a plain register sets off writes a register only where it unmasks a vector. -/
theorem afterWrite_cfgForm (off old new : Nat) (s : State) (h : CfgForm t) : CfgForm (afterWrite off old new s t) := by
  unfold afterWrite
  extract_lets o risen
  split
  case h_1 => exact .ite (h.congr (setPower_cfg ..)) h
  case h_2 =>
    refine .ite (.ite h (h.congr (onHif_cfg ..))) ?_
    split
    · split
      · exact h.congr ((moderate_cfg ..).trans (onRing_cfg ..))
      · exact h
    · exact h
  case h_3 =>
    split
    · split
      · next v _ => exact .ite h (unmask_cfgForm v h)
      · exact h
    · exact h
  case h_4 => exact .ite (h.congr (gpioHeld_cfg ..)) h
  case h_5 => exact .ite (h.congr (onMer_cfg ..)) h
  case h_6 => exact .ite (h.congr (forEach_cfg _ _ _ fun c u => trigRises_cfg s t c u)) h
  case h_7 =>
    split
    · split
      · exact .ite h (h.congr (onEthPort_cfg ..))
      · exact h
    · exact h
  case h_8 => exact .ite (h.congr (rise_cfg ..)) h
  case h_9 =>
    split
    · split
      · exact .ite (h.congr (onMonitor_cfg ..)) h
      · exact h
    · exact h
  case h_10 => exact h

theorem storeReg_cfgForm (off : Nat) (i : RegInfo) (v : Word) (h : CfgForm s) : CfgForm (storeReg off i v s) :=
  .ite (h.congr (refuseWrite_cfg ..)) ((afterWrite_cfgForm _ _ _ _ (h.wrN _ _)).congr (sideClear_cfg ..))

theorem writeRstCtrl_cfgForm (v : Word) (h : CfgForm s) : CfgForm (s.writeRstCtrl v) := .ite (warmReset_cfgForm _ _ h) h

theorem specialWrite_cfgForm (off : Nat) (v : Word) (h : CfgForm s) : FormIn (s.specialWrite off v) := by
  unfold specialWrite
  extract_lets o
  split
  case h_1 => exact .ite (writeRstCtrl_cfgForm v h).formIn formIn_none
  case h_2 => exact .ite (h.congr (by simp)).formIn formIn_none
  case h_3 =>
    exact .ite (h.congr (heartbeat_cfg s)).formIn (formIn_bind fun q => .ite (h.congr (badAccess_cfg s)).formIn
      (.ite (formIn_map fun r => writeSqCfg_cfgForm r v h) formIn_none))
  case h_4 => exact .ite (h.congr (by simp)).formIn (.ite (h.congr (by simp)).formIn formIn_none)
  case h_5 => exact .ite (h.congr (by simp)).formIn (.ite (h.congr (by simp)).formIn formIn_none)
  case h_6 => exact formIn_bind fun q => .ite (formIn_map fun p => writeEyeCtrl_cfgForm p v h) formIn_none
  case h_7 =>
    refine .ite (writeInc_cfgForm v h).formIn (.ite (h.congr (by simp)).formIn ?_)
    split
    · exact formIn_map fun i => writeSlotCtrl_cfgForm (.time i) v h
    · exact formIn_map fun j => writeSlotCtrl_cfgForm (.pos j) v h
    · exact formIn_none
  case h_8 => exact formIn_bind fun q => .ite (formIn_map fun x => h.congr (by simp)) formIn_none
  case h_9 =>
    exact formIn_bind fun q => formIn_bind fun c => .ite (writePset_cfgForm c v h).formIn
      (.ite (writeXfer_cfgForm c v h).formIn (.ite (writeFf_cfgForm c v h).formIn formIn_none))
  case h_10 => exact .ite (h.congr (by simp)).formIn formIn_none
  case h_11 => exact .ite (writeFlip_cfgForm v h).formIn formIn_none
  case h_12 => exact formIn_bind fun q => .ite (formIn_map fun ch => h.congr (by simp)) formIn_none
  case h_13 => exact .ite (h.congr (by simp)).formIn (.ite (h.congr (by simp)).formIn formIn_none)
  case h_14 =>
    exact formIn_bind fun q => formIn_bind fun n => .ite (h.congr (by simp)).formIn
      (.ite (h.congr (by simp)).formIn formIn_none)
  case h_15 => exact formIn_none

theorem writeReg_cfgForm (off : Nat) (v : Word) (h : CfgForm s) : CfgForm (s.writeReg off v) := by
  unfold writeReg
  split
  · exact h.congr (badAccess_cfg s)
  · next i _ =>
    split
    · next t e => exact specialWrite_cfgForm off v h t e
    · exact storeReg_cfgForm off i v h

theorem bar0Write_cfgForm (off : Nat) (v : Word) (h : CfgForm s) : CfgForm (s.bar0Write off v) :=
  have ht := h.congr (hostIn_cfg 4 s)
  .ite ht (writeReg_cfgForm off v ht)

end State

/-! ## Commands -/

theorem execPorstNAssert_form (suppliesUp : Bool) (h : CfgForm s) : FormAfter (execPorstNAssert suppliesUp s) :=
  ((State.coldReset_cfgForm _ _ h).congr (State.onSys_cfg ..)).after

theorem execSupplyMonitorTrip_form (rail : Fin 6) (h : CfgForm s) : FormAfter (execSupplyMonitorTrip rail s) :=
  .ite ((State.coldReset_cfgForm _ _ h).congr (State.onSys_cfg ..)).after h.after

theorem execRefclkLoss_form (h : CfgForm s) : FormAfter (execRefclkLoss s) :=
  (CfgForm.ite (State.coldReset_cfgForm _ _ h) h).after

theorem execOvertempStop_form (sensor : Fin 8) (h : CfgForm s) : FormAfter (execOvertempStop sensor s) := by
  unfold execOvertempStop
  extract_lets t
  have ht : CfgForm t := h.congr (by
    simp only [t]
    split <;> simp)
  exact .ite (State.coldReset_cfgForm _ _ ht).after h.after

theorem execSysrstNAssert_form (ns : Nat) (h : CfgForm s) : FormAfter (execSysrstNAssert ns s) := by
  unfold execSysrstNAssert
  extract_lets t
  have ht : CfgForm t := .ite (h.congr (State.useFree_cfg s)) h
  exact .ite h.after (.ite ht.after (.ite (ht.congr (State.onSys_cfg ..)).after (State.warmReset_cfgForm _ _ ht).after))

theorem execRstCtrlWarm_form (v : Word) (h : CfgForm s) : FormAfter (execRstCtrlWarm v s) :=
  (CfgForm.ite (State.warmReset_cfgForm _ _ h) h).after

theorem execCoreWatchdogExpiry_form (core : Fin 5) (h : CfgForm s) : FormAfter (execCoreWatchdogExpiry core s) :=
  .ite ((State.warmReset_cfgForm _ _ h).congr (State.onSys_cfg ..)).after h.after

theorem execMainRailsOff_form (h : CfgForm s) : FormAfter (execMainRailsOff s) :=
  ((State.coldReset_cfgForm _ _ h).congr (State.onSys_cfg ..)).after

theorem execOtpReadDone_form (h : CfgForm s) : FormAfter (execOtpReadDone s) :=
  (CfgForm.ite (State.loadMacs_cfgForm (h.congr (State.onSys_cfg ..))) h).after

theorem execFirmwareReady_form (h : CfgForm s) : FormAfter (execFirmwareReady s) := by
  unfold execFirmwareReady
  extract_lets t u
  have hu : CfgForm u := (State.takeOut_cfgForm h).congr (by simp [u, t])
  exact .ite (hu.congr (by simp)).after h.after

/-- R77: Sidereal's power-on reset leaves out the registers of its block. -/
theorem execSiderealPowerOnReset_form (h : CfgForm s) : FormAfter (execSiderealPowerOnReset s) :=
  .ite (h.filter (fun e => decide (e.1 / 0x100000 ≠ 4)) rfl).after h.after

/-- A host's write to one register (R9) runs with its bytes counted, while the host interface is up. -/
theorem hostWrite_form {g : State → State} (h : CfgForm s) (hg : ∀ {t}, CfgForm t → CfgForm (g t)) :
    FormAfter (.next (if s.hostUp then g (s.hostIn 4) else s)) :=
  (CfgForm.ite (hg (h.congr (State.hostIn_cfg ..))) h).after

theorem execPtpOffsetSample_form (offset : Int) (h : CfgForm s) : FormAfter (execPtpOffsetSample offset s) :=
  (CfgForm.ite (State.ptpSample_cfgForm _ h) h).after

theorem runEntry_cfgForm (r : RingIx) (mine form : Entry → Bool) {body : Entry → State → State} (h : CfgForm s)
    (hbody : ∀ e, CfgForm (body e s)) : CfgForm (s.runEntry r mine form body) := by
  unfold State.runEntry
  split
  · exact h
  · next e _ => exact .ite h (.ite (hbody e) (h.congr ((State.fail_cfg ..).trans (State.begin_cfg ..))))

/-- The entry of a function is a request, whether it stops the function or restarts it. -/
theorem functionEntry_form (r : RingIx) (mine : Entry → Bool) (h : CfgForm s) :
    FormAfter (.next (s.runEntry r mine formFunction fun e t => match fnOf e with
      | some f => t.request r e f
      | none => t)) :=
  (runEntry_cfgForm r _ _ h fun e => by
    split
    · next f _ => exact State.request_cfgForm r e f h
    · exact h).after

theorem execFunctionGapEffect_form (f : FnRef) (h : CfgForm s) : FormAfter (execFunctionGapEffect f s) := by
  have hdrop (q : FnReq) : CfgForm (s.dropReq q) := h.congr (State.dropReq_cfg q s)
  unfold execFunctionGapEffect
  refine CfgForm.after ?_
  split
  · exact h
  · next q _ =>
    exact .ite h (.ite (State.restartEffect_cfgForm q (hdrop q)) (.ite h
      (.ite ((hdrop q).congr ((State.done_cfg ..).trans (State.onFn_cfg ..)))
        (.ite h ((hdrop q).congr (State.stopEffect_cfg ..))))))

theorem execFunctionRestartComplete_form (f : FnRef) (finds : RestartFinds) (h : CfgForm s) :
    FormAfter (execFunctionRestartComplete f finds s) := by
  unfold execFunctionRestartComplete
  refine CfgForm.after ?_
  split
  · next q _ => exact .ite (State.finishRestart_cfgForm q _ _ h) h
  · exact h

theorem execLedgerAppend_form (hung : Bool) (reads : SlotReads) (h : CfgForm s) :
    FormAfter (execLedgerAppend hung reads s) :=
  have hflash := h.congr (State.when_cfg _ _ s State.recoverFlash_cfg)
  (CfgForm.ite (State.resumeRestarts_cfgForm (State.appendNext_cfgForm _ _ hflash)) h).after

theorem execRegisterWrite_form (off : BitVec 26) (data : WriteData) (h : CfgForm s) :
    FormAfter (execRegisterWrite off data s) := by
  have ht := State.bar0Write_cfgForm off.toNat data.first h
  unfold execRegisterWrite
  refine CfgForm.after (.ite h (.ite (h.congr (State.badBar0_cfg s)) ?_))
  split
  · exact .ite (State.bar0Write_cfgForm _ _ ht) ht
  · exact ht

/-- The commands that may write a register keep the form one by one; every other command leaves the registers alone. -/
theorem exec_form (c : Instr) (h : CfgForm s) : FormAfter (exec c s) := by
  cases c with
  | porstNAssert suppliesUp => exact execPorstNAssert_form suppliesUp h
  | supplyMonitorTrip rail => exact execSupplyMonitorTrip_form rail h
  | refclkLoss => exact execRefclkLoss_form h
  | overtempStop sensor => exact execOvertempStop_form sensor h
  | sysrstNAssert ns => exact execSysrstNAssert_form ns h
  | rstCtrlWarm v => exact execRstCtrlWarm_form v h
  | coreWatchdogExpiry core => exact execCoreWatchdogExpiry_form core h
  | mainRailsOff => exact execMainRailsOff_form h
  | otpReadDone => exact execOtpReadDone_form h
  | firmwareReady => exact execFirmwareReady_form h
  | siderealPowerOnReset => exact execSiderealPowerOnReset_form h
  | ringEnable r v => exact hostWrite_form h (State.writeSqCfg_cfgForm r v)
  | ringDisable r v => exact hostWrite_form h (State.writeSqCfg_cfgForm r v)
  | msixUnmask vector => exact hostWrite_form h (State.unmask_cfgForm vector)
  | eyeScanStart p v => exact hostWrite_form h (State.writeEyeCtrl_cfgForm p v)
  | slotArm slot v => exact hostWrite_form h (State.writeSlotCtrl_cfgForm slot v)
  | slotDisarm slot v => exact hostWrite_form h (State.writeSlotCtrl_cfgForm slot v)
  | merIncWrite v => exact hostWrite_form h (State.writeInc_cfgForm v)
  | psetCommit c v => exact hostWrite_form h (State.writePset_cfgForm c v)
  | cciHostTransfer c v => exact hostWrite_form h (State.writeXfer_cfgForm c v)
  | ffDataWrite c v => exact hostWrite_form h (State.writeFf_cfgForm c v)
  | flipArm v => exact hostWrite_form h (State.writeFlip_cfgForm v)
  | lpsWrite v => exact hostWrite_form h (State.writeReg_cfgForm aSysPower v)
  | registerWrite off data => exact execRegisterWrite_form off data h
  | ptpOffsetSample offset => exact execPtpOffsetSample_form offset h
  | functionStop r => exact functionEntry_form r _ h
  | functionRestart r => exact functionEntry_form r _ h
  | functionGapEffect f => exact execFunctionGapEffect_form f h
  | functionRestartComplete f finds => exact execFunctionRestartComplete_form f finds h
  | ledgerAppend hung reads => exact execLedgerAppend_form hung reads h
  | _ => exact h.after_of_registers (by simp [exec])

/-- A step runs the command at the front of the queue, or a tick of CLK_TIME, which writes no register. -/
theorem step_form (h : CfgForm s) : FormAfter (step s) := by
  unfold step
  split
  · exact (h.congr (State.clockTick_cfg s)).after
  · next c rest _ => exact exec_form c (s := { s with pending := rest }) h

end Sys2Proof.Machine
end

section
/-!
The statements about what the registers hold at power-up, in every step, and under writes of a slot's CTRL.
-/
namespace Sys2Proof.Machine
open Sys2Proof

/-- Settles O58: the power-up state lists no register and no byte, so that each reads at its default. -/
theorem resetStateHasTheResetValues : Obligations.ResetStateHasTheResetValues := by
  unfold Obligations.ResetStateHasTheResetValues
  refine ⟨fun _ => rfl, fun _ => rfl, rfl, ?_, ?_, rfl, rfl, rfl, rfl, rfl, rfl, cfgForm_reset⟩
  · rintro (p | k | c | x | - | -) <;> simp [State.fn, State.reset, Fns.reset, Fn.contained, Fn.alone]
  · intro r
    simp [State.reset, Hif.reset, Ring.reset]

/-- Settles O39: an ARM that is refused, waits or is dropped late, and a DISARM before and in the slot's tick. -/
theorem slotsAreArmedAndDisarmed : Obligations.SlotsAreArmedAndDisarmed := by
  unfold Obligations.SlotsAreArmedAndDisarmed
  refine ⟨fun s i v hform hup h31 hr => ⟨?ahead, ?dropped⟩, ?pos, ?refused,
    fun s i v hup h31 h30 harmed => ⟨?cancels, ?due⟩⟩
  case ahead => exact State.exec_slotArm_time_ahead i hform hup h31 hr
  case dropped => exact State.exec_slotArm_time_dropped i hform hup h31 hr
  case pos => exact fun s j v _ hup h31 hr => State.exec_slotArm_pos_waits j hup h31 hr
  case refused => exact fun s r v hup h31 hreason => State.exec_slotArm_refused hup h31 (armRefused_of_reason hreason)
  case cancels => exact State.exec_slotDisarm_time_cancels i hup h31 h30 harmed
  case due => exact State.exec_slotDisarm_time_due i hup h31 h30

/-- Settles O60: every write of a register goes through the table's write or filter, and these keep the form. -/
theorem stepKeepsTheRegisterForm : Obligations.StepKeepsTheRegisterForm := by
  unfold Obligations.StepKeepsTheRegisterForm
  exact fun s t h e => step_form h t e

end Sys2Proof.Machine
end

section
/-!
What stops firing leaves of the state (R58, R249, R251, R273): the class D decision, and what ESTOP_n, PRESS_RUN, REJECT and the
check of the press pins do (R147, R461, R465, R466), with the stop of a bar that nozzle changes wait for (R386).
-/
namespace Sys2Proof.Machine
open Sys2Proof

/-! ## What the stop of ports and axes leaves -/

/-- From `s` to `t` no port begins to fire, and what is no concern of a stop of ports and axes stays. -/
structure StopFrame (s t : State) : Prop where
  mem : t.mem = s.mem
  mer : t.mer = s.mer
  bar : t.bar = s.bar
  job : t.job = s.job
  integ : t.integ = s.integ
  dead : ∀ q : PortIx, t.port[q].dead = s.port[q].dead
  commit : ∀ q : PortIx, s.port[q].commit = none → t.port[q].commit = none
  pair : ∀ q : PortIx, s.port[q].pair = false → t.port[q].pair = false

/-- A port that does not begin to fire. -/
def PortStays (q r : Port) : Prop :=
  r.dead = q.dead ∧ (q.commit = none → r.commit = none) ∧ (q.pair = false → r.pair = false)

namespace StopFrame

variable {s t u : State}

theorem refl (s : State) : StopFrame s s := ⟨rfl, rfl, rfl, rfl, rfl, fun _ => rfl, fun _ h => h, fun _ h => h⟩

theorem trans (h : StopFrame s t) (k : StopFrame t u) : StopFrame s u :=
  ⟨k.mem.trans h.mem, k.mer.trans h.mer, k.bar.trans h.bar, k.job.trans h.job, k.integ.trans h.integ,
    fun q => (k.dead q).trans (h.dead q), fun q hq => k.commit q (h.commit q hq), fun q hq => k.pair q (h.pair q hq)⟩

/-- Nothing moves that the frame speaks of. -/
theorem of_eq (hmem : t.mem = s.mem) (hmer : t.mer = s.mer) (hbar : t.bar = s.bar) (hjob : t.job = s.job)
    (hinteg : t.integ = s.integ) (hport : t.port = s.port) : StopFrame s t :=
  ⟨hmem, hmer, hbar, hjob, hinteg, fun q => by rw [hport], fun q h => by rw [hport]; exact h, fun q h => by rw [hport]; exact h⟩

theorem onPort (h : StopFrame s t) (p : PortIx) {g : Port → Port} (hg : ∀ q, PortStays q (g q)) :
    StopFrame s (t.onPort p g) := by
  have hport (q : PortIx) : PortStays t.port[q] (t.onPort p g).port[q] := by
    rw [State.onPort_get]
    split
    · exact hg _
    · exact ⟨rfl, id, id⟩
  exact h.trans ⟨rfl, rfl, rfl, rfl, rfl, fun q => (hport q).1, fun q => (hport q).2.1, fun q => (hport q).2.2⟩

theorem onLink (h : StopFrame s t) (p : PortIx) (g : Link → Link) : StopFrame s (t.onLink p g) :=
  h.onPort p fun _ => ⟨rfl, id, id⟩

theorem onFn (h : StopFrame s t) (f : FnRef) (g : Fn → Fn) : StopFrame s (t.onFn f g) :=
  h.trans (of_eq rfl rfl rfl rfl rfl rfl)

theorem onHls (h : StopFrame s t) (g : Heliostat → Heliostat) : StopFrame s (t.onHls g) :=
  h.trans (of_eq rfl rfl rfl rfl rfl rfl)

theorem onAxis (h : StopFrame s t) (x : AxisIx) (g : Axis → Axis) : StopFrame s (t.onAxis x g) :=
  h.trans (of_eq rfl rfl rfl rfl rfl rfl)

theorem onSys (h : StopFrame s t) (g : Sys → Sys) : StopFrame s (t.onSys g) := h.trans (of_eq rfl rfl rfl rfl rfl rfl)

theorem emit (h : StopFrame s t) (x : Output) : StopFrame s (t.emit x) := h.trans (of_eq rfl rfl rfl rfl rfl rfl)

theorem useFree (h : StopFrame s t) : StopFrame s t.useFree := h.trans (of_eq rfl rfl rfl rfl rfl rfl)

theorem rise (h : StopFrame s t) (ev : Nat) (c : Bool) : StopFrame s (t.rise ev c) :=
  h.trans (of_eq (State.rise_mem ..) (State.rise_mer ..) (State.rise_bar ..) (State.rise_job ..) (State.rise_integ ..)
    (State.rise_port ..))

theorem errorUnit (h : StopFrame s t) (code : Code) (cls : Cls) (unit det src : Nat) :
    StopFrame s (t.errorUnit code cls unit det src) :=
  h.trans (of_eq (State.errorUnit_mem ..) (State.errorUnit_mer ..) (State.errorUnit_bar ..) (State.errorUnit_job ..)
    (State.errorUnit_integ ..) (State.errorUnit_port ..))

theorem forEach {α : Type} {g : α → State → State} (h : StopFrame s t) (l : List α)
    (hg : ∀ a {u}, StopFrame s u → StopFrame s (g a u)) : StopFrame s (t.forEach l g) :=
  State.forEach_inv (StopFrame s) g (fun a _ => hg a) l t h

theorem ite {c : Prop} [Decidable c] (h : StopFrame s t) (k : StopFrame s u) : StopFrame s (if c then t else u) := by
  split <;> assumption

/-! ### The lanes of a port (R258, R259, R273) -/

theorem putAlign (h : StopFrame s t) (p : PortIx) : StopFrame s (t.putAlign p) := ((h.onLink p _).emit _).emit _

theorem putBlock (h : StopFrame s t) (p : PortIx) (b : LinkBlock) : StopFrame s (t.putBlock p b) :=
  (((h.putAlign p).ite h).onLink p _).emit _

theorem putNext (h : StopFrame s t) (p : PortIx) : StopFrame s (t.putNext p) := by
  unfold State.putNext
  split
  · exact (h.putBlock p _).onLink p _
  · exact h.putBlock p _

theorem putMany (h : StopFrame s t) (p : PortIx) (n : Nat) : StopFrame s (t.putMany p n) :=
  h.forEach _ fun _ _ hu => hu.putNext p

theorem cutStream (h : StopFrame s t) (p : PortIx) : StopFrame s (t.cutStream p) :=
  (h.ite (h.putMany p _)).onLink p _

theorem beginFaultBurst (h : StopFrame s t) (p : PortIx) : StopFrame s (t.beginFaultBurst p) :=
  h.ite (((h.putMany p _).putBlock p _).putBlock p _)

/-! ### Faults of a port and of an axis (R240, R273, R278, R340) -/

theorem leaveT6 (h : StopFrame s t) (p : PortIx) : StopFrame s (t.leaveT6 p) :=
  ((h.rise _ _).onLink p _).useFree.ite (h.rise _ _)

theorem faultLink (h : StopFrame s t) (p : PortIx) (cause : Nat) : StopFrame s (t.faultLink p cause) :=
  (((h.cutStream p).leaveT6 p).onLink p _).beginFaultBurst p

theorem clearQueue (h : StopFrame s t) (p : PortIx) : StopFrame s (t.clearQueue p) :=
  (h.onHls _).onPort p fun _ => ⟨rfl, fun _ => rfl, id⟩

theorem portFault (h : StopFrame s t) (p : PortIx) (cause : Nat) (cls : Cls) : StopFrame s (t.portFault p cause cls) := by
  have hpair (q : Port) : PortStays q { q with missing := 0x0702, pair := q.pair && decide (cls = .d) } :=
    ⟨rfl, id, fun hq => by simp [hq]⟩
  exact ((((h.clearQueue p).onFn _ _).onPort p hpair).faultLink p cause).errorUnit ..

theorem axisFault (h : StopFrame s t) (x : AxisIx) (cause : Nat) (code : Code) (dec : Option Nat) :
    StopFrame s (t.axisFault x cause code dec) :=
  h.ite ((h.onAxis x _).errorUnit ..)

end StopFrame

/-! ## The class D decision (R37, R249, R273, R464) -/

namespace State

/-- R464: a class D decision before any function stops: the pins and the record of the first code, and the class of every
sheet in transit. -/
def decidedD (code : Code) (s : State) : State :=
  (s.onInteg fun i => { i with
    engineOk := false, okHolds := false, dstop := true, dcode := if s.integ.dstop then i.dcode else code }).onJob fun j =>
      { j with sheets := j.sheets.map fun sh => if sh.anchored then sh.touch code .d 0 s.tick else sh }

/-- R249: every port is dead, and no committed fire instant stands. -/
def haltPorts (s : State) : State := s.onPorts fun v => v.map fun q => { q with dead := true, commit := none }

theorem classDown_eq (code : Code) (s : State) :
    s.classDown code = if s.integ.dstop then s.decidedD code else (s.decidedD code).classDHalt := rfl

theorem classDHalt_frame (s : State) : StopFrame s.haltPorts s.classDHalt := by
  unfold classDHalt
  have hports := (StopFrame.refl s.haltPorts).forEach ((all 32).filter fun p => decide (s.port[p].link.lstate = 6))
    fun p _ h => h.portFault p 5 .d
  exact (hports.forEach _ fun x _ h => h.axisFault x 4 0x0A0A _).onSys _

/-- The first class D decision halts the ports; each one decides the sheets in transit; nothing else moves that the frame
speaks of. -/
theorem classD_frame (code : Code) (unit det src : Nat) (s : State) :
    StopFrame (if s.integ.dstop then s.decidedD code else (s.decidedD code).haltPorts) (s.classD code unit det src) := by
  refine StopFrame.errorUnit ?_ code .d unit det src
  rw [classDown_eq]
  split
  · exact .refl _
  · exact classDHalt_frame _

section
variable (code : Code) (unit det src : Nat) (s : State)

theorem classD_mem : (s.classD code unit det src).mem = s.mem :=
  (classD_frame code unit det src s).mem.trans (by split <;> rfl)

theorem classD_mer : (s.classD code unit det src).mer = s.mer :=
  (classD_frame code unit det src s).mer.trans (by split <;> rfl)

theorem classD_bar : (s.classD code unit det src).bar = s.bar :=
  (classD_frame code unit det src s).bar.trans (by split <;> rfl)

theorem classD_integ : (s.classD code unit det src).integ = { s.integ with
    engineOk := false, okHolds := false, dstop := true, dcode := if s.integ.dstop then s.integ.dcode else code } :=
  (classD_frame code unit det src s).integ.trans (by cases h : s.integ.dstop <;> simp [decidedD, haltPorts, h])

theorem classD_job : (s.classD code unit det src).job = (s.decidedD code).job :=
  (classD_frame code unit det src s).job.trans (by split <;> rfl)

end

theorem haltPorts_get (s : State) (q : PortIx) : s.haltPorts.port[q] = { s.port[q] with dead := true, commit := none } :=
  Vector.getElem_map ..

variable {s : State}

/-- R249: from the first class D decision on, no port fires. -/
theorem classD_halts (code : Code) (unit det src : Nat) (h : s.integ.dstop = false) (q : PortIx) :
    (s.classD code unit det src).port[q].dead = true ∧ (s.classD code unit det src).port[q].commit = none := by
  have hframe := classD_frame code unit det src s
  rw [h, if_neg Bool.false_ne_true] at hframe
  have hport := (s.decidedD code).haltPorts_get q
  exact ⟨(hframe.dead q).trans (by rw [hport]), hframe.commit q (by rw [hport])⟩

/-- A class D decision makes no FIRE pair active. -/
theorem classD_pair (code : Code) (unit det src : Nat) {q : PortIx} (h : s.port[q].pair = false) :
    (s.classD code unit det src).port[q].pair = false := by
  refine (classD_frame code unit det src s).pair q ?_
  split
  · exact h
  · rw [haltPorts_get]
    exact h

end State

theorem touch_anchored (code : Code) (cls : Cls) (row tick : Nat) (sh : Sheet) :
    (sh.touch code cls row tick).anchored = sh.anchored := by
  unfold Sheet.touch
  dsimp only
  split
  · rfl
  · split <;> rfl

theorem touch_cls_d (code : Code) (row tick : Nat) (sh : Sheet) : (sh.touch code .d row tick).cls = .d := by
  have hmax : sh.cls.max .d = .d := by cases sh.cls <;> rfl
  unfold Sheet.touch
  dsimp only
  split
  · exact hmax
  · split <;> exact hmax

/-- R464: every sheet in transit takes class D. -/
theorem State.classD_sheets (code : Code) (unit det src : Nat) (s : State) :
    ∀ sh ∈ (s.classD code unit det src).job.sheets, sh.anchored = true → sh.cls = .d := by
  rw [State.classD_job]
  intro sh hsh hanch
  obtain ⟨old, -, rfl⟩ := List.mem_map.mp hsh
  split at hanch
  · rw [if_pos ‹_›]
    exact touch_cls_d ..
  · exact absurd hanch ‹_›

/-! ## The commands of the press pins and of ESTOP_n -/

namespace State

/-- R58, R251: what ESTOP_n does whatever runs: it is latched, and every FIRE pair is inactive. -/
def estopped (s : State) : State :=
  ((s.onInteg fun i => { i with estop := true, latch := true, holdoff := false }).setW1c aPrmSafe 30).cutPairs

theorem estopped_pair (s : State) (p : PortIx) : s.estopped.port[p].pair = false := by
  simp [estopped, cutPairs]

theorem onInteg_eq_self {s : State} {g : Integrity → Integrity} (h : g s.integ = s.integ) : s.onInteg g = s := by
  rw [onInteg, h]

/-- R465: an orderly stop that waits for no pulse lets ENGINE_OK fall. -/
theorem settleOk_eq {s : State} (h : s.integ.reject = false) :
    s.settleOk = s.onInteg fun i => { i with
      engineOk := s.integ.engineOk && !(s.integ.okHolds && s.job.anchors.all (·.decided))
      okHolds := s.integ.okHolds && !s.job.anchors.all (·.decided) } := by
  unfold settleOk
  rw [h, Bool.not_false, Bool.and_true]
  split
  case isTrue hfall =>
    obtain ⟨-, hall⟩ := Bool.and_eq_true_iff.mp hfall
    rw [hfall, hall, Bool.not_true, Bool.and_false, Bool.and_false]
  case isFalse hstays =>
    have hfall := Bool.eq_false_iff.mpr hstays
    have hok : (s.integ.okHolds && !s.job.anchors.all (·.decided)) = s.integ.okHolds := by
      revert hfall
      cases s.integ.okHolds <;> simp
    refine (onInteg_eq_self ?_).symm
    simp only [hfall, hok, Bool.not_false, Bool.and_true]

end State

section
variable {s : State}

theorem exec_estopAssert (h : s.integ.estop = false) :
    exec .estopAssert s = .next (if s.engRuns then s.estopped.classD 0x0608 unitNone 0 0x0A else s.estopped) :=
  if_neg (ne_true_of_eq_false h)

theorem exec_pressRunChange {b : Bool} (hup : s.up = true) (h : b ≠ s.integ.pressRun) (hroom : AsyncRoom s) :
    exec (.pressRunChange b) s = .next ((s.onInteg fun i => { i with pressRun := b }).onHif fun u => { u with
      async := u.async ++ [s.asyncEvent .status 0x1009 .none (BitVec.ofNat 64 (b2n b)) 0 0x15] }) := by
  let t := s.onInteg fun i => { i with pressRun := b }
  have hpost := State.postAsync_of_room (s := t) hroom (t.asyncEvent .status 0x1009 .none (BitVec.ofNat 64 (b2n b)) 0 0x15)
  calc exec (.pressRunChange b) s
      = .next (if s.up then t.status 0x1009 (BitVec.ofNat 64 (b2n b)) 0 0x15 else t) := if_neg h
    _ = _ := by rw [if_pos hup]; exact congrArg Host.Outcome.next hpost

theorem exec_rejectPulseEnd (h : s.integ.reject = true) (hend : s.integ.pulseEnds ≤ s.tick) :
    exec .rejectPulseEnd s = .next (s.onInteg fun i => { i with reject := false, pulseFell := some s.tick }).settleOk :=
  congrArg Host.Outcome.next (if_pos (by simp only [h, hend, decide_true, Bool.and_self]))

theorem exec_pinCheckFault (p : CheckedPin) (hup : s.up = true) :
    exec (.pinCheckFault p) s = .next (s.classD 0x1005 unitNone 0 0x15) :=
  congrArg Host.Outcome.next (if_pos hup)

/-! ## The stop of a bar for nozzle changes (R386, log entry 36) -/

theorem stopForChanges_eq_self {k : BarIx}
    (h : s.barRuns k = false ∨ s.cal.pendBar[k] = [] ∨ s.cal.stopQ[k] = true) : s.stopForChanges k = s := by
  refine if_neg ?_
  rcases h with h | h | h <;> simp [h]

theorem stopForChanges_queues {k : BarIx} (hrun : s.barRuns k = true) (hpend : s.cal.pendBar[k] ≠ [])
    (hstop : s.cal.stopQ[k] = false) (hhold : s.cal.holdoff[k] = false) :
    s.stopForChanges k = (s.queueBarStop k).onCal fun c => { c with holdoff := c.holdoff.set k.1 true k.2 } :=
  if_pos (by simp only [hrun, hhold, hstop, List.isEmpty_eq_false_iff.mpr hpend, Bool.not_false, Bool.and_self])

/-- R379: the stop and the restart of a bar are two more entries of ring 0. -/
theorem queueBarStop_eq (k : BarIx) (s : State) : ∃ e₁ e₂ : Entry × Nat, s.queueBarStop k =
    (s.onRing 0 fun c => { c with fetched := c.fetched ++ [e₁, e₂] }).onCal fun c =>
      { c with stopQ := c.stopQ.set k.1 true k.2 } :=
  ⟨_, _, rfl⟩

section
variable {k : BarIx} (hold : s.cal.holdoff[k] = true)
include hold

theorem exec_nozzleStopHoldoffExpiry : exec (.nozzleStopHoldoffExpiry k) s =
    .next ((s.onCal fun c => { c with holdoff := c.holdoff.set k.1 false k.2 }).stopForChanges k) :=
  congrArg Host.Outcome.next (if_pos hold)

/-- R386: with changes that wait, the next stop is queued at once, and the second begins anew. -/
theorem exec_nozzleStopHoldoffExpiry_queues (hrun : s.barRuns k = true) (hpend : s.cal.pendBar[k] ≠ [])
    (hstop : s.cal.stopQ[k] = false) : exec (.nozzleStopHoldoffExpiry k) s = .next (s.queueBarStop k) := by
  let t := s.onCal fun c => { c with holdoff := c.holdoff.set k.1 false k.2 }
  have hhold : t.cal.holdoff[k] = false := s.cal.holdoff.getElem_set_self k.2
  have hback : (s.cal.holdoff.set k.1 false k.2).set k.1 true k.2 = s.cal.holdoff := by
    have hk : s.cal.holdoff[k.1] = true := hold
    rw [Vector.set_set, ← hk, Vector.set_getElem_self]
  calc exec (.nozzleStopHoldoffExpiry k) s = .next (t.stopForChanges k) := exec_nozzleStopHoldoffExpiry hold
    _ = .next ((s.queueBarStop k).onCal fun c =>
          { c with holdoff := (s.cal.holdoff.set k.1 false k.2).set k.1 true k.2 }) :=
        congrArg Host.Outcome.next (stopForChanges_queues (s := t) hrun hpend hstop hhold)
    _ = .next (s.queueBarStop k) := by rw [hback]; rfl

end

end

/-- Settles O30, command by command. -/
theorem pressPinsAndEmergencyStop : Obligations.PressPinsAndEmergencyStop := by
  unfold Obligations.PressPinsAndEmergencyStop
  refine ⟨⟨fun s hs => ?estop, fun s hs => ?release, fun s hs => ?holdoff⟩,
    fun s b hup hb hroom => ?pressRun, fun s hrej hend => ?reject, fun s p hup => ?pin,
    fun s k hold => ⟨fun hstays => ?stays, fun hrun hpend hstop => ?stops⟩⟩
  case estop =>
    refine ⟨_, exec_estopAssert hs, ?_⟩
    cases hrun : s.engRuns with
    | false => exact ⟨s.estopped_pair, rfl, rfl, nofun, fun _ => rfl, rfl⟩
    | true =>
      have hinteg := s.estopped.classD_integ 0x0608 unitNone 0 0x0A
      refine ⟨fun p => State.classD_pair _ _ _ _ (s.estopped_pair p), ?_⟩
      rw [if_pos rfl, hinteg]
      exact ⟨rfl, rfl, fun _ => ⟨rfl, rfl⟩, nofun, s.estopped.classD_mem ..⟩
  case release => exact congrArg Host.Outcome.next (if_pos hs)
  case holdoff => exact congrArg Host.Outcome.next (if_neg (ne_true_of_eq_false hs))
  case pressRun =>
    exact ⟨_, exec_pressRunChange hup hb hroom, rfl, rfl, rfl⟩
  case reject =>
    refine ⟨_, exec_rejectPulseEnd hrej hend, ?_⟩
    rw [State.settleOk_eq rfl]
    exact ⟨rfl, rfl⟩
  case pin =>
    exact ⟨_, exec_pinCheckFault p hup, s.classD_integ .., fun h q => State.classD_halts _ _ _ _ h q, s.classD_sheets _ _ _ _,
      s.classD_mem .., State.classD_cfg .., s.classD_mer .., s.classD_bar ..⟩
  case stays =>
    have hself := stopForChanges_eq_self (s := s.onCal fun c => { c with holdoff := c.holdoff.set k.1 false k.2 }) hstays
    exact (exec_nozzleStopHoldoffExpiry hold).trans (congrArg Host.Outcome.next hself)
  case stops =>
    obtain ⟨e₁, e₂, ht⟩ := queueBarStop_eq k s
    refine ⟨_, exec_nozzleStopHoldoffExpiry_queues hold hrun hpend hstop, ?_⟩
    rw [ht]
    refine ⟨rfl, fun q hq => (s.onRing_get 0 q _).trans (if_neg hq.symm), ?_, rfl, rfl⟩
    have hring := s.onRing_get_same 0 fun c => { c with fetched := c.fetched ++ [e₁, e₂] }
    exact (congrArg (·.fetched.length) hring).trans (List.length_append (bs := [e₁, e₂]))

end Sys2Proof.Machine
end

section
/-!
The boot steps (R60, R68 to R70, R79, R89, R90, R487): the end of each hold of the reset, and what each step of the way to
the boot ROM changes.
-/
namespace Sys2Proof.Machine
open Sys2Proof

section
variable {s : State}

namespace State

/-! ## Registers that take a number -/

theorem rdN_wrN_same {off v : Nat} (h : CfgForm s) (hv : v < 2 ^ 32) : (s.wrN off v).rdN off = v := by
  rw [rdN, wrN, rd_wr_same h, BitVec.toNat_ofNat, Nat.mod_eq_of_lt hv]

theorem rdN_wrN_ne {off a : Nat} (v : Nat) (h : a ≠ off) : (s.wrN off v).rdN a = s.rdN a :=
  congrArg BitVec.toNat (rd_wr_ne s _ h)

/-! ## The MAC addresses of the OTP array (R421) -/

/-- The registers of one port read its OTP address. -/
def loadMac (p : EthIx) (mac : BitVec 48) (s : State) : State :=
  (s.wrN (aEthPort p.1 4) (mac.toNat % 2 ^ 32)).wrN (aEthPort p.1 8) (mac.toNat / 2 ^ 32)

theorem loadMacs_eq (s : State) : s.loadMacs = (s.loadMac 0 s.sys.mac[0]).loadMac 1 s.sys.mac[1] := rfl

theorem loadMac_cfgForm (h : CfgForm s) (p : EthIx) (mac : BitVec 48) : CfgForm (s.loadMac p mac) := (h.wrN _ _).wrN _ _

theorem loadMac_rdN (h : CfgForm s) (p : EthIx) (mac : BitVec 48) :
    (s.loadMac p mac).rdN (aEthPort p.1 4) = mac.toNat % 2 ^ 32 ∧
      (s.loadMac p mac).rdN (aEthPort p.1 8) = mac.toNat / 2 ^ 32 := by
  have hne : aEthPort p.1 4 ≠ aEthPort p.1 8 := by simp [aEthPort]
  have hmac := mac.isLt
  exact ⟨(rdN_wrN_ne _ hne).trans (rdN_wrN_same h (by omega)), rdN_wrN_same (h.wrN _ _) (by omega)⟩

/-- The registers of the other port stay. -/
theorem loadMac_rdN_other {p q : EthIx} (hpq : q ≠ p) (mac : BitVec 48) {j : Nat} (hj : j < 0x1000) :
    (s.loadMac p mac).rdN (aEthPort q.1 j) = s.rdN (aEthPort q.1 j) := by
  have hne : ∀ i < 0x1000, aEthPort q.1 j ≠ aEthPort p.1 i := fun i hi he =>
    hpq (Fin.ext (by simp only [aEthPort] at he; omega))
  exact (rdN_wrN_ne _ (hne 8 (by decide))).trans (rdN_wrN_ne _ (hne 4 (by decide)))

theorem loadMacs_rdN (h : CfgForm s) : ∀ p : EthIx, s.loadMacs.rdN (aEthPort p.1 4) = s.sys.mac[p].toNat % 2 ^ 32 ∧
    s.loadMacs.rdN (aEthPort p.1 8) = s.sys.mac[p].toNat / 2 ^ 32 := by
  rw [loadMacs_eq]
  refine Fin.forall_fin_two.mpr ⟨?_, loadMac_rdN (loadMac_cfgForm h 0 _) 1 _⟩
  obtain ⟨hlow, hhigh⟩ := loadMac_rdN h 0 s.sys.mac[0]
  exact ⟨(loadMac_rdN_other (by decide) _ (by decide)).trans hlow, (loadMac_rdN_other (by decide) _ (by decide)).trans hhigh⟩

/-! ## The report of an untraced time (R307) -/

theorem postAsync_hifOnly (e : Event) (s : State) : ∃ h, s.postAsync e = s.onHif fun _ => h := by
  unfold postAsync
  split <;> exact ⟨_, rfl⟩

theorem untraced_hifOnly (s : State) : ∃ h, s.untraced = s.onHif fun _ => h := by
  unfold untraced
  split
  · exact ⟨s.hif, rfl⟩
  · exact postAsync_hifOnly ..

/-! ## The seed of Meridian (R60, R89, R90) -/

/-- Meridian at the time `now`, with the host interface at `h`. -/
def seededAt (now : Nat) (h : Hif) (s : State) : State :=
  (((s.onMer fun m => { m with time := now, copy := now, trace := !s.sdr.timeLost }).onSys fun y =>
    { y with seeded := true, xspiHigh := true }).emit (.xspiReset true)).onHif fun _ => h

/-- What the seed changes of each component. A time that is a variable keeps the kernel from evaluating it where it compares
the states. -/
theorem seededAt_parts (now : Nat) (h : Hif) (s : State) :
    (s.seededAt now h).mer = { s.mer with time := now, copy := now, trace := !s.sdr.timeLost } ∧
      (s.seededAt now h).sys = { s.sys with seeded := true, xspiHigh := true } ∧
      (s.seededAt now h).out = s.out ++ [.xspiReset true] ∧
      { s.seededAt now h with mer := s.mer, sys := s.sys, hif := s.hif, out := s.out } = s :=
  ⟨rfl, rfl, rfl, rfl⟩

end State

/-! ## The boot commands -/

section
variable (hclear : s.clear = true)
include hclear

theorem exec_mainPllLock : exec .mainPllLock s = .next (s.onSys fun y => { y with pll := true }) :=
  congrArg Host.Outcome.next (if_pos hclear)

theorem exec_bootGo {v : Word} (hlink : s.hif.linkUp = true) (hgo : v.getLsbD 31 = true) (hstage : s.sys.stage = 2) :
    exec (.bootGo v) s = .next (s.onSys fun y => { y with stage := 3, src := 2 }) := by
  have hwrite : s.writeBootCtrl v = s.onSys fun y => { y with stage := 3, src := 2 } :=
    if_pos (by simp only [hgo, hstage, decide_true, Bool.and_self])
  exact congrArg Host.Outcome.next ((if_pos (by simp only [hclear, hlink, Bool.and_self])).trans hwrite)

variable (hpll : s.sys.pll = true)
include hpll

theorem exec_otpReadDone : exec .otpReadDone s = .next (s.onSys fun y => { y with otpRead := true }).loadMacs :=
  congrArg Host.Outcome.next (if_pos (by simp only [hclear, hpll, Bool.and_self]))

/-- R89, R90: Meridian takes Sidereal's time; in the host interface, only an event may wait. -/
theorem exec_meridianSeed (hseed : s.sys.seeded = false) : ∃ h, exec .meridianSeed s =
    .next (s.seededAt (s.sdr.sec * (1000000000 * 2 ^ 24) + s.sdr.sub * (1000000000 * 2 ^ 9)) h) := by
  obtain ⟨h, hh⟩ := State.untraced_hifOnly _
  exact ⟨h, (if_pos (by simp only [hclear, hpll, hseed, Bool.not_false, Bool.and_self])).trans
    (congrArg Host.Outcome.next hh)⟩

theorem exec_hbmTrainingDone (hotp : s.sys.otpRead = true) (hseed : s.sys.seeded = true) :
    exec .hbmTrainingDone s = .next ((s.onSys fun y => { y with hbm := true }).onSpl fun u =>
      { u with chans := u.chans.map fun c => { c with selfRef := false } }) :=
  if_pos (by simp only [hclear, hpll, hotp, hseed, Bool.and_self])

theorem exec_bootAwaitHost (hseed : s.sys.seeded = true) (hstage : s.sys.stage < 2) :
    exec .bootAwaitHost s = .next (s.onSys fun y => { y with stage := 2 }) :=
  congrArg Host.Outcome.next (if_pos (by simp only [hclear, hpll, hseed, hstage, decide_true, Bool.and_self]))

end

end

/-- Settles O2, step by step. -/
theorem bootStepsInOrder : Obligations.BootStepsInOrder := by
  unfold Obligations.BootStepsInOrder
  refine ⟨fun s => ⟨fun hrails => ?porst, rfl, rfl, rfl, rfl, rfl⟩, fun s hclear => ?pll,
    fun s hform hclear hpll => ?otp, fun s hclear hpll hseed => ?seed, fun s hclear hpll hotp hseed => ?hbm,
    fun s hclear hpll hseed hstage => ?await, fun s v hclear hlink hgo hstage => ?go⟩
  case porst => exact congrArg Host.Outcome.next (if_pos hrails)
  case pll => exact exec_mainPllLock hclear
  case otp =>
    have hread : CfgForm (s.onSys fun y => { y with otpRead := true }) := hform
    exact ⟨_, exec_otpReadDone hclear hpll, rfl, State.loadMacs_rdN hread, rfl⟩
  case seed =>
    obtain ⟨h, hseeds⟩ := exec_meridianSeed hclear hpll hseed
    exact ⟨_, hseeds, s.seededAt_parts _ h⟩
  case hbm =>
    exact ⟨_, exec_hbmTrainingDone hclear hpll hotp hseed, rfl, fun c => s.spl.chans.getElem_map _ c.2, rfl⟩
  case await => exact exec_bootAwaitHost hclear hpll hseed hstage
  case go => exact exec_bootGo hclear hlink hgo hstage

end Sys2Proof.Machine
end

section
/-!
Firmware reports ready (R79, R165, R390, R406, R479, R484, R488): what it takes from the ledger, which events wait, and that
nothing else of the device moves.
-/
namespace Sys2Proof.Machine
open Sys2Proof

section
variable {s t : State}

namespace State

/-- A register reads what is stored, whatever else differs. -/
theorem rd_congr (h : t.cfg = s.cfg) (off : Nat) : t.rd off = s.rd off := congrArg (tget regReset · off) h

/-- A loop whose turns change only the host interface changes only it. -/
theorem forEach_hifOnly {α : Type} (g : α → State → State) (h : ∀ a t, ∃ u, g a t = t.onHif fun _ => u) :
    ∀ (l : List α) (s : State), ∃ u, s.forEach l g = s.onHif fun _ => u
  | [], s => ⟨s.hif, rfl⟩
  | a :: l, s => by
    obtain ⟨u, hu⟩ := h a s
    obtain ⟨v, hv⟩ := forEach_hifOnly g h l (g a s)
    exact ⟨v, by rw [forEach_cons, hv, hu]; rfl⟩

theorem forEach_errorUnit_hifOnly {α : Type} (code : α → Code) (cls : Cls) (unit det src : Nat) (l : List α) (s : State) :
    ∃ u, (s.forEach l fun a => errorUnit (code a) cls unit det src) = s.onHif fun _ => u :=
  forEach_hifOnly _ (fun _ t => postAsync_hifOnly _ t) l s

/-- R390: compaction rewrites the ledger alone. -/
theorem compactLedger_calOnly (s : State) : ∃ c, s.compactLedger = s.onCal fun _ => c := by
  unfold compactLedger
  split
  · exact ⟨_, rfl⟩
  · exact ⟨s.cal, rfl⟩

/-! ## What firmware takes from the ledger (R36, R165, R402, R406) -/

/-- R13, R165: of the registers, only the lane enables can change. -/
theorem rd_holdLanes {off : Nat} (h0 : off ≠ aDcmp 0) (h4 : off ≠ aDcmp 4) : s.holdLanes.rd off = s.rd off :=
  (rd_wr_ne _ _ h4).trans (rd_wr_ne s _ h0)

theorem rd_takeOut {off : Nat} (h0 : off ≠ aDcmp 0) (h4 : off ≠ aDcmp 4) : s.takeOut.rd off = s.rd off :=
  rd_holdLanes (s := (s.onSe _).onExp _) h0 h4

theorem takeOut_parts (s : State) : ∃ e x l f, s.takeOut =
    (((s.onSe fun _ => e).onExp fun _ => x).onSpl fun _ => l).onCfg fun _ => f := ⟨_, _, _, _, rfl⟩

/-- The state that firmware's report of being ready leaves. -/
def firmwareServes (s : State) : State :=
  ((s.takeOut.forEach (List.replicate s.corruptSlots ()) fun _ => errorUnit 0x0C07 .c unitNone 0 0x10).compactLedger.onSys
    fun y => { y with fwReady := true, svc := 1, bootErrs := [] }).forEach s.sys.bootErrs fun c => errorUnit c .c unitNone 0 1

/-- Beside what is taken from the ledger, the report changes the ledger, the events that wait, and the record of the boot. -/
theorem firmwareServes_parts (s : State) : ∃ h c, s.firmwareServes = ((s.takeOut.onCal fun _ => c).onSys
    fun y => { y with fwReady := true, svc := 1, bootErrs := [] }).onHif fun _ => h := by
  obtain ⟨_, hcorrupt⟩ := forEach_errorUnit_hifOnly (fun _ => 0x0C07) .c unitNone 0 0x10
    (List.replicate s.corruptSlots ()) s.takeOut
  obtain ⟨c, hcompact⟩ := compactLedger_calOnly (s.takeOut.onHif fun _ => _)
  obtain ⟨h, hboot⟩ := forEach_errorUnit_hifOnly (fun c => c) .c unitNone 0 1 s.sys.bootErrs _
  exact ⟨h, c, by rw [firmwareServes, hboot, hcorrupt, hcompact]; rfl⟩

/-- R488: with no failure to report, no event waits that did not before. -/
theorem firmwareServes_hif (hcorrupt : s.corruptSlots = 0) (hboot : s.sys.bootErrs = []) : s.firmwareServes.hif = s.hif := by
  obtain ⟨c, hc⟩ := compactLedger_calOnly s.takeOut
  rw [firmwareServes, hcorrupt, hboot, List.replicate_zero, forEach_nil, forEach_nil, hc]
  rfl

end State

theorem exec_firmwareReady (hclear : s.clear = true) (hhbm : s.sys.hbm = true) (hseed : s.sys.seeded = true)
    (hstage : s.sys.stage = 4) (hprobed : s.sys.probed = true) (hready : s.sys.fwReady = false) (hcores : 4 ≤ s.activeCores) :
    exec .firmwareReady s = .next s.firmwareServes :=
  if_pos (by simp only [hclear, hhbm, hseed, hstage, hprobed, hready, hcores, Bool.not_false, decide_true, Bool.and_self])

theorem exec_overtempWarning (i : Fin 8) (hup : s.up = true) (hroom : AsyncRoom s) :
    exec (.overtempWarning i) s = .next (s.onHif fun u => { u with async := u.async ++ [s.unitEvent 0x1007 .c unitNone 0 0] }) :=
  congrArg Host.Outcome.next ((if_pos hup).trans (State.errorUnit_of_room hroom ..))

end

/-- Settles O4: the report is the ledger's part, then the events, then the mailbox in service; the warning is one event. -/
theorem firmwareReadyOpensService : Obligations.FirmwareReadyOpensService := by
  unfold Obligations.FirmwareReadyOpensService
  refine ⟨fun s hclear hhbm hseed hstage hprobed hready hcores =>
    ⟨_, exec_firmwareReady hclear hhbm hseed hstage hprobed hready hcores, ?_⟩,
    fun s i hup hroom => ⟨_, exec_overtempWarning i hup hroom, rfl⟩⟩
  obtain ⟨h, c, hparts⟩ := s.firmwareServes_parts
  obtain ⟨e, x, l, f, htaken⟩ := s.takeOut_parts
  refine ⟨?sys, State.firmwareServes_hif, fun off h0 h4 => ?rd, ?frame⟩
  case sys => rw [hparts, htaken]; rfl
  case rd => exact (State.rd_congr (by rw [hparts]; rfl) off).trans (State.rd_takeOut h0 h4)
  case frame => rw [hparts, htaken]; rfl

end Sys2Proof.Machine
end

section
/-!
Sidereal (R14, R82 to R88): a tick of XTAL32, its loads and alarms, the copy of the seconds, and the crossing of a comparator.
-/
namespace Sys2Proof.Machine
open Sys2Proof

section
variable {s : State}

namespace State

/-! ## The bytes that leave for the host (R473) -/

/-- A loop commutes with what each turn commutes with. -/
theorem forEach_comm {α : Type} (u : State → State) (g : α → State → State) (h : ∀ a t, g a (u t) = u (g a t)) :
    ∀ (l : List α) (t : State), (u t).forEach l g = u (t.forEach l g)
  | [], _ => rfl
  | a :: l, t => by rw [forEach_cons, forEach_cons, h, forEach_comm u g h l]

theorem hostOut_pmcOnly (s : State) (n : Nat) : ∃ p, s.hostOut n = s.onPmc fun _ => p := by
  unfold hostOut pass
  split
  · exact ⟨s.pmc, rfl⟩
  · refine forEach_pmcOnly _ (fun i t => ?_) _ _
    unfold passOne
    split
    · exact ⟨_, rfl⟩
    · exact ⟨t.pmc, rfl⟩

/-- R473: counting the bytes commutes with every change that leaves the registers and the counters alone. -/
theorem hostOut_comm (u : State → State) (hcfg : ∀ t, (u t).cfg = t.cfg) (hpmc : ∀ t g, u (onPmc g t) = onPmc g (u t))
    (n : Nat) (s : State) : (u s).hostOut n = u (s.hostOut n) := by
  have hreg (t : State) (off : Nat) : (u t).rdN off = t.rdN off := congrArg BitVec.toNat (rd_congr (hcfg t) off)
  have hone (m : Fin 16) (t : State) : (u t).passOne 3 0 n m = u (t.passOne 3 0 n m) := by
    simp only [passOne, fbit, fld, hreg, apply_ite u]
    exact ite_congr rfl (fun _ => (hpmc t _).symm) fun _ => rfl
  have hfreeze : (u s).fbit (aPmc 0) 31 = s.fbit (aPmc 0) 31 := congrArg (bit · 31) (hreg s _)
  rw [hostOut, hostOut, pass, pass, hfreeze, forEach_comm u _ hone, apply_ite u]

/-- The reply to a read, after a change that leaves the registers and the counters alone. -/
theorem reply_comm (u : State → State) (hcfg : ∀ t, (u t).cfg = t.cfg) (hpmc : ∀ t g, u (onPmc g t) = onPmc g (u t))
    (v : Word) (s : State) : (u s).reply v = (u (s.hostOut 4)).emit (.readReply v) := by
  rw [reply, hostOut_comm u hcfg hpmc]

/-! ## A tick of XTAL32 (R84, R86) -/

/-- R84: the counters advance, or take the pending load. -/
def sdrCount (s : State) : Sidereal :=
  if s.sdr.busy then { s.sdr with sec := s.sdrPair 0x14, sub := s.fld (aSdr 0x10) 14 0, busy := false, timeLost := false }
  else if s.sdr.sub + 1 < 32768 then { s.sdr with sub := s.sdr.sub + 1 }
  else { s.sdr with sub := 0, sec := (s.sdr.sec + 1) % 2 ^ 48 }

theorem exec_siderealTick (s : State) :
    exec .siderealTick s = .next (((s.onSdr fun _ => s.sdrCount).sdrAlarm 0).sdrAlarm 1) := rfl

theorem sdrCount_load (h : s.sdr.busy = true) : s.sdrCount =
    { s.sdr with sec := s.sdrPair 0x14, sub := s.fld (aSdr 0x10) 14 0, busy := false, timeLost := false } := if_pos h

theorem sdrCount_sub (h : s.sdr.busy = false) (hsub : s.sdr.sub < 32767) :
    s.sdrCount = { s.sdr with sub := s.sdr.sub + 1 } := by
  rw [sdrCount, if_neg (ne_true_of_eq_false h), if_pos (by omega)]

theorem sdrCount_second (h : s.sdr.busy = false) (hsub : s.sdr.sub = 32767) :
    s.sdrCount = { s.sdr with sub := 0, sec := (s.sdr.sec + 1) % 2 ^ 48 } := by
  rw [sdrCount, if_neg (ne_true_of_eq_false h), if_neg (by omega)]

theorem sdrCount_armed (s : State) : s.sdrCount.armed = s.sdr.armed := by
  unfold sdrCount
  split
  · rfl
  · split <;> rfl

/-! ## Alarms (R86) -/

/-- R86: the alarm is armed and its value is reached. -/
def alarmDue (s : State) (n : Fin 2) : Bool := s.sdr.armed[n] && decide (s.sdrPair (0x30 + 8 * n.1) ≤ s.sdr.sec)

theorem sdrAlarm_of_not_due {n : Fin 2} (h : s.alarmDue n = false) : s.sdrAlarm n = s :=
  if_neg (ne_true_of_eq_false h)

/-- R86: an alarm that is due is flagged and disarmed. -/
theorem sdrAlarm_of_due {n : Fin 2} (h : s.alarmDue n = true) : (s.sdrAlarm n).sdr =
    { s.sdr with armed := s.sdr.armed.set n.1 false n.2, alarm := s.sdr.alarm.set n.1 true n.2 } :=
  congrArg sdr (if_pos h)

/-- What the comparison of one alarm leaves of Sidereal: the time, and the other alarm. -/
theorem sdrAlarm_leaves (n : Fin 2) (s : State) : (s.sdrAlarm n).sdr.sec = s.sdr.sec ∧ (s.sdrAlarm n).sdr.sub = s.sdr.sub ∧
    ∀ m, m ≠ n → (s.sdrAlarm n).sdr.alarm[m] = s.sdr.alarm[m] ∧ (s.sdrAlarm n).sdr.armed[m] = s.sdr.armed[m] := by
  cases hdue : s.alarmDue n with
  | false =>
    rw [sdrAlarm_of_not_due hdue]
    exact ⟨rfl, rfl, fun _ _ => ⟨rfl, rfl⟩⟩
  | true =>
    rw [sdrAlarm_of_due hdue]
    exact ⟨rfl, rfl, fun m hm => ⟨Vector.getElem_set_ne n.2 m.2 fun e => hm (Fin.ext e.symm),
      Vector.getElem_set_ne n.2 m.2 fun e => hm (Fin.ext e.symm)⟩⟩

theorem sdrAlarm_flags {n : Fin 2} (h : s.alarmDue n = true) :
    (s.sdrAlarm n).sdr.alarm[n] = true ∧ (s.sdrAlarm n).sdr.armed[n] = false := by
  rw [sdrAlarm_of_due h]
  exact ⟨Vector.getElem_set_self _, Vector.getElem_set_self _⟩

/-- Whether an alarm is due does not depend on the other. -/
theorem alarmDue_sdrAlarm {n m : Fin 2} (h : m ≠ n) : (s.sdrAlarm n).alarmDue m = s.alarmDue m := by
  obtain ⟨hsec, -, hother⟩ := sdrAlarm_leaves n s
  have hpair : (s.sdrAlarm n).sdrPair (0x30 + 8 * m.1) = s.sdrPair (0x30 + 8 * m.1) := by
    simp only [sdrPair, rdN, rd_congr (sdrAlarm_cfg n s)]
  rw [alarmDue, alarmDue, hpair, hsec, (hother m h).2]

/-- R86: after both comparisons an alarm that was due is flagged and disarmed, and the time stands. -/
theorem sdrAlarms_flag {n : Fin 2} (h : s.alarmDue n = true) :
    ((s.sdrAlarm 0).sdrAlarm 1).sdr.alarm[n] = true ∧ ((s.sdrAlarm 0).sdrAlarm 1).sdr.armed[n] = false ∧
      ((s.sdrAlarm 0).sdrAlarm 1).sdr.sec = s.sdr.sec ∧ ((s.sdrAlarm 0).sdrAlarm 1).sdr.sub = s.sdr.sub := by
  obtain ⟨hsec, hsub, -⟩ := sdrAlarm_leaves 0 s
  obtain ⟨hsec', hsub', hother⟩ := sdrAlarm_leaves 1 (s.sdrAlarm 0)
  refine and_assoc.mp ⟨?_, hsec'.trans hsec, hsub'.trans hsub⟩
  by_cases hn : n = 1
  · subst hn
    exact sdrAlarm_flags ((alarmDue_sdrAlarm (by decide)).trans h)
  · obtain rfl : n = 0 := by omega
    obtain ⟨halarm, harmed⟩ := sdrAlarm_flags h
    obtain ⟨halarm', harmed'⟩ := hother 0 (by decide)
    exact ⟨halarm'.trans halarm, harmed'.trans harmed⟩

/-! ## Writes of SDR_CTRL (R84, R86) -/

theorem sdrCtrl_load (h : s.sdr.busy = false) : s.sdrCtrl 1 = s.onSdr fun d => { d with busy := true } := by
  simp [sdrCtrl, sdrArmBits, all, h, List.finRange]

theorem sdrCtrl_arm (n : Fin 2) : s.sdrCtrl (BitVec.ofNat 32 (2 ^ (1 + n.1))) =
    s.onSdr fun d => { d with armed := d.armed.set n.1 true } := by
  revert n
  exact Fin.forall_fin_two.mpr ⟨rfl, rfl⟩

theorem sdrCtrl_disarm (n : Fin 2) : s.sdrCtrl (BitVec.ofNat 32 (2 ^ (3 + n.1))) =
    s.onSdr fun d => { d with armed := d.armed.set n.1 false } := by
  revert n
  exact Fin.forall_fin_two.mpr ⟨rfl, rfl⟩

/-! ## Comparators (R85) -/

/-- R85: a comparator with its output low crosses upwards, and its flag was clear. -/
def crossed (n : Fin 4) (d : Sidereal) : Sidereal :=
  { d with high := d.high.set n.1 true, event := d.event.set n.1 true, stamp := d.stamp.set n.1 d.sec }

theorem exec_comparatorSample_crossing (n : Fin 4) (level : Nat) (hen : s.fbit (aSdr (0x40 + 4 * n.1)) 15 = true)
    (hedge : s.fbit (aSdr (0x40 + 4 * n.1)) 11 = false) (hlow : s.sdr.high[n] = false) (hclear : s.sdr.event[n] = false)
    (hlevel : 75 * s.fld (aSdr (0x40 + 4 * n.1)) 7 0 + 160 ≤ level) :
    exec (.comparatorSample n level) s = .next ((s.onSdr (crossed n)).setW1c (aSdr 0x24) n.1) := by
  have hcompare : s.compare n level = (true, false) := if_pos hlevel
  have hlow' : s.sdr.high[n.1] = false := hlow
  have hclear' : s.sdr.event[n.1] = false := hclear
  simp [exec, execComparatorSample, hen, hcompare, hedge, hlow', hclear', onSdr, crossed]

/-- R14, R87: a flag that hardware has set in this tick outlasts a write of 1. -/
theorem writeSdrStatus_held (n : Fin 4) (v : Word) (hset : s.sdr.event[n] = true) (hheld : s.heldW1c (aSdr 0x24) n.1 = true) :
    (s.writeSdrStatus v).sdr.event[n] = true := by
  have hset' : s.sdr.event[n.1] = true := hset
  simp [writeSdrStatus, clears, hheld, hset']

end State

/-! ## The commands of Sidereal -/

theorem exec_siderealPowerOnReset (h : s.sys.mainRails = false ∨ Hold.porst ∈ s.sys.held) :
    exec .siderealPowerOnReset s =
      .next ((s.onSdr fun _ => Sidereal.reset).onCfg fun t => t.filter fun e => decide (e.1 / 0x100000 ≠ 4)) :=
  if_pos (by simpa using h)

theorem exec_sdrSubRead (h : s.sdrReach = true) : exec .sdrSubRead s =
    .next (((s.hostOut 4).onSdr fun d => { d with secCopy := d.sec }).emit (.readReply (BitVec.ofNat 32 s.sdr.sub))) :=
  (if_pos h).trans (congrArg Host.Outcome.next (State.reply_comm (State.onSdr _) (fun _ => rfl) (fun _ _ => rfl) _ s))

section
variable (hreach : s.sdrReach = true)
include hreach

theorem exec_sdrLoad (v : Word) : exec (.sdrLoad v) s = .next ((s.hostIn 4).sdrCtrl v) :=
  congrArg Host.Outcome.next (if_pos hreach)

theorem exec_sdrArm (n : Fin 2) (v : Word) : exec (.sdrArm n v) s = .next ((s.hostIn 4).sdrCtrl v) :=
  congrArg Host.Outcome.next (if_pos hreach)

theorem exec_sdrDisarm (n : Fin 2) (v : Word) : exec (.sdrDisarm n v) s = .next ((s.hostIn 4).sdrCtrl v) :=
  congrArg Host.Outcome.next (if_pos hreach)

end

end

/-- Settles O5, clause by clause: power-on, tick, alarms, SDR_CTRL, the copy of the seconds, and a crossing. -/
theorem siderealCountsLoadsAndRecords : Obligations.SiderealCountsLoadsAndRecords := by
  unfold Obligations.SiderealCountsLoadsAndRecords
  refine ⟨fun s h => ⟨_, exec_siderealPowerOnReset h, rfl, fun e => ?filter, rfl⟩,
    fun s hidle => ⟨_, s.exec_siderealTick, ?count⟩,
    fun s n hbusy hsub harmed hreached => ⟨_, s.exec_siderealTick, ?alarm⟩, fun s hreach hbusy => ?load,
    fun s n hreach => ⟨?arm, ?disarm⟩, fun s hreach => ?copy,
    fun s n level hen hedge hlow hclear hlevel =>
      ⟨_, State.exec_comparatorSample_crossing n level hen hedge hlow hclear hlevel, rfl, rfl, ?held⟩⟩
  case filter => simp
  case count =>
    have hnone (n : Fin 2) : (s.onSdr fun _ => s.sdrCount).alarmDue n = false := by
      have harmed : (s.onSdr fun _ => s.sdrCount).sdr.armed = #v[false, false] := (State.sdrCount_armed s).trans hidle
      rw [State.alarmDue, harmed]
      revert n
      exact Fin.forall_fin_two.mpr ⟨rfl, rfl⟩
    rw [State.sdrAlarm_of_not_due (hnone 0), State.sdrAlarm_of_not_due (hnone 1)]
    exact ⟨State.sdrCount_sub, State.sdrCount_second, State.sdrCount_load, rfl⟩
  case alarm =>
    rw [State.sdrCount_sub hbusy hsub]
    exact State.sdrAlarms_flag ((Bool.and_eq_true _ _).mpr ⟨harmed, decide_eq_true hreached⟩)
  case load =>
    obtain ⟨p, hp⟩ := s.hostIn_pmcOnly 4
    rw [exec_sdrLoad hreach, hp, State.sdrCtrl_load (by exact hbusy)]
    rfl
  case arm =>
    obtain ⟨p, hp⟩ := s.hostIn_pmcOnly 4
    rw [exec_sdrArm hreach, hp, State.sdrCtrl_arm]
    rfl
  case disarm =>
    obtain ⟨p, hp⟩ := s.hostIn_pmcOnly 4
    rw [exec_sdrDisarm hreach, hp, State.sdrCtrl_disarm]
    rfl
  case copy =>
    obtain ⟨p, hp⟩ := s.hostOut_pmcOnly 4
    rw [exec_sdrSubRead hreach, hp]
    rfl
  case held =>
    refine State.writeSdrStatus_held n _ ?_ ?_
    · exact Vector.getElem_set_self _
    · simp [State.heldW1c, State.setW1c]

end Sys2Proof.Machine
end

section
/-!
Reads of BAR0 (R83, R93, R94, R133, R305, R428, R491): the value that is returned, what the read holds or clears, and the
answer to an access of the wrong form.
-/
namespace Sys2Proof.Machine
open Sys2Proof

section
variable {s : State}

namespace State

/-! ## The value and what the read changes -/

theorem bar0Read_answers {off : Nat} (hready : s.sys.fwReady = true) (hinfo : (regInfo off).isSome = true) :
    s.bootOnly off = false ∧ (regInfo off).isNone = false := by
  simp [bootOnly, hready, hinfo]

/-- R133: the HI register at an offset is held at a value. -/
def holdHi (off : Nat) (v : Word) (s : State) : State := s.onHif fun h => { h with hiCopy := tput (fun _ => 0) h.hiCopy off v }

theorem bar0Read_snapshot {off : Nat} (hready : s.sys.fwReady = true) (hinfo : (regInfo off).isSome = true)
    (hlo : snapshotLo off = true) :
    s.bar0Read off = (s.holdHi (off + 4) (BitVec.ofNat 32 (s.liveHi off)), s.readReg off) := by
  obtain ⟨hboot, hlisted⟩ := bar0Read_answers hready hinfo
  simp only [bar0Read, hboot, hlisted, hlo, Bool.false_eq_true, if_false, if_true]
  rfl

theorem replyData_comm (u : State → State) (hcfg : ∀ t, (u t).cfg = t.cfg) (hpmc : ∀ t g, u (onPmc g t) = onPmc g (u t))
    (b : List Byte) (s : State) : (u s).replyData b = (u (s.hostOut b.length)).emit (.dataReply b) := by
  rw [replyData, hostOut_comm u hcfg hpmc]

theorem badBar0_of_ready (hready : s.sys.fwReady = true) : s.badBar0 = s.badAccess := if_pos hready

end State

/-! ## The commands -/

/-- R93: a read of one aligned double word. -/
theorem exec_read {off : BitVec 26} (halign : off.toNat % 4 = 0) (hbar : s.bar0Up = true) :
    exec (.snapshotLoRead ⟨off, false⟩) s =
      .next ((s.bar0Read off.toNat).1.reply (s.bar0Read off.toNat).2) := by
  simp [exec, execSnapshotLoRead, hbar, State.aligned, halign]

theorem exec_merTimeFracRead (hup : s.hostUp = true) : exec .merTimeFracRead s =
    .next (((s.hostOut 4).onMer fun m => { m with copy := m.time }).emit
      (.readReply (BitVec.ofNat 32 (s.mer.time / 256 % 65536)))) :=
  congrArg Host.Outcome.next ((if_pos hup).trans
    (State.reply_comm (State.onMer _) (fun _ => rfl) (fun _ _ => rfl) _ s))

/-- R428: the counts that a read of ETH_BT_CNT clears. -/
def EthPort.cleared (e : EthPort) : EthPort := { e with crc := 0, format := 0, noSpace := 0, dup := 0 }

theorem exec_ethBtCntRead (p : EthIx) (hup : s.hostUp = true) : exec (.ethBtCntRead p) s =
    .next (((s.hostOut 4).onEthPort p EthPort.cleared).emit (.readReply (BitVec.ofNat 32 (s.eth.port[p].crc * 2 ^ 24 +
      s.eth.port[p].format * 2 ^ 16 + s.eth.port[p].noSpace * 2 ^ 8 + s.eth.port[p].dup)))) :=
  congrArg Host.Outcome.next ((if_pos hup).trans
    (State.reply_comm (State.onEthPort p EthPort.cleared) (fun _ => rfl) (fun _ _ => rfl) _ s))

section
variable (hbar : s.bar0Up = true)
include hbar

theorem exec_barBadAccess_bar2Read (n : Nat) : exec (.barBadAccess (.bar2Read n)) s =
    .next ((s.hostOut n).emit (.dataReply (List.replicate n 0))) := by
  simp [exec, execBarBadAccess, hbar, State.replyData]

variable (hready : s.sys.fwReady = true)
include hready

theorem exec_barBadAccess_bar0Read (n : Nat) : exec (.barBadAccess (.bar0Read n)) s =
    .next ((s.hostOut n).badAccess.emit (.dataReply (List.replicate n 0xFF))) := by
  have hreply := State.replyData_comm State.badAccess (fun _ => rfl) (fun _ _ => rfl) (List.replicate n 0xFF) s
  rw [List.length_replicate] at hreply
  simpa [exec, execBarBadAccess, hbar, State.badBar0_of_ready hready] using hreply

theorem exec_barBadAccess_write : exec (.barBadAccess .bar0Write) s = .next s.badAccess ∧
    exec (.barBadAccess .bar2Write) s = .next s.badAccess := by
  simp [exec, execBarBadAccess, hbar, State.badBar0_of_ready hready]

end
end

/-- Settles O12, read by read. -/
theorem readsReturnAndHold : Obligations.ReadsReturnAndHold := by
  unfold Obligations.ReadsReturnAndHold
  refine ⟨fun s off halign hbar hready hinfo hlo hform => ?snapshot, fun s hup => ?frac, fun s p hup => ?counts,
    fun s n hbar hready => ⟨?read0, ?write0, ?write2, ?read2⟩⟩
  case snapshot =>
    obtain ⟨p, hp⟩ := s.hostOut_pmcOnly 4
    have hread := exec_read halign hbar
    rw [State.bar0Read_snapshot hready hinfo hlo,
      State.reply_comm (State.holdHi _ _) (fun _ => rfl) (fun _ _ => rfl), hp] at hread
    exact ⟨_, hread, rfl, tget_tput_same _ hform, rfl⟩
  case frac =>
    obtain ⟨p, hp⟩ := s.hostOut_pmcOnly 4
    rw [exec_merTimeFracRead hup, hp]
    rfl
  case counts =>
    obtain ⟨c, hc⟩ := s.hostOut_pmcOnly 4
    have hread := exec_ethBtCntRead p hup
    rw [hc] at hread
    exact ⟨_, hread, rfl, upd_get_same .., fun q hq => upd_get_ne _ _ hq.symm, rfl⟩
  case read0 =>
    obtain ⟨p, hp⟩ := s.hostOut_pmcOnly n
    rw [exec_barBadAccess_bar0Read hbar hready, hp]
    rfl
  case write0 => exact (exec_barBadAccess_write hbar hready).1
  case write2 => exact (exec_barBadAccess_write hbar hready).2
  case read2 =>
    obtain ⟨p, hp⟩ := s.hostOut_pmcOnly n
    rw [exec_barBadAccess_bar2Read hbar, hp]
    rfl

end Sys2Proof.Machine
end

section
/-!
Resets (R77, R78, R80, R402, R480): what a cold and a warm reset leave, and the cause that is recorded.
-/
namespace Sys2Proof.Machine
open Sys2Proof

/-! ## What an event write reaches (R113, R122) -/

/-- Only the host interface, the performance counters and what has left the device differ. -/
def HostOnly (s t : State) : Prop := ∃ h o p, t = ((s.onHif fun _ => h).onOut fun _ => o).onPmc fun _ => p

namespace HostOnly
variable {s t : State}

theorem refl (s : State) : HostOnly s s := ⟨s.hif, s.out, s.pmc, rfl⟩

theorem onHif (h : HostOnly s t) (g : Hif → Hif) : HostOnly s (t.onHif g) := by
  obtain ⟨_, _, _, rfl⟩ := h
  exact ⟨_, _, _, rfl⟩

theorem emit (h : HostOnly s t) (x : Output) : HostOnly s (t.emit x) := by
  obtain ⟨_, _, _, rfl⟩ := h
  exact ⟨_, _, _, rfl⟩

theorem of_pmcOnly {u : State} (h : HostOnly s t) (hu : ∃ p, u = t.onPmc fun _ => p) : HostOnly s u := by
  obtain ⟨_, rfl⟩ := hu
  obtain ⟨_, _, _, rfl⟩ := h
  exact ⟨_, _, _, rfl⟩

theorem count (h : HostOnly s t) (ev n : Nat) : HostOnly s (t.count ev n) := h.of_pmcOnly (t.count_pmcOnly ev n)

theorem hostOut (h : HostOnly s t) (n : Nat) : HostOnly s (t.hostOut n) := h.of_pmcOnly (t.hostOut_pmcOnly n)

theorem ite {c : Prop} [Decidable c] {u : State} (h : HostOnly s t) (k : HostOnly s u) : HostOnly s (if c then t else u) := by
  split <;> assumption

theorem forEach {α : Type} (h : HostOnly s t) (l : List α) {g : α → State → State}
    (hg : ∀ a t, HostOnly s t → HostOnly s (g a t)) : HostOnly s (t.forEach l g) := State.forEach_inv (HostOnly s) g hg l t h

theorem sendMsix (h : HostOnly s t) (r : RingIx) : HostOnly s (t.sendMsix r) :=
  .ite ((h.onHif _).onHif _) ((((h.onHif _).count _ _).hostOut _).emit _)

theorem writeEvent (h : HostOnly s t) (r : RingIx) (e : Event) : HostOnly s (t.writeEvent r e) :=
  have hwritten := ((((h.onHif _).emit _).count _ _).count _ _).hostOut 32
  .ite (hwritten.sendMsix r) (.ite (hwritten.sendMsix r) hwritten)

end HostOnly

section
variable {s t : State}

namespace State

/-! ## Cold resets (R77, R80) -/

theorem idleLanes_hostOnly (s : State) : HostOnly s s.idleLanes := (HostOnly.refl s).forEach _ fun _ _ h => h.emit _

theorem not_outranked (h : s.sys.rstTick ≠ s.tick + 1) (cause : ResetCause) : s.outranked cause = false :=
  decide_eq_false fun hr => h hr.1

theorem coldReset_coldState (cause : ResetCause) (hold : Hold) (s : State) : ColdState s (s.coldReset cause hold) := by
  obtain ⟨h, o, p, hidle⟩ := s.idleLanes_hostOnly
  have hcfg : ∀ e ∈ (s.coldReset cause hold).cfg, e.1 / 0x100000 = 4 ∧ e ∈ s.cfg := by
    intro e he
    rw [coldReset, onSys_cfg, resetCommon_cfg, idleLanes_cfg] at he
    obtain ⟨hmem, hblock⟩ := List.mem_filter.mp he
    exact ⟨of_decide_eq_true hblock, hmem⟩
  refine ⟨hcfg, List.cons_ne_nil _ _, ?_⟩
  rw [coldReset, hidle]
  exact ⟨rfl, rfl, rfl, rfl, rfl, rfl, rfl, rfl, rfl, rfl, rfl, rfl, rfl, rfl, rfl, rfl, rfl, rfl, rfl, rfl, rfl, rfl⟩

/-- R80: a cause that no other of its cycle precedes is the one recorded. -/
theorem coldReset_cause (cause : ResetCause) (hold : Hold) (h : s.sys.rstTick ≠ s.tick + 1) :
    (s.coldReset cause hold).sys.cause = cause := by
  have hout := not_outranked h cause
  simp [coldReset, hout]

theorem mem_coldReset_held (cause : ResetCause) (hold : Hold) (s : State) : hold ∈ (s.coldReset cause hold).sys.held :=
  List.mem_cons_self

/-! ## Warm resets (R77, R80, R402) -/

/-- R421: the OTP addresses are registers. -/
theorem loadMacs_cfgOnly (s : State) : ∃ f, s.loadMacs = s.onCfg fun _ => f := ⟨_, rfl⟩

/-- A warm reset that is the first of its cycle: what is kept over the reset state, and registers. -/
theorem warmReset_parts (cause : ResetCause) (hold : Hold) (h : s.sys.rstTick ≠ s.tick + 1) : ∃ g o p f,
    s.warmReset cause hold = ((s.keepWarm (((s.onHif fun _ => g).onOut fun _ => o).onPmc fun _ => p).resetCommon).onSys fun y =>
      { y with cause := cause, rstTick := s.tick + 1, held := [hold] }).onCfg fun _ => f := by
  obtain ⟨g, o, p, hidle⟩ := s.idleLanes_hostOnly
  rw [warmReset, if_neg h, hidle]
  extract_lets t
  split
  · exact ⟨g, o, p, _, rfl⟩
  · exact ⟨g, o, p, t.cfg, rfl⟩

/-- R402: the spool's bytes, its valid map and its errors are kept. -/
theorem keepWarm_mem (s t : State) : (s.keepWarm t).mem = s.mem := by simp [keepWarm, keepSpool]

theorem keepWarm_spl (s t : State) : (s.keepWarm t).spl = { t.spl with
    valid := s.spl.valid, errs := s.spl.errs, chmap := s.spl.chmap, dev := s.spl.dev, devHost := s.spl.devHost
    chans := s.spl.chans.map fun c => { Chan.reset with ecc := c.ecc, remaps := c.remaps, out := c.out, selfRef := true }
    groups := s.spl.groups.map fun g => { Group.reset with ecc := g.ecc, remaps := g.remaps } } := by
  simp [keepWarm, keepSpool]

theorem keepWarm_bar_staged (s t : State) (k : BarIx) : (s.keepWarm t).bar[k].staged = s.bar[k].staged := by
  simp [keepWarm, keepSpool]

theorem keepWarm_se (s t : State) : (s.keepWarm t).se.stagedLevels = s.se.stagedLevels ∧
    (s.keepWarm t).se.engines = s.se.engines := by
  simp [keepWarm, keepSpool]

theorem keepWarm_counts (s t : State) : (s.keepWarm t).exp.laneFault = s.exp.laneFault ∧
    (s.keepWarm t).integ.dcode = s.integ.dcode ∧ (s.keepWarm t).sys.wdogCount = s.sys.wdogCount ∧
    (s.keepWarm t).sys.warmCount = satTo 255 (s.sys.warmCount + 1) := by
  simp [keepWarm, keepSpool]

/-- What the warm reset resets, and what neither reset does. -/
theorem keepWarm_rest (s t : State) : (s.keepWarm t).fns = t.fns ∧ (s.keepWarm t).job = t.job ∧ (s.keepWarm t).mer = t.mer ∧
    (s.keepWarm t).eye = t.eye ∧ (s.keepWarm t).occ = t.occ ∧ (s.keepWarm t).dma = t.dma ∧ (s.keepWarm t).ovl = t.ovl ∧
    (s.keepWarm t).port = t.port ∧ (s.keepWarm t).pmc = t.pmc ∧ (s.keepWarm t).sdr = t.sdr ∧
    (s.keepWarm t).cal.ledger = t.cal.ledger ∧ (s.keepWarm t).pending = t.pending ∧
    (s.keepWarm t).hif = { t.hif with linkUp := s.hif.linkUp, pcie := s.hif.pcie } ∧
    (s.keepWarm t).sys.fwReady = t.sys.fwReady ∧ (s.keepWarm t).sys.stage = t.sys.stage := by
  simp [keepWarm, keepSpool]

/-- What either reset resets, and what outlasts both. -/
theorem resetCommon_parts (s : State) : s.resetCommon.fns = Fns.reset ∧ s.resetCommon.job = JobState.reset ∧
    s.resetCommon.mer = Meridian.reset ∧ s.resetCommon.eye = Eyepiece.reset ∧ s.resetCommon.occ = Occulter.reset ∧
    s.resetCommon.dma = Dma.reset ∧ s.resetCommon.ovl = Overlay.reset ∧
    s.resetCommon.port = Vector.replicate 32 Port.reset ∧ s.resetCommon.pmc = Pmc.reset ∧ s.resetCommon.sdr = s.sdr ∧
    s.resetCommon.cal.ledger = s.cal.ledger ∧ s.resetCommon.pending = s.pending ∧ s.resetCommon.hif = Hif.reset ∧
    s.resetCommon.sys.fwReady = false ∧ s.resetCommon.sys.stage = 0 :=
  ⟨rfl, rfl, rfl, rfl, rfl, rfl, rfl, rfl, rfl, rfl, rfl, rfl, rfl, rfl, rfl⟩

/-- R77, R402: the first warm reset of a cycle leaves the state of a warm reset, its cause and its hold. -/
theorem warmReset_warmState (cause : ResetCause) (hold : Hold) (h : s.sys.rstTick ≠ s.tick + 1) :
    WarmState s (s.warmReset cause hold) ∧ (s.warmReset cause hold).sys.cause = cause ∧
      (s.warmReset cause hold).sys.held = [hold] ∧ (s.warmReset cause hold).sys.wdogCount = s.sys.wdogCount := by
  obtain ⟨g, o, p, f, hparts⟩ := warmReset_parts cause hold h
  rw [hparts]
  have hreset := resetCommon_parts (((s.onHif fun _ => g).onOut fun _ => o).onPmc fun _ => p)
  generalize (((s.onHif fun _ => g).onOut fun _ => o).onPmc fun _ => p).resetCommon = r at hreset ⊢
  have hrest := keepWarm_rest s r
  simp only [hreset, onHif_sdr, onOut_sdr, onPmc_sdr, onHif_cal, onOut_cal, onPmc_cal, onHif_pending, onOut_pending,
    onPmc_pending] at hrest
  simpa [WarmState, hrest, keepWarm_mem, keepWarm_spl, keepWarm_se, keepWarm_counts] using keepWarm_bar_staged s r

/-- R80: a second warm cause of a cycle only joins the holds and the record. -/
theorem warmReset_second (cause : ResetCause) (hold : Hold) (h : s.sys.rstTick = s.tick + 1) :
    hold ∈ (s.warmReset cause hold).sys.held ∧ (s.warmReset cause hold).sys.warmCount = s.sys.warmCount ∧
      { s.warmReset cause hold with sys := s.sys } = s := by
  rw [warmReset, if_pos h]
  exact ⟨List.mem_append_right _ List.mem_cons_self, rfl, rfl⟩

end State

/-! ## The commands -/

/-- A change of what the reset records keeps the state of a cold reset. -/
theorem ColdState.onSys (h : ColdState s t) {g : Sys → Sys} (hheld : (g t.sys).held ≠ [])
    (hstage : (g t.sys).stage = t.sys.stage)
    (hready : (g t.sys).fwReady = t.sys.fwReady) : ColdState s (t.onSys g) := by
  obtain ⟨hcfg, -, hstage', hready', hrest⟩ := h
  exact ⟨hcfg, hheld, hstage.trans hstage', hready.trans hready', hrest⟩

/-- R80: a watchdog's own counts are none of what a warm reset leaves. -/
theorem WarmState.onSys (h : WarmState s t) {g : Sys → Sys} (hready : (g t.sys).fwReady = t.sys.fwReady)
    (hstage : (g t.sys).stage = t.sys.stage) (hwarm : (g t.sys).warmCount = t.sys.warmCount) : WarmState s (t.onSys g) := by
  simpa [WarmState, hready, hstage, hwarm] using h

theorem exec_overtempStop (i : Fin 8) (hrails : s.sys.mainRails = true) :
    ∃ t, HostOnly s t ∧ exec (.overtempStop i) s = .next (t.coldReset .overtemp .overtemp) := by
  refine ⟨_, ?_, if_pos hrails⟩
  split
  · exact ((HostOnly.refl s).writeEvent _ _).ite (.refl s)
  · exact .refl s

theorem exec_sysrstNAssert {ns : Nat} (hns : 1000 ≤ ns) (hrails : s.sys.mainRails = true)
    (hwarm : ∀ h ∈ s.sys.held, h.cold = false) : exec (.sysrstNAssert ns) s = .next (s.warmReset .sysrst .sysrst) := by
  have hlong : ¬ns < 200 := by omega
  have hsure : ¬ns < 1000 := by omega
  have hcold : s.sys.held.any Hold.cold = false := List.any_eq_false.mpr fun h hh => ne_true_of_eq_false (hwarm h hh)
  simp [exec, execSysrstNAssert, hlong, hsure, hrails, hcold]

theorem exec_rstCtrlWarm {v : Word} (hup : s.hostUp = true) (hv : v.getLsbD 31 = true) :
    exec (.rstCtrlWarm v) s = .next (s.warmReset .host .warm) :=
  congrArg Host.Outcome.next (if_pos (by simp only [hup, hv, Bool.and_self]))

theorem exec_coreWatchdogExpiry {c : Fin 5} (hclear : s.clear = true) (hstage : s.sys.stage = 4)
    (hcore : s.sys.cores[c] = .active) : exec (.coreWatchdogExpiry c) s = .next ((s.warmReset .wdog .warm).onSys fun y =>
      { y with wdogCount := satTo 255 (y.wdogCount + 1), wdogCore := c.1, wdogPer := upd y.wdogPer c (· + 1) }) :=
  if_pos (by simp only [hclear, hstage, hcore, decide_true, Bool.and_self])

end

/-- Settles O1, cause by cause: each begins the reset of its kind, and the record goes by R80. -/
theorem resetsLeaveWhatTheirKindLeaves : Obligations.ResetsLeaveWhatTheirKindLeaves := by
  unfold Obligations.ResetsLeaveWhatTheirKindLeaves
  refine ⟨⟨fun s b => ?porst, fun s r hrails => ?supply, fun s hrails => ?refclk, fun s i hrails => ?overtemp, fun s => ?off⟩,
    fun s ns hns hrails hwarm => ⟨fun hfirst => ?sysrst, fun hsecond => ?again⟩, fun s v hup hv hfirst => ?host,
    fun s c hclear hstage hcore hfirst => ?wdog⟩
  case porst =>
    have hcold := State.coldReset_coldState (if b && s.sys.mainRails then .porst else .powerOn) .porst s
    exact ⟨_, rfl, hcold.onSys (List.cons_ne_nil _ _) rfl rfl, List.mem_cons_self, State.coldReset_cause _ .porst⟩
  case supply =>
    refine ⟨_, if_pos hrails, (State.coldReset_coldState ..).onSys (List.cons_ne_nil _ _) rfl rfl,
      List.mem_cons_self, fun hfirst => ⟨State.coldReset_cause _ .supply hfirst, ?_⟩⟩
    simp [State.not_outranked hfirst]
  case refclk =>
    refine ⟨_, congrArg Host.Outcome.next (if_pos hrails), State.coldReset_coldState .., State.mem_coldReset_held ..,
      State.coldReset_cause _ _, fun hsame hcause => ?_⟩
    simp [State.coldReset, State.outranked, hsame, hcause, ResetCause.place]
  case overtemp =>
    obtain ⟨t, ⟨h, o, p, rfl⟩, hexec⟩ := exec_overtempStop i hrails
    exact ⟨_, hexec, State.coldReset_coldState _ _ _, State.mem_coldReset_held ..,
      State.coldReset_cause .overtemp .overtemp⟩
  case off => exact ⟨_, rfl, (State.coldReset_coldState ..).onSys (List.cons_ne_nil _ _) rfl rfl, rfl⟩
  case sysrst => exact ⟨_, exec_sysrstNAssert hns hrails hwarm, State.warmReset_warmState _ _ hfirst⟩
  case again => exact ⟨_, exec_sysrstNAssert hns hrails hwarm, State.warmReset_second _ _ hsecond⟩
  case host =>
    obtain ⟨hwarm, hcause, hheld, -⟩ := State.warmReset_warmState .host .warm hfirst
    exact ⟨_, exec_rstCtrlWarm hup hv, hwarm, hcause, hheld⟩
  case wdog =>
    obtain ⟨hwarm, hcause, hheld, hcount⟩ := State.warmReset_warmState .wdog .warm hfirst
    exact ⟨_, exec_coreWatchdogExpiry hclear hstage hcore, hwarm.onSys rfl rfl rfl, hcause, hheld,
      congrArg (fun n => satTo 255 (n + 1)) hcount, rfl⟩

end Sys2Proof.Machine
end

section
/-!
Sidereal (R81, R82) is an island: no operation of the main side reaches it, only the tick of XTAL32, its comparators, the
writes of SDR_CTRL and SDR_STATUS, and the read of SDR_SUB. One equation per operation, in the order of the model.
-/
namespace Sys2Proof.Machine
open Sys2Proof

namespace State

/-! ## Branches and loops -/

@[simp] theorem ite_sdr (c : Prop) [Decidable c] (s t : State) : (if c then s else t).sdr = if c then s.sdr else t.sdr :=
  apply_ite ..

@[simp] theorem ite_fst_sdr {α : Type} (c : Prop) [Decidable c] (x y : State × α) :
    (if c then x else y).1.sdr = if c then x.1.sdr else y.1.sdr := apply_ite (fun x : State × α => x.1.sdr) ..

theorem sdr_fst {α : Type} {d : Sidereal} {t : State} {a : α} (h : t.sdr = d) : (t, a).1.sdr = d := h

@[simp] theorem when_sdr (c : Bool) (g : State → State) (s : State) (h : ∀ t, (g t).sdr = t.sdr) :
    (s.when c g).sdr = s.sdr := by
  simp [when, h]

@[simp] theorem forEach_sdr {α : Type} (l : List α) (g : α → State → State) (s : State)
    (h : ∀ a t, (g a t).sdr = t.sdr) : (s.forEach l g).sdr = s.sdr := forEach_keeps (·.sdr) g h l s

/-! ## Update -/

@[simp] theorem setW1c_sdr (off) (i) (s : State) : (s.setW1c off i).sdr = s.sdr := by simp [setW1c]
@[simp] theorem wr_sdr (off) (v) (s : State) : (s.wr off v).sdr = s.sdr := by simp [wr]
@[simp] theorem wrN_sdr (off) (v) (s : State) : (s.wrN off v).sdr = s.sdr := by simp [wrN]
@[simp] theorem putField_sdr (off) (lo) (width) (v) (s : State) : (putField off lo width v s).sdr = s.sdr := by
  simp [putField]

/-! ## Ops -/

@[simp] theorem hostIn_sdr (n) (s : State) : (s.hostIn n).sdr = s.sdr := by simp [hostIn]
@[simp] theorem hostOut_sdr (n) (s : State) : (s.hostOut n).sdr = s.sdr := by simp [hostOut]
@[simp] theorem reply_sdr (v) (s : State) : (s.reply v).sdr = s.sdr := by simp [reply]
@[simp] theorem replyData_sdr (b) (s : State) : (s.replyData b).sdr = s.sdr := by simp [replyData]
@[simp] theorem hostStore_sdr (ns) (addr) (bs) (s : State) : (s.hostStore ns addr bs).sdr = s.sdr := by simp [hostStore]
@[simp] theorem hostLoad_sdr (ns) (addr) (len) (s : State) : (s.hostLoad ns addr len).sdr = s.sdr :=
  forEach_sdr _ _ _ fun _ _ => rfl

/-! ## Lanes -/

@[simp] theorem putAlign_sdr (p) (s : State) : (s.putAlign p).sdr = s.sdr := by simp [putAlign]
@[simp] theorem putBlock_sdr (p) (b) (s : State) : (s.putBlock p b).sdr = s.sdr := by simp [putBlock]
@[simp] theorem putNext_sdr (p) (s : State) : (s.putNext p).sdr = s.sdr := by
  simp only [putNext]
  split <;> simp
@[simp] theorem putMany_sdr (p) (n) (s : State) : (s.putMany p n).sdr = s.sdr := by simp [putMany]
@[simp] theorem catchUp_sdr (p) (s : State) : (s.catchUp p).sdr = s.sdr := by simp [catchUp]
@[simp] theorem endSegment_sdr (p) (s : State) : (s.endSegment p).sdr = s.sdr := by simp [endSegment]
@[simp] theorem sendBlock_sdr (p) (b) (s : State) : (s.sendBlock p b).sdr = s.sdr := by simp [sendBlock]
@[simp] theorem cutStream_sdr (p) (s : State) : (s.cutStream p).sdr = s.sdr := by simp [cutStream]
@[simp] theorem beginBlocks_sdr (p) (l) (s : State) : (s.beginBlocks p l).sdr = s.sdr := by simp [beginBlocks]
@[simp] theorem endBlocks_sdr (p) (s : State) : (s.endBlocks p).sdr = s.sdr := by simp [endBlocks]
@[simp] theorem beginFaultBurst_sdr (p) (s : State) : (s.beginFaultBurst p).sdr = s.sdr := by simp [beginFaultBurst]

/-! ## Sheets -/

@[simp] theorem onSheet_sdr (id) (g) (s : State) : (s.onSheet id g).sdr = s.sdr := by simp [onSheet]
@[simp] theorem clearQueue_sdr (p) (s : State) : (s.clearQueue p).sdr = s.sdr := by simp [clearQueue]
@[simp] theorem leaveT6_sdr (p) (s : State) : (s.leaveT6 p).sdr = s.sdr := by simp [leaveT6]
@[simp] theorem faultLink_sdr (p) (cause) (s : State) : (s.faultLink p cause).sdr = s.sdr := by simp [faultLink]
@[simp] theorem portFault_sdr (p) (cause) (cls) (s : State) : (s.portFault p cause cls).sdr = s.sdr := by simp [portFault]
@[simp] theorem axisFault_sdr (x) (cause) (code) (dec) (s : State) : (s.axisFault x cause code dec).sdr = s.sdr := by
  simp [axisFault]
@[simp] theorem classDHalt_sdr (s : State) : s.classDHalt.sdr = s.sdr := by simp [classDHalt]
@[simp] theorem classDown_sdr (code) (s : State) : (s.classDown code).sdr = s.sdr := by simp [classDown]
@[simp] theorem classD_sdr (code) (unit) (det) (src) (s : State) : (s.classD code unit det src).sdr = s.sdr := by
  simp [classD]
@[simp] theorem sheetError_sdr (code) (cls) (id) (row) (unit) (det) (src) (s : State) :
    (s.sheetError code cls id row unit det src).sdr = s.sdr := by
  simp only [sheetError]
  split
  · simp
  · split <;> simp
@[simp] theorem sheetEvent_sdr (sh) (outcome) (mark) (s : State) : (s.sheetEvent sh outcome mark).sdr = s.sdr := by
  simp [sheetEvent]
@[simp] theorem freePatches_sdr (id) (s : State) : (s.freePatches id).sdr = s.sdr := by simp [freePatches]
@[simp] theorem softenBands_sdr (sh) (s : State) : (s.softenBands sh).sdr = s.sdr := by simp [softenBands]
@[simp] theorem finishSheet_sdr (sh) (s : State) : (s.finishSheet sh).sdr = s.sdr := by simp [finishSheet]
@[simp] theorem finishDone_sdr (s : State) : s.finishDone.sdr = s.sdr :=
  forEach_sdr _ _ _ fun sh t => by split <;> simp
@[simp] theorem uncommit_sdr (id) (s : State) : (s.uncommit id).sdr = s.sdr := by simp [uncommit]
@[simp] theorem toPhysical_sdr (id) (s : State) : (s.toPhysical id).sdr = s.sdr := by
  simp only [toPhysical]
  split <;> simp
@[simp] theorem cancelSlots_sdr (id) (s : State) : (s.cancelSlots id).sdr = s.sdr := by simp [cancelSlots]
@[simp] theorem cancelSheet_sdr (sh) (s : State) : (s.cancelSheet sh).sdr = s.sdr := by simp [cancelSheet]
@[simp] theorem cancelUnbegun_sdr (s : State) : s.cancelUnbegun.sdr = s.sdr := by simp [cancelUnbegun]
@[simp] theorem orderlyStop_sdr (s : State) : s.orderlyStop.sdr = s.sdr := by simp [orderlyStop]

/-! ## Rings -/

@[simp] theorem sendMsix_sdr (r) (s : State) : (s.sendMsix r).sdr = s.sdr := by simp [sendMsix]
@[simp] theorem moderate_sdr (r) (s : State) : (s.moderate r).sdr = s.sdr := by simp [moderate]
@[simp] theorem writeEvent_sdr (r) (e) (s : State) : (s.writeEvent r e).sdr = s.sdr := by simp [writeEvent]
@[simp] theorem haltRing_sdr (r) (cause) (s : State) : (s.haltRing r cause).sdr = s.sdr := by simp [haltRing]
@[simp] theorem disableRing_sdr (r) (s : State) : (s.disableRing r).sdr = s.sdr := by simp [disableRing]

/-! ## Ledger -/

@[simp] theorem queueRecord_sdr (kind) (unit) (old) (new) (s : State) :
    (s.queueRecord kind unit old new).sdr = s.sdr := by
  simp [queueRecord]
@[simp] theorem recordLaneFaults_sdr (s : State) : s.recordLaneFaults.sdr = s.sdr := by simp [recordLaneFaults]

/-! ## Reset -/

@[simp] theorem idleLanes_sdr (s : State) : s.idleLanes.sdr = s.sdr := forEach_sdr _ _ _ fun _ _ => rfl
@[simp] theorem keepPins_sdr (s : State) (t : State) : (s.keepPins t).sdr = t.sdr := by simp [keepPins]
@[simp] theorem keepSpool_sdr (s : State) (t : State) : (s.keepSpool t).sdr = t.sdr := by simp [keepSpool]
@[simp] theorem keepWarm_sdr (s : State) (t : State) : (s.keepWarm t).sdr = t.sdr := by simp [keepWarm]
@[simp] theorem release_sdr (h) (s : State) : (s.release h).sdr = s.sdr := by simp [release]

/-! ## Boot -/

@[simp] theorem bootError_sdr (c) (s : State) : (s.bootError c).sdr = s.sdr := by simp [bootError]
@[simp] theorem runImage_sdr (src) (h) (s : State) : (s.runImage src h).sdr = s.sdr := by simp [runImage]
@[simp] theorem testCores_sdr (bad) (s : State) : (s.testCores bad).sdr = s.sdr := by
  simp only [testCores]
  split <;> simp
@[simp] theorem compactLedger_sdr (s : State) : s.compactLedger.sdr = s.sdr := by simp [compactLedger]
@[simp] theorem untraced_sdr (s : State) : s.untraced.sdr = s.sdr := by simp [untraced]
@[simp] theorem writeBootCtrl_sdr (v) (s : State) : (s.writeBootCtrl v).sdr = s.sdr := by simp [writeBootCtrl]

/-! ## HostRings -/

@[simp] theorem readEntries_sdr (r) (s : State) : (s.readEntries r).sdr = s.sdr := by simp [readEntries]
@[simp] theorem takeEntries_sdr (r) (l) (s : State) : (s.takeEntries r l).sdr = s.sdr := by simp [takeEntries]
@[simp] theorem postDue_sdr (r) (s : State) : (s.postDue r).sdr = s.sdr := by
  simp only [postDue]
  split <;> simp
@[simp] theorem postAsyncDue_sdr (s : State) : s.postAsyncDue.sdr = s.sdr := by
  simp only [postAsyncDue]
  split
  · rfl
  · split
    · rfl
    · split
      · simp
      · split <;> simp
@[simp] theorem heartbeat_sdr (s : State) : s.heartbeat.sdr = s.sdr := by simp [heartbeat]

/-! ## Memory -/

@[simp] theorem bucketEvent_sdr (sram) (i) (s : State) : (s.bucketEvent sram i).sdr = s.sdr := by simp [bucketEvent]
@[simp] theorem correctHbm_sdr (c) (check) (s : State) : (s.correctHbm c check).sdr = s.sdr := by simp [correctHbm]
@[simp] theorem correctSram_sdr (g) (check) (s : State) : (s.correctSram g check).sdr = s.sdr := by simp [correctSram]
@[simp] theorem remapHbm_sdr (c) (row) (blk) (poison) (s : State) : (s.remapHbm c row blk poison).sdr = s.sdr := by
  simp [remapHbm]
@[simp] theorem touchBank_sdr (c) (row) (s : State) : (s.touchBank c row).sdr = s.sdr := by simp [touchBank]
@[simp] theorem wakeChan_sdr (c) (s : State) : (s.wakeChan c).sdr = s.sdr := by simp [wakeChan]
@[simp] theorem uncorrectable_sdr (c) (row) (blk) (s : State) : (s.uncorrectable c row blk).sdr = s.sdr := by
  simp [uncorrectable]
@[simp] theorem lostBlock_sdr (s : State) : s.lostBlock.sdr = s.sdr := by simp [lostBlock]
@[simp] theorem writeBack_sdr (b) (s : State) : (s.writeBack b).sdr = s.sdr := by
  simp only [writeBack]
  split <;> simp
@[simp] theorem scrubFinds_sdr (c) (row) (blk) (e) (back) (s : State) : (s.scrubFinds c row blk e back).sdr = s.sdr := by
  simp only [scrubFinds]
  split
  · simp
  · split <;> simp
@[simp] theorem scrubNext_sdr (c) (upset) (writeSince) (s : State) : (s.scrubNext c upset writeSince).sdr = s.sdr := by
  simp only [scrubNext]
  split
  · simp
  · split <;> simp
@[simp] theorem issueHeld_sdr (c) (s : State) : (s.issueHeld c).sdr = s.sdr := by simp [issueHeld]
@[simp] theorem reach_sdr (c) (row) (s : State) : (s.reach c row).sdr = s.sdr := by simp [reach]
@[simp] theorem readBlock_sdr (port) (b) (upset) (s : State) : (s.readBlock port b upset).1.sdr = s.sdr := by
  simp only [readBlock]
  split
  · rfl
  · split
    · simp
    · split
      · simp
      · split
        · simp
        · split <;> simp
        · simp
        · split <;> simp
@[simp] theorem fillGranule_sdr (g) (s : State) : (s.fillGranule g).sdr = s.sdr := by simp [fillGranule]
@[simp] theorem applyFlip_sdr (b) (s : State) : (s.applyFlip b).sdr = s.sdr := by
  simp only [applyFlip]
  split <;> simp
@[simp] theorem writeBlock_sdr (port) (a) (bs) (s : State) : (s.writeBlock port a bs).1.sdr = s.sdr := by
  unfold writeBlock
  extract_lets b p t whole x found corrected heal healed
  have ht : t.sdr = s.sdr := by simp [t]
  clear_value whole found
  have hcorrected : corrected.sdr = s.sdr := by
    simp only [corrected]
    split
    · split <;> simp [ht]
    · exact ht
  have hhealed : healed.sdr = s.sdr := by
    simp only [healed]
    split
    · exact (onChan_sdr ..).trans hcorrected
    · exact hcorrected
  split
  · rfl
  · split
    · exact sdr_fst ((uncorrectable_sdr ..).trans ht)
    · exact sdr_fst ((applyFlip_sdr ..).trans hhealed)
@[simp] theorem spoolWrite_sdr (port) (n) (x) (y) (s : State) : (s.spoolWrite port n x y).1.sdr = s.sdr := by
  induction n generalizing x y s with
  | zero => rfl
  | succ n ih =>
    rw [spoolWrite]
    split
    · rfl
    · exact (ih ..).trans (writeBlock_sdr ..)
@[simp] theorem spoolPut_sdr (port) (a) (bs) (s : State) : (s.spoolPut port a bs).1.sdr = s.sdr := by simp [spoolPut]
@[simp] theorem spoolBlocks_sdr (port) (b) (n) (s : State) : (s.spoolBlocks port b n).1.sdr = s.sdr := by
  induction n generalizing b s with
  | zero => rfl
  | succ n ih => exact (ih ..).trans (readBlock_sdr ..)
@[simp] theorem spoolGet_sdr (port) (a) (n) (s : State) : (s.spoolGet port a n).1.sdr = s.sdr := by simp [spoolGet]
@[simp] theorem stageWritten_sdr (s : State) : s.stageWritten.sdr = s.sdr := by simp [stageWritten]
@[simp] theorem clearChannel_sdr (c) (s : State) : (s.clearChannel c).sdr = s.sdr := by simp [clearChannel]
@[simp] theorem ringPut_sdr (port) (pos) (bs) (s : State) : (s.ringPut port pos bs).1.sdr = s.sdr := by
  unfold ringPut
  exact sdr_fst ((spoolPut_sdr ..).trans (spoolPut_sdr ..))
@[simp] theorem ringGet_sdr (port) (pos) (off) (n) (s : State) : (s.ringGet port pos off n).1.sdr = s.sdr := by
  unfold ringGet
  exact sdr_fst ((spoolGet_sdr ..).trans (spoolGet_sdr ..))

/-! ## Entries -/

@[simp] theorem begin_sdr (r) (s : State) : (s.begin r).sdr = s.sdr := by simp [begin]
@[simp] theorem fail_sdr (r) (e) (code) (src) (s : State) : (s.fail r e code src).sdr = s.sdr := by simp [fail]
@[simp] theorem done_sdr (r) (e) (info0) (src) (s : State) : (s.done r e info0 src).sdr = s.sdr := by simp [done]
@[simp] theorem runEntry_sdr (r) (mine) (form) (body) (s : State) (h : ∀ e t, (body e t).sdr = t.sdr) :
    (s.runEntry r mine form body).sdr = s.sdr := by
  unfold runEntry
  split <;> simp [h]
@[simp] theorem countBeats_sdr (ch) (n) (s : State) : (s.countBeats ch n).sdr = s.sdr := by simp [countBeats]
@[simp] theorem takePool_sdr (ch) (r) (e) (s : State) : (s.takePool ch r e).sdr = s.sdr := by simp [takePool]
@[simp] theorem freePool_sdr (r) (e) (fault) (s : State) : (s.freePool r e fault).sdr = s.sdr := by
  simp only [freePool]
  split <;> simp
@[simp] theorem failBulk_sdr (r) (e) (code) (src) (s : State) : (s.failBulk r e code src).sdr = s.sdr := by simp [failBulk]
@[simp] theorem doneBulk_sdr (r) (e) (info0) (info1) (src) (s : State) :
    (s.doneBulk r e info0 info1 src).sdr = s.sdr := by
  simp [doneBulk]
@[simp] theorem withPool_sdr (r) (e) (body) (s : State) (h : ∀ t, (body t).sdr = t.sdr) :
    (s.withPool r e body).sdr = s.sdr := by
  unfold withPool
  split
  · rfl
  · split <;> simp [h]

/-! ## Container -/

@[simp] theorem passTail_sdr (s : State) : s.passTail.sdr = s.sdr := by
  simp only [passTail]
  split <;> simp
@[simp] theorem reclaim_sdr (enough) (n) (s : State) : (s.reclaim enough n).sdr = s.sdr := by
  induction n generalizing s with
  | zero => rfl
  | succ n ih =>
    rw [reclaim]
    split
    · rfl
    · split
      · rfl
      · split
        · exact (ih _).trans (passTail_sdr _)
        · rfl
@[simp] theorem makeRoom_sdr (len) (s : State) : (s.makeRoom len).sdr = s.sdr := by simp [makeRoom]
@[simp] theorem reserve_sdr (src) (len) (s : State) : (s.reserve src len).sdr = s.sdr := by simp [reserve]
@[simp] theorem setSpan_sdr (pos) (use) (s : State) : (s.setSpan pos use).sdr = s.sdr := by simp [setSpan]
@[simp] theorem publish_sdr (pos) (c) (s : State) : (s.publish pos c).1.sdr = s.sdr := by
  simp only [publish]
  split
  · simp
  · split
    · simp
    · split
      · simp
      · split <;> simp
@[simp] theorem btResult_sdr (p) (source) (key) (code) (s : State) : (s.btResult p source key code).sdr = s.sdr := by
  simp [btResult]
@[simp] theorem landTransport_sdr (t) (s : State) : (s.landTransport t).sdr = s.sdr := by simp [landTransport]
@[simp] theorem gatherRun_sdr (ns) (job) (x) (host) (s : State) : (s.gatherRun ns job x host).1.sdr = s.sdr := by
  unfold gatherRun
  split
  · exact sdr_fst ((hostIn_sdr ..).trans (hostLoad_sdr ..))
  · split
    · split
      · rfl
      · exact sdr_fst (spoolGet_sdr ..)
    · split
      · rfl
      · dsimp only
        split
        · rfl
        · exact sdr_fst (ringGet_sdr ..)
@[simp] theorem gatherAll_sdr (ns) (l) (host) (acc) (s : State) : (s.gatherAll ns l host acc).1.sdr = s.sdr := by
  induction l generalizing acc host s with
  | nil => rfl
  | cons x xs ih =>
    rw [gatherAll]
    split
    · exact gatherRun_sdr ..
    · exact (ih ..).trans (gatherRun_sdr ..)
@[simp] theorem gather_sdr (ns) (tiles) (len) (l) (host) (s : State) : (s.gather ns tiles len l host).1.sdr = s.sdr := by
  simp only [gather]
  split <;> simp

/-! ## Jobs -/

@[simp] theorem jobOpen_sdr (r) (e) (s : State) : (s.jobOpen r e).sdr = s.sdr := by simp [jobOpen]
@[simp] theorem releaseBands_sdr (id) (s : State) : (s.releaseBands id).sdr = s.sdr := by simp [releaseBands]
@[simp] theorem jobClose_sdr (r) (e) (s : State) : (s.jobClose r e).sdr = s.sdr := by simp [jobClose]
@[simp] theorem clipPatches_sdr (sh) (s : State) : (s.clipPatches sh).sdr = s.sdr := by simp [clipPatches]
@[simp] theorem queueSheet_sdr (r) (e) (s : State) : (s.queueSheet r e).sdr = s.sdr := by
  simp only [queueSheet]
  split
  · rfl
  · split <;> simp
@[simp] theorem failLanding_sdr (r) (e) (pos) (code) (s : State) : (s.failLanding r e pos code).sdr = s.sdr := by
  simp [failLanding]
@[simp] theorem landEntry_sdr (r) (e) (pos) (bs) (s : State) : (s.landEntry r e pos bs).sdr = s.sdr := by simp [landEntry]
@[simp] theorem land_sdr (pos) (host) (s : State) : (s.land pos host).sdr = s.sdr := by
  simp only [land]
  split
  · simp
  · split <;> simp
  · split <;> simp
  · rfl
@[simp] theorem gatherTable_sdr (e) (table) (s : State) : (s.gatherTable e table).1.sdr = s.sdr := by
  simp only [gatherTable]
  split
  · split <;> simp
  · simp
@[simp] theorem enterLanding_sdr (src) (len) (s : State) : (s.enterLanding src len).sdr = s.sdr := by
  simp only [enterLanding]
  split
  · simp
  · split
    · simp
    · split <;> simp
  · simp
@[simp] theorem beginLanding_sdr (ch) (src) (len) (s : State) : (s.beginLanding ch src len).sdr = s.sdr := by
  simp only [beginLanding]
  split <;> simp
@[simp] theorem offerLanding_sdr (src) (len) (s : State) : (s.offerLanding src len).sdr = s.sdr := by
  simp only [offerLanding]
  split
  · rfl
  · split
    · split <;> simp
    · simp
@[simp] theorem reserveWaiting_sdr (s : State) : s.reserveWaiting.sdr = s.sdr := by
  simp only [reserveWaiting]
  split
  · rfl
  · split <;> simp

/-! ## Gearing -/

@[simp] theorem settleHigh_sdr (m) (s : State) : (s.settleHigh m).sdr = s.sdr := by simp [settleHigh]

/-! ## Motion -/

@[simp] theorem startHome_sdr (x) (s : State) : (s.startHome x).sdr = s.sdr := by simp [startHome]
@[simp] theorem clearFault_sdr (x) (s : State) : (s.clearFault x).sdr = s.sdr := by simp [clearFault]
@[simp] theorem applyCommand_sdr (x) (op) (arg) (s : State) : (s.applyCommand x op arg).sdr = s.sdr := by
  simp only [applyCommand]
  split <;> simp
@[simp] theorem axisCommand_sdr (x) (op) (arg) (byHeliostat) (s : State) :
    (s.axisCommand x op arg byHeliostat).sdr = s.sdr := by
  simp only [axisCommand]
  split <;> simp
@[simp] theorem takeCmd_sdr (x) (v) (arg) (s : State) : (s.takeCmd x v arg).sdr = s.sdr := by simp [takeCmd]
@[simp] theorem writeAxisCmd_sdr (x) (v) (s : State) : (s.writeAxisCmd x v).sdr = s.sdr := by simp [writeAxisCmd]
@[simp] theorem commandNow_sdr (x) (v) (s : State) : (s.commandNow x v).sdr = s.sdr := by simp [commandNow]
@[simp] theorem startQueued_sdr (x) (s : State) : (s.startQueued x).sdr = s.sdr := by simp [startQueued]
@[simp] theorem beginQueued_sdr (x) (s : State) : (s.beginQueued x).sdr = s.sdr := by
  simp only [beginQueued]
  split
  · rfl
  · split <;> simp
@[simp] theorem crossCommand_sdr (x) (s : State) : (s.crossCommand x).sdr = s.sdr := by
  simp only [crossCommand]
  split <;> simp
@[simp] theorem comeToRest_sdr (x) (s : State) : (s.comeToRest x).sdr = s.sdr := by simp [comeToRest]
@[simp] theorem axisTick_sdr (x) (s : State) : (s.axisTick x).sdr = s.sdr := by simp [axisTick]
@[simp] theorem homeSwitch_sdr (x) (sw) (latch) (s : State) : (s.homeSwitch x sw latch).sdr = s.sdr := by
  simp only [homeSwitch]
  split <;> simp
@[simp] theorem bothLimits_sdr (x) (s : State) : (s.bothLimits x).sdr = s.sdr := by simp [bothLimits]
@[simp] theorem limitFaults_sdr (x) (s : State) : (s.limitFaults x).sdr = s.sdr := by simp [limitFaults]
@[simp] theorem lagFault_sdr (x) (s : State) : (s.lagFault x).sdr = s.sdr := by
  simp only [lagFault]
  split <;> simp
@[simp] theorem axisStep_sdr (x) (s : State) : (s.axisStep x).sdr = s.sdr := by simp [axisStep]

/-! ## Dma -/

@[simp] theorem dmaHalt_sdr (ch) (cause) (addr) (s : State) : (s.dmaHalt ch cause addr).sdr = s.sdr := by simp [dmaHalt]
@[simp] theorem dmaStart_sdr (ch) (s : State) : (s.dmaStart ch).sdr = s.sdr := by simp [dmaStart]
@[simp] theorem dmaAction_sdr (ch) (s : State) : (s.dmaAction ch).sdr = s.sdr := by simp [dmaAction]
@[simp] theorem writeDmaCtrl_sdr (ch) (v) (s : State) : (s.writeDmaCtrl ch v).sdr = s.sdr := by simp [writeDmaCtrl]
@[simp] theorem spoolDescriptor_sdr (a) (s : State) : (s.spoolDescriptor a).1.sdr = s.sdr := by
  simp only [spoolDescriptor]
  split <;> simp
@[simp] theorem descTable_sdr (d) (table) (s : State) : (s.descTable d table).1.sdr = s.sdr := by
  simp only [descTable]
  split
  · split <;> simp
  · simp
@[simp] theorem descRuns_sdr (d) (table) (s : State) : (s.descRuns d table).1.sdr = s.sdr := by
  simp only [descRuns]
  split
  · rfl
  · split
    · rfl
    · split
      · split
        · simp
        · split
          · simp
          · split <;> simp
      · split <;> rfl
@[simp] theorem takeDescriptor_sdr (ch) (d) (table) (s : State) : (s.takeDescriptor ch d table).sdr = s.sdr := by
  simp only [takeDescriptor]
  split <;> simp
@[simp] theorem afterBeat_sdr (ch) (s : State) : (s.afterBeat ch).sdr = s.sdr := by
  simp only [afterBeat]
  split <;> simp
@[simp] theorem beatWrite_sdr (x) (bs) (s : State) : (s.beatWrite x bs).1.sdr = s.sdr := by
  simp only [beatWrite]
  split <;> simp
@[simp] theorem beat_sdr (ch) (host) (s : State) : (s.beat ch host).sdr = s.sdr := by
  simp only [beat]
  split
  · rfl
  · split
    · rfl
    · split
      · split <;> simp
      · split <;> simp
@[simp] theorem countPreempted_sdr (ch) (s : State) : (s.countPreempted ch).sdr = s.sdr := by
  simp only [countPreempted]
  split <;> simp
@[simp] theorem poolBeat_sdr (ch) (s : State) : (s.poolBeat ch).sdr = s.sdr := by simp [poolBeat]

/-! ## Tables -/

@[simp] theorem stagePut_sdr (table) (unit) (sub) (first) (l) (s : State) :
    (s.stagePut table unit sub first l).sdr = s.sdr := by
  simp only [stagePut]
  split
  · split <;> simp
  · split <;> simp
@[simp] theorem stageDefaults_sdr (s : State) : s.stageDefaults.sdr = s.sdr := by simp [stageDefaults]
@[simp] theorem crcUnitFault_sdr (s : State) : s.crcUnitFault.sdr = s.sdr := by simp [crcUnitFault]
@[simp] theorem tableLoad_sdr (r) (e) (payload) (s : State) : (s.tableLoad r e payload).sdr = s.sdr := by simp [tableLoad]

/-! ## Trims -/

@[simp] theorem trimBoundary_sdr (k) (s : State) : (s.trimBoundary k).sdr = s.sdr := by simp [trimBoundary]
@[simp] theorem trimBoundaries_sdr (k) (s : State) : (s.trimBoundaries k).sdr = s.sdr := by simp [trimBoundaries]
@[simp] theorem trimCommit_sdr (k) (e) (s : State) : (s.trimCommit k e).sdr = s.sdr := by simp [trimCommit]
@[simp] theorem commitAction_sdr (k) (s : State) : (s.commitAction k).sdr = s.sdr := by simp [commitAction]

/-! ## Fetch -/

@[simp] theorem onWork_sdr (k) (id) (key) (g) (s : State) : (s.onWork k id key g).sdr = s.sdr := by simp [onWork]
@[simp] theorem bandError_sdr (k) (w) (code) (s : State) : (s.bandError k w code).sdr = s.sdr := by simp [bandError]
@[simp] theorem voidRows_sdr (k) (c) (s : State) : (s.voidRows k c).sdr = s.sdr := forEach_sdr _ _ _ fun _ _ => rfl
@[simp] theorem dropTaps_sdr (c) (s : State) : (s.dropTaps c).sdr = s.sdr := by simp [dropTaps]
@[simp] theorem sweepTaps_sdr (s : State) : s.sweepTaps.sdr = s.sdr := by simp [sweepTaps]
@[simp] theorem voidTaps_sdr (id) (first) (count) (s : State) : (s.voidTaps id first count).sdr = s.sdr := by simp [voidTaps]
@[simp] theorem recompute_sdr (k) (n) (restore) (s : State) : (s.recompute k n restore).sdr = s.sdr := by simp [recompute]
@[simp] theorem endWork_sdr (k) (code) (u) (s : State) : (s.endWork k code u).sdr = s.sdr := by
  simp only [endWork]
  split <;> simp
@[simp] theorem endUse_sdr (k) (code) (u) (s : State) : (s.endUse k code u).sdr = s.sdr := by
  simp only [endUse]
  split
  · simp
  · split <;> simp
@[simp] theorem endBand_sdr (k) (w) (code) (s : State) : (s.endBand k w code).sdr = s.sdr := by simp [endBand]
@[simp] theorem lateEvents_sdr (k) (id) (row) (s : State) : (s.lateEvents k id row).sdr = s.sdr := by
  simp only [lateEvents]
  split <;> simp
theorem releaseNext_sdr (p) (s t : State) (h : s.releaseNext p = some t) : t.sdr = s.sdr := by
  simp only [releaseNext] at h
  split at h
  · cases h
  · split at h
    · cases h
      rfl
    · split at h
      · cases h
        exact lateEvents_sdr ..
      · split at h
        · cases h
          rfl
        · cases h
@[simp] theorem releasePort_sdr (p) (n) (s : State) : (s.releasePort p n).sdr = s.sdr := by
  induction n generalizing s with
  | zero => rfl
  | succ n ih =>
    rw [releasePort]
    split
    · rfl
    · next t ht => exact (ih t).trans (releaseNext_sdr _ _ _ ht)
@[simp] theorem judgeRefetch_sdr (k) (w) (s : State) : (s.judgeRefetch k w).sdr = s.sdr := by
  simp only [judgeRefetch]
  split <;> simp
@[simp] theorem pruneRows_sdr (k) (s : State) : (s.pruneRows k).sdr = s.sdr := by simp [pruneRows]
@[simp] theorem releaseRows_sdr (k) (s : State) : (s.releaseRows k).sdr = s.sdr := by simp [releaseRows]
@[simp] theorem noteRead_sdr (k) (b) (s : State) : (s.noteRead k b).sdr = s.sdr := by simp [noteRead]
@[simp] theorem requestBand_sdr (k) (u) (s : State) : (s.requestBand k u).sdr = s.sdr := by
  simp only [requestBand]
  split <;> simp
@[simp] theorem presentRead_sdr (k) (w) (block) (s : State) : (s.presentRead k w block).sdr = s.sdr := by simp [presentRead]
@[simp] theorem grantLane_sdr (k) (w) (l) (s : State) : (s.grantLane k w l).sdr = s.sdr := by simp [grantLane]
@[simp] theorem laneFail_sdr (l) (s : State) : (s.laneFail l).sdr = s.sdr := by simp [laneFail]
@[simp] theorem laneDisagree_sdr (l) (s : State) : (s.laneDisagree l).sdr = s.sdr := by simp [laneDisagree]
@[simp] theorem refetch_sdr (k) (w) (s : State) : (s.refetch k w).sdr = s.sdr := by
  simp only [refetch]
  split <;> simp
@[simp] theorem freeChecks_sdr (k) (s : State) : (s.freeChecks k).sdr = s.sdr := by simp [freeChecks]
@[simp] theorem verify_sdr (k) (w) (s : State) : (s.verify k w).sdr = s.sdr := by simp [verify]
@[simp] theorem markBad_sdr (key) (s : State) : (s.markBad key).sdr = s.sdr := by simp [markBad]
@[simp] theorem disagree_sdr (g) (f) (s : State) : (s.disagree g f).sdr = s.sdr := by simp [disagree]
@[simp] theorem refetchFails_sdr (k) (w) (s : State) : (s.refetchFails k w).sdr = s.sdr := by simp [refetchFails]
@[simp] theorem judgeBand_sdr (k) (x) (s : State) : (s.judgeBand k x).sdr = s.sdr := by simp [judgeBand]
@[simp] theorem endSlice_sdr (k) (w) (i) (l) (upset) (s : State) : (s.endSlice k w i l upset).sdr = s.sdr := by
  simp only [endSlice]
  split
  · split <;> simp
  · split <;> simp

/-! ## Rows -/

@[simp] theorem beginTap_sdr (c) (k) (sh) (row) (s : State) : (s.beginTap c k sh row).sdr = s.sdr := by simp [beginTap]
@[simp] theorem tapRows_sdr (k) (sh) (row) (contone) (s : State) : (s.tapRows k sh row contone).sdr = s.sdr := by
  simp [tapRows]
@[simp] theorem writeCheck_sdr (k) (m) (n) (s : State) : (s.writeCheck k m n).sdr = s.sdr := by simp [writeCheck]
@[simp] theorem clearState_sdr (k) (m) (v) (s : State) : (s.clearState k m v).sdr = s.sdr := by simp [clearState]
@[simp] theorem setPart_sdr (k) (m) (n) (vals) (s : State) : (s.setPart k m n vals).sdr = s.sdr := by simp [setPart]
@[simp] theorem voidPart_sdr (k) (m) (n) (s : State) : (s.voidPart k m n).sdr = s.sdr := by
  rw [voidPart, setPart_sdr, onBar_sdr]
@[simp] theorem dataPart_sdr (k) (m) (v) (contone) (s : State) : (s.dataPart k m v contone).sdr = s.sdr := by simp [dataPart]
@[simp] theorem rowFault_sdr (k) (m) (id) (row) (f) (s : State) : (s.rowFault k m id row f).sdr = s.sdr := by
  simp only [rowFault]
  split
  · split <;> simp
  · simp
  · simp
@[simp] theorem overlayMissing_sdr (id) (row) (s : State) : (s.overlayMissing id row).sdr = s.sdr := by simp [overlayMissing]
@[simp] theorem numberRow_sdr (k) (sh) (keys) (noData) (s : State) : (s.numberRow k sh keys noData).sdr = s.sdr := by
  simp [numberRow]
@[simp] theorem computeRow_sdr (k) (m) (sh) (n) (row) (new) (src) (s : State) :
    (s.computeRow k m sh n row new src).sdr = s.sdr := by
  simp [computeRow]
@[simp] theorem rowCompute_sdr (k) (m) (fault) (s : State) : (s.rowCompute k m fault).sdr = s.sdr := by
  simp only [rowCompute]
  split
  · rfl
  · split
    · rfl
    · split
      · rfl
      · split
        · rfl
        · split <;> simp
@[simp] theorem settlePort_sdr (p) (s : State) : (s.settlePort p).sdr = s.sdr := by simp [settlePort]
@[simp] theorem writePorts_sdr (k) (r) (s : State) : (s.writePorts k r).sdr = s.sdr := by simp [writePorts]
@[simp] theorem markWritten_sdr (k) (n) (s : State) : (s.markWritten k n).sdr = s.sdr := by simp [markWritten]
@[simp] theorem rewriteCodes_sdr (k) (r) (s : State) : (s.rewriteCodes k r).sdr = s.sdr := forEach_sdr _ _ _ fun _ _ => rfl
@[simp] theorem rowWrite_sdr (k) (s : State) : (s.rowWrite k).sdr = s.sdr := by
  simp only [rowWrite]
  split <;> simp
@[simp] theorem refresh_sdr (k) (n) (s : State) : (s.refresh k n).sdr = s.sdr := by
  simp only [refresh]
  split <;> simp

/-! ## Prism -/

@[simp] theorem portError_sdr (code) (cls) (p) (r) (s : State) : (s.portError code cls p r).sdr = s.sdr := by
  simp [portError]
@[simp] theorem unacked_sdr (p) (n) (s : State) : (s.unacked p n).sdr = s.sdr := by
  simp only [unacked]
  split <;> simp
@[simp] theorem queueData_sdr (p) (r) (s : State) : (s.queueData p r).sdr = s.sdr := by simp [queueData]
@[simp] theorem sendFrame_sdr (p) (r) (again) (s : State) : (s.sendFrame p r again).sdr = s.sdr := by simp [sendFrame]
@[simp] theorem transmit_sdr (p) (badWord) (s : State) : (s.transmit p badWord).sdr = s.sdr := by
  simp only [transmit]
  split
  · rfl
  · split <;> simp
@[simp] theorem replay_sdr (p) (badWord) (s : State) : (s.replay p badWord).sdr = s.sdr := by
  simp only [replay]
  split
  · rfl
  · split
    · rfl
    · split <;> simp
@[simp] theorem frameEnd_sdr (p) (s : State) : (s.frameEnd p).sdr = s.sdr := by
  simp only [frameEnd]
  split <;> simp
@[simp] theorem acknowledge_sdr (p) (r) (s : State) : (s.acknowledge p r).sdr = s.sdr := by simp [acknowledge]
@[simp] theorem wantReplay_sdr (p) (n) (s : State) : (s.wantReplay p n).sdr = s.sdr := by simp [wantReplay]
@[simp] theorem invalidBlock_sdr (p) (s : State) : (s.invalidBlock p).sdr = s.sdr := by simp [invalidBlock]
@[simp] theorem response_sdr (p) (row) (code) (s : State) : (s.response p row code).sdr = s.sdr := by
  simp only [response]
  split <;> simp
@[simp] theorem lateRow_sdr (k) (n) (ports) (s : State) : (s.lateRow k n ports).sdr = s.sdr := by
  unfold lateRow
  split
  · rfl
  · next id row _ =>
    have hvoid := forEach_sdr ports (fun p u => (u.onPort p (Port.endVoid n id row)).settlePort p) (s.lateEvents k id row)
      fun p u => settlePort_sdr p _
    have hsettle (t : State) := forEach_sdr (portsOf k) (fun p u => u.onPort p Port.settle) t fun _ _ => rfl
    rw [hsettle, releaseRows_sdr, hvoid, lateEvents_sdr]
@[simp] theorem expire_sdr (p) (n) (s : State) : (s.expire p n).sdr = s.sdr := by simp [expire]

/-! ## Nozzles -/

@[simp] theorem replaceChannel_sdr (k) (j) (s : State) : (s.replaceChannel k j).sdr = s.sdr := by
  simp only [replaceChannel]
  split
  · rfl
  · split <;> simp
@[simp] theorem findingEvent_sdr (j) (kind) (s : State) : (s.findingEvent j kind).sdr = s.sdr := by simp [findingEvent]
@[simp] theorem foundFailed_sdr (k) (j) (s : State) : (s.foundFailed k j).sdr = s.sdr := by simp [foundFailed]
@[simp] theorem foundGood_sdr (k) (j) (s : State) : (s.foundGood k j).sdr = s.sdr := by simp [foundGood]
@[simp] theorem occulterFinding_sdr (k) (j) (verdict) (s : State) : (s.occulterFinding k j verdict).sdr = s.sdr := by
  simp [occulterFinding]
@[simp] theorem queueBarStop_sdr (k) (s : State) : (s.queueBarStop k).sdr = s.sdr := by simp [queueBarStop]
@[simp] theorem stopForChanges_sdr (k) (s : State) : (s.stopForChanges k).sdr = s.sdr := by simp [stopForChanges]
@[simp] theorem noteChange_sdr (k) (j) (r) (s : State) : (s.noteChange k j r).sdr = s.sdr := by simp [noteChange]

/-! ## Link -/

@[simp] theorem beginTraining_sdr (p) (s : State) : (s.beginTraining p).sdr = s.sdr := by simp [beginTraining]
@[simp] theorem failTraining_sdr (p) (s : State) : (s.failTraining p).sdr = s.sdr := by simp [failTraining]
@[simp] theorem sendTrain_sdr (p) (s : State) : (s.sendTrain p).sdr = s.sdr := by simp [sendTrain]
@[simp] theorem enterT1_sdr (p) (s : State) : (s.enterT1 p).sdr = s.sdr := by simp [enterT1]
@[simp] theorem sendConfig_sdr (p) (s : State) : (s.sendConfig p).sdr = s.sdr := by simp [sendConfig]
@[simp] theorem sendPing_sdr (p) (seq) (s : State) : (s.sendPing p seq).sdr = s.sdr := by simp [sendPing]
@[simp] theorem enterT4_sdr (p) (s : State) : (s.enterT4 p).sdr = s.sdr := by simp [enterT4]
@[simp] theorem judgeReport_sdr (p) (r) (s : State) : (s.judgeReport p r).sdr = s.sdr := by simp [judgeReport]
@[simp] theorem takeReport_sdr (p) (r) (s : State) : (s.takeReport p r).sdr = s.sdr := by simp [takeReport]
@[simp] theorem takeCaps_sdr (p) (d) (s : State) : (s.takeCaps p d).sdr = s.sdr := by
  simp only [takeCaps]
  split
  · split <;> simp
  · simp
@[simp] theorem train_sdr (p) (inverted) (step) (sub) (d) (s : State) : (s.train p inverted step sub d).sdr = s.sdr := by
  simp [train]
@[simp] theorem sendSync_sdr (p) (s : State) : (s.sendSync p).sdr = s.sdr := by simp [sendSync]
@[simp] theorem pong_sdr (p) (seq) (trip) (s : State) : (s.pong p seq trip).sdr = s.sdr := by simp [pong]

/-! ## Occulter -/

@[simp] theorem queueTests_sdr (n) (s : State) : (s.queueTests n).sdr = s.sdr := by
  induction n generalizing s with
  | zero => rfl
  | succ n ih =>
    rw [queueTests]
    split
    · exact ih _
    · rfl
@[simp] theorem occStart_sdr (s : State) : s.occStart.sdr = s.sdr := by simp [occStart]
@[simp] theorem occEnd_sdr (state) (s : State) : (s.occEnd state).sdr = s.sdr := by simp [occEnd]
@[simp] theorem writeOccCtrl_sdr (v) (s : State) : (s.writeOccCtrl v).sdr = s.sdr := by simp [writeOccCtrl]
@[simp] theorem occStrobe_sdr (s : State) : s.occStrobe.sdr = s.sdr := by simp [occStrobe]
@[simp] theorem onDrop_sdr (i) (g) (s : State) : (s.onDrop i g).sdr = s.sdr := by simp [onDrop]
@[simp] theorem pulseRise_sdr (g) (s : State) : (s.pulseRise g).sdr = s.sdr := by
  simp only [pulseRise]
  split <;> simp
@[simp] theorem pulseFall_sdr (g) (s : State) : (s.pulseFall g).sdr = s.sdr := by
  simp only [pulseFall]
  split
  · rfl
  · split <;> simp
@[simp] theorem nozzleDone_sdr (i) (s : State) : (s.nozzleDone i).sdr = s.sdr := by
  simp only [nozzleDone]
  rw [occulterFinding_sdr, onOcc_sdr, spoolPut_sdr, onFree_sdr]
@[simp] theorem judgeDrop_sdr (d) (s : State) : (s.judgeDrop d).sdr = s.sdr := by simp [judgeDrop]

/-! ## Strobe -/

@[simp] theorem missPort_sdr (id) (row) (p) (s : State) : (s.missPort id row p).sdr = s.sdr := by simp [missPort]
@[simp] theorem freeFired_sdr (k) (s : State) : (s.freeFired k).sdr = s.sdr := by simp [freeFired]
@[simp] theorem leaveSheet_sdr (k) (id) (s : State) : (s.leaveSheet k id).sdr = s.sdr := by simp [leaveSheet]
@[simp] theorem markPassed_sdr (k) (id) (row) (s : State) : (s.markPassed k id row).sdr = s.sdr := by simp [markPassed]
@[simp] theorem passFired_sdr (k) (s : State) : (s.passFired k).sdr = s.sdr := by
  simp only [passFired]
  split <;> simp
@[simp] theorem passLive_sdr (k) (s : State) : (s.passLive k).sdr = s.sdr := by
  simp only [passLive]
  split <;> simp
@[simp] theorem passIdle_sdr (k) (id) (row) (s : State) : (s.passIdle k id row).sdr = s.sdr := by simp [passIdle]
@[simp] theorem passSheet_sdr (k) (id) (n) (x) (s : State) : (s.passSheet k id n x).sdr = s.sdr := by
  induction n generalizing x s with
  | zero => rfl
  | succ n ih =>
    rw [passSheet]
    split
    · exact (ih ..).trans (passIdle_sdr ..)
    · rfl
@[simp] theorem passDue_sdr (k) (s : State) : (s.passDue k).sdr = s.sdr := by simp [passDue]
@[simp] theorem commitEdge_sdr (p) (s : State) : (s.commitEdge p).sdr = s.sdr := by
  simp only [commitEdge]
  split <;> simp
@[simp] theorem judgeEdge_sdr (p) (r) (c) (g) (ideal) (s : State) : (s.judgeEdge p r c g ideal).sdr = s.sdr := by
  simp only [judgeEdge]
  split
  · split <;> simp
  · split <;> simp
@[simp] theorem fireRow_sdr (p) (g) (s : State) : (s.fireRow p g).sdr = s.sdr := by simp [fireRow]
@[simp] theorem leadingEdge_sdr (p) (r) (c) (ideal) (s : State) : (s.leadingEdge p r c ideal).sdr = s.sdr := by
  simp [leadingEdge]
@[simp] theorem strobe_sdr (p) (s : State) : (s.strobe p).sdr = s.sdr := by
  simp only [strobe]
  split
  · simp
  · split
    · rfl
    · split <;> simp
@[simp] theorem cutPairs_sdr (s : State) : s.cutPairs.sdr = s.sdr := by simp [cutPairs]

/-! ## Calib -/

@[simp] theorem missTaps_sdr (s : State) : s.missTaps.sdr = s.sdr := by simp [missTaps]
@[simp] theorem sampleBar_sdr (t) (s1) (n) (k) (s : State) : (s.sampleBar t s1 n k).sdr = s.sdr := by simp [sampleBar]
@[simp] theorem pairTap_sdr (c) (h0) (s1) (n) (s : State) : (s.pairTap c h0 s1 n).sdr = s.sdr := by
  simp only [pairTap]
  split <;> simp
@[simp] theorem denseFindings_sdr (k) (errs) (s : State) : (s.denseFindings k errs).sdr = s.sdr := by simp [denseFindings]
@[simp] theorem formBatch_sdr (k) (s : State) : (s.formBatch k).sdr = s.sdr := by simp [formBatch]
@[simp] theorem thermCheck_sdr (k) (s : State) : (s.thermCheck k).sdr = s.sdr := by simp [thermCheck]
@[simp] theorem clearCells_sdr (k) (old) (new) (s : State) : (s.clearCells k old new).sdr = s.sdr := by simp [clearCells]

/-! ## Compress -/

@[simp] theorem cmpInput_sdr (e) (input) (s : State) : (s.cmpInput e input).1.sdr = s.sdr := by
  simp only [cmpInput]
  split <;> simp
@[simp] theorem writeBuffer_sdr (e) (x) (acc : State × Bool) : (writeBuffer e x acc).1.sdr = acc.1.sdr := by
  unfold writeBuffer
  split
  · exact spoolPut_sdr ..
  · exact hostStore_sdr ..
theorem foldl_writeBuffer_sdr (e) (l : List (Nat × List Byte)) (acc : State × Bool) :
    (l.foldl (fun acc x => writeBuffer e x acc) acc).1.sdr = acc.1.sdr := by
  induction l generalizing acc with
  | nil => rfl
  | cons x l ih => rw [List.foldl_cons, ih, writeBuffer_sdr]
@[simp] theorem takeCmpLane_sdr (i) (s : State) : (s.takeCmpLane i).sdr = s.sdr := by
  simp only [takeCmpLane]
  split <;> simp
@[simp] theorem takeCmpLanes_sdr (s : State) : s.takeCmpLanes.sdr = s.sdr := by simp [takeCmpLanes]
@[simp] theorem startCompress_sdr (r) (e) (input) (chain) (s : State) :
    (s.startCompress r e input chain).sdr = s.sdr := by
  simp only [startCompress]
  split
  · simp
  · split
    · split
      · simp
      · split <;> simp
    · split
      · simp
      · split <;> simp
@[simp] theorem endCompress_sdr (j) (s : State) : (s.endCompress j).sdr = s.sdr := by
  have hparts := foldl_writeBuffer_sdr j.entry (fillBuffers j.buffers j.written) (s, true)
  simp only [endCompress]
  split
  · exact (failBulk_sdr ..).trans hparts
  · split
    · exact (failBulk_sdr ..).trans hparts
    · exact (failBulk_sdr ..).trans hparts
    · exact (doneBulk_sdr ..).trans hparts

/-! ## Meridian -/

@[simp] theorem merTick_sdr (s : State) : s.merTick.sdr = s.sdr := by simp [merTick]
@[simp] theorem latchCapture_sdr (k) (s : State) : (s.latchCapture k).sdr = s.sdr := by simp [latchCapture]
@[simp] theorem noteTrigger_sdr (u) (rising) (s : State) : (s.noteTrigger u rising).sdr = s.sdr := by
  unfold noteTrigger
  split
  · split <;> rfl
  · rfl
@[simp] theorem drive_sdr (o) (level) (s : State) : (s.drive o level).sdr = s.sdr := by simp [drive]
@[simp] theorem onSlot_sdr (r) (g) (s : State) : (s.onSlot r g).sdr = s.sdr := by
  simp only [onSlot]
  split <;> simp
@[simp] theorem issue_sdr (d) (s : State) : (s.issue d).sdr = s.sdr := by
  simp only [issue]
  split
  · split <;> simp
  · simp
  · split <;> simp
  · split <;> simp
  · simp
@[simp] theorem act_sdr (r) (s : State) : (s.act r).sdr = s.sdr := by
  simp only [act]
  split <;> simp
@[simp] theorem slotNext_sdr (r) (final) (s : State) : (s.slotNext r final).sdr = s.sdr := by
  simp only [slotNext]
  split <;> simp
@[simp] theorem execEvent_sdr (r) (s : State) : (s.execEvent r).sdr = s.sdr := by simp [execEvent]
@[simp] theorem occur_sdr (r) (late) (s : State) : (s.occur r late).sdr = s.sdr := by simp [occur]
@[simp] theorem timeSlots_sdr (n) (s : State) : (s.timeSlots n).sdr = s.sdr := by simp [timeSlots]
@[simp] theorem predict_sdr (j) (s : State) : (s.predict j).sdr = s.sdr := by
  simp only [predict]
  split
  · rfl
  · split <;> simp
@[simp] theorem posDue_sdr (j) (late) (s : State) : (s.posDue j late).sdr = s.sdr := by simp [posDue]
@[simp] theorem runPredicted_sdr (j) (s : State) : (s.runPredicted j).sdr = s.sdr := by simp [runPredicted]
@[simp] theorem posSlots_sdr (m) (h) (s : State) : (s.posSlots m h).sdr = s.sdr := by simp [posSlots]
@[simp] theorem anchorSlots_sdr (h) (s : State) : (s.anchorSlots h).sdr = s.sdr := by simp [anchorSlots]
@[simp] theorem arm_sdr (r) (s : State) : (s.arm r).sdr = s.sdr := by
  simp only [arm]
  split <;> simp
@[simp] theorem disarm_sdr (r) (s : State) : (s.disarm r).sdr = s.sdr := by
  simp only [disarm]
  split
  · rfl
  · split <;> simp
@[simp] theorem cancelAllSlots_sdr (s : State) : s.cancelAllSlots.sdr = s.sdr := by simp [cancelAllSlots]
@[simp] theorem beginHoldover_sdr (s : State) : s.beginHoldover.sdr = s.sdr := by simp [beginHoldover]
@[simp] theorem beginHolding_sdr (s : State) : s.beginHolding.sdr = s.sdr := by simp [beginHolding]
@[simp] theorem discardSample_sdr (s : State) : s.discardSample.sdr = s.sdr := by simp [discardSample]
@[simp] theorem writePtpCtrl_sdr (v) (s : State) : (s.writePtpCtrl v).sdr = s.sdr := by simp [writePtpCtrl]
@[simp] theorem annLoss_sdr (s : State) : s.annLoss.sdr = s.sdr := by simp [annLoss]
@[simp] theorem frameIn_sdr (p) (len) (s : State) : (s.frameIn p len).sdr = s.sdr := by simp [frameIn]

/-! ## Press -/

@[simp] theorem settleOk_sdr (s : State) : s.settleOk.sdr = s.sdr := by simp [settleOk]
@[simp] theorem pulse_sdr (parity) (s : State) : (s.pulse parity).sdr = s.sdr := by simp [pulse]
@[simp] theorem decideAnchor_sdr (a) (s : State) : (s.decideAnchor a).sdr = s.sdr := by
  simp only [decideAnchor]
  split
  · simp
  · split
    · simp
    · split <;> simp
@[simp] theorem decideSheets_sdr (s : State) : s.decideSheets.sdr = s.sdr := by simp [decideSheets]
@[simp] theorem pruneAnchors_sdr (s : State) : s.pruneAnchors.sdr = s.sdr := by simp [pruneAnchors]
@[simp] theorem addAnchor_sdr (sheet) (pe) (y) (s : State) : (s.addAnchor sheet pe y).sdr = s.sdr := by
  simp only [addAnchor]
  split <;> simp
@[simp] theorem notReady_sdr (pe) (s : State) : (s.notReady pe).sdr = s.sdr := by simp [notReady]
@[simp] theorem skipSheet_sdr (pe) (y) (s : State) : (s.skipSheet pe y).sdr = s.sdr := by simp [skipSheet]
@[simp] theorem takeSheet_sdr (pe) (y) (s : State) : (s.takeSheet pe y).sdr = s.sdr := by
  simp only [takeSheet]
  split
  · simp
  · split
    · simp
    · split <;> simp
@[simp] theorem sheetFedEdge_sdr (pe) (s : State) : (s.sheetFedEdge pe).sdr = s.sdr := by
  simp only [sheetFedEdge]
  split
  · simp
  · split <;> simp
@[simp] theorem virtualDue_sdr (pe) (y) (s : State) : (s.virtualDue pe y).sdr = s.sdr := by
  simp only [virtualDue]
  split
  · split <;> simp
  · simp
@[simp] theorem moveAnchor_sdr (a) (pe) (y) (s : State) : (s.moveAnchor a pe y).sdr = s.sdr := by simp [moveAnchor]
@[simp] theorem webReanchor_sdr (pe) (next) (s : State) : (s.webReanchor pe next).sdr = s.sdr := by
  simp only [webReanchor]
  split <;> simp
@[simp] theorem webEdgeAt_sdr (pe) (s : State) : (s.webEdgeAt pe).sdr = s.sdr := by
  simp only [webEdgeAt]
  split <;> simp
@[simp] theorem virtualSheets_sdr (n) (s : State) : (s.virtualSheets n).sdr = s.sdr := by
  induction n generalizing s with
  | zero => rfl
  | succ n ih =>
    rw [virtualSheets]
    split
    · split
      · exact (ih _).trans (virtualDue_sdr ..)
      · rfl
    · rfl
@[simp] theorem anchorEdge_sdr (s : State) : s.anchorEdge.sdr = s.sdr := by simp [anchorEdge]

/-! ## Heliostat -/

@[simp] theorem encoderError_sdr (m) (code) (s : State) : (s.encoderError m code).sdr = s.sdr := by
  simp only [encoderError]
  split <;> simp
@[simp] theorem countRows_sdr (h0) (h1) (s : State) : (s.countRows h0 h1).sdr = s.sdr := by simp [countRows]
@[simp] theorem rowEvents_sdr (p) (n) (x) (s : State) : (s.rowEvents p n x).sdr = s.sdr := by
  induction n generalizing x s with
  | zero => rfl
  | succ n ih =>
    rw [rowEvents]
    split
    · rfl
    · split
      · rfl
      · simp [ih]
@[simp] theorem feedLost_sdr (s : State) : s.feedLost.sdr = s.sdr := by
  simp only [feedLost]
  split
  · split
    · split <;> simp
    · rfl
  · rfl
@[simp] theorem markRaised_sdr (m) (h0) (s : State) : (s.markRaised m h0).sdr = s.sdr := by simp [markRaised]
@[simp] theorem reverseCheck_sdr (m) (s : State) : (s.reverseCheck m).sdr = s.sdr := by simp [reverseCheck]
@[simp] theorem countStep_sdr (m) (d) (s : State) : (s.countStep m d).sdr = s.sdr := by simp [countStep]
@[simp] theorem encoderStep_sdr (m) (a) (b) (disagree) (s : State) : (s.encoderStep m a b disagree).sdr = s.sdr := by
  simp [encoderStep]
@[simp] theorem slowUpdate_sdr (s : State) : s.slowUpdate.sdr = s.sdr := by simp [slowUpdate]
@[simp] theorem takeRecord_sdr (m) (r) (s : State) : (s.takeRecord m r).sdr = s.sdr := by
  simp only [takeRecord]
  split <;> simp
@[simp] theorem clearHistory_sdr (m) (s : State) : (s.clearHistory m).sdr = s.sdr := by simp [clearHistory]
@[simp] theorem startFeed_sdr (p) (s : State) : (s.startFeed p).sdr = s.sdr := by simp [startFeed]

/-! ## Eyepiece -/

@[simp] theorem startCci_sdr (c) (s : State) : (s.startCci c).sdr = s.sdr := by
  simp only [startCci]
  split
  · rfl
  · split <;> simp
@[simp] theorem noteSlices_sdr (c) (ended) (s : State) : (s.noteSlices c ended).sdr = s.sdr := by
  simp only [noteSlices]
  split <;> simp
@[simp] theorem writeRaw_sdr (c) (f) (line) (px) (s : State) : (s.writeRaw c f line px).sdr = s.sdr := by simp [writeRaw]
@[simp] theorem addLine_sdr (c) (px) (s : State) : (s.addLine c px).sdr = s.sdr := by
  simp only [addLine]
  split <;> simp
@[simp] theorem fillLines_sdr (c) (n) (s : State) : (s.fillLines c n).sdr = s.sdr := by
  induction n generalizing s with
  | zero => rfl
  | succ n ih => exact (ih _).trans (addLine_sdr ..)
@[simp] theorem camData_sdr (c) (s : State) : (s.camData c).sdr = s.sdr := by simp [camData]
@[simp] theorem takeImage_sdr (c) (f) (s : State) : (s.takeImage c f).1.sdr = s.sdr := by
  simp only [takeImage]
  split <;> simp
@[simp] theorem processLines_sdr (c) (f) (y) (lines) (s : State) : (s.processLines c f y lines).1.sdr = s.sdr := by
  unfold processLines
  extract_lets r x g t out bytes per stored
  have hr : r.1.sdr = s.sdr := takeImage_sdr ..
  have hg : g.1.sdr = s.sdr := by
    simp only [g]
    split
    · exact sdr_fst ((spoolGet_sdr ..).trans hr)
    · exact hr
  have ht : t.sdr = s.sdr := by simp [t, hg]
  have hstored : stored.sdr = s.sdr := by
    simp only [stored]
    split
    · exact ht
    · exact (spoolPut_sdr ..).trans ht
  exact sdr_fst hstored
@[simp] theorem endFrame_sdr (c) (s : State) : (s.endFrame c).sdr = s.sdr := by
  simp only [endFrame]
  split
  · rfl
  · split <;> simp
@[simp] theorem frameSets_sdr (c) (no) (s : State) : (s.frameSets c no).sdr = s.sdr := by simp [frameSets]
@[simp] theorem openFrame_sdr (c) (s : State) : (s.openFrame c).sdr = s.sdr := by simp [openFrame]
@[simp] theorem countPacket_sdr (c) (s : State) : (s.countPacket c).sdr = s.sdr := by simp [countPacket]
@[simp] theorem orphan_sdr (c) (s : State) : (s.orphan c).sdr = s.sdr := by simp [orphan]
@[simp] theorem flag_sdr (c) (x) (s : State) : (s.flag c x).sdr = s.sdr := by simp [flag]
@[simp] theorem header_sdr (c) (h) (s : State) : (s.header c h).1.sdr = s.sdr := by
  simp only [header]
  split
  · simp
  · split <;> simp
@[simp] theorem takeLine_sdr (c) (pixels) (crcOk) (lost) (s : State) : (s.takeLine c pixels crcOk lost).sdr = s.sdr := by
  simp only [takeLine]
  split <;> simp
@[simp] theorem processSlice_sdr (c) (f) (s : State) : (s.processSlice c f).sdr = s.sdr := by
  unfold processSlice
  extract_lets n row r lines t g p u
  have hr : r.1.sdr = s.sdr := spoolGet_sdr ..
  have ht : t.sdr = s.sdr := by simp [t, hr]
  have hp : p.1.sdr = s.sdr := (processLines_sdr ..).trans ht
  have hu : u.sdr = s.sdr := (onEye_sdr ..).trans hp
  split
  · split
    · exact (onCam_sdr ..).trans hu
    · exact (onCam_sdr ..).trans hu
  · exact (onCam_sdr ..).trans hu
@[simp] theorem lostSum_sdr (c) (k) (x) (s : State) : (s.lostSum c k x).sdr = s.sdr := by simp [lostSum]
@[simp] theorem writeRecord_sdr (c) (f) (s : State) : (s.writeRecord c f).sdr = s.sdr := by
  simp only [writeRecord]
  split
  · rw [status_sdr, onCam_sdr, onFree_sdr, spoolPut_sdr]
  · rw [pairTap_sdr, status_sdr, onCam_sdr, onFree_sdr, spoolPut_sdr]
@[simp] theorem camStop_sdr (c) (s : State) : (s.camStop c).sdr = s.sdr := by simp [camStop]
@[simp] theorem camStart_sdr (c) (s : State) : (s.camStart c).sdr = s.sdr := by simp [camStart]

/-! ## Functions -/

@[simp] theorem stopPort_sdr (gap) (p) (s : State) : (s.stopPort gap p).sdr = s.sdr := by simp [stopPort]
@[simp] theorem stopBar_sdr (gap) (k) (s : State) : (s.stopBar gap k).sdr = s.sdr := by simp [stopBar]
@[simp] theorem stopCam_sdr (c) (s : State) : (s.stopCam c).sdr = s.sdr := by simp [stopCam]
@[simp] theorem stopAxis_sdr (x) (s : State) : (s.stopAxis x).sdr = s.sdr := by simp [stopAxis]
@[simp] theorem rejectBegun_sdr (sh) (s : State) : (s.rejectBegun sh).sdr = s.sdr := by simp [rejectBegun]
@[simp] theorem stopTimebase_sdr (s : State) : s.stopTimebase.sdr = s.sdr := by simp [stopTimebase]
@[simp] theorem stopOne_sdr (gap) (f) (s : State) : (s.stopOne gap f).sdr = s.sdr := by
  simp only [stopOne]
  split <;> simp
@[simp] theorem stopFn_sdr (f) (gap) (s : State) : (s.stopFn f gap).sdr = s.sdr := by simp [stopFn]
@[simp] theorem dropReq_sdr (q) (s : State) : (s.dropReq q).sdr = s.sdr := by simp [dropReq]
@[simp] theorem addReq_sdr (q) (s : State) : (s.addReq q).sdr = s.sdr := by simp [addReq]
@[simp] theorem stopEffect_sdr (q) (s : State) : (s.stopEffect q).sdr = s.sdr := by simp [stopEffect]
@[simp] theorem finishStop_sdr (q) (s : State) : (s.finishStop q).sdr = s.sdr := by
  rw [finishStop, done_sdr, dropReq_sdr]
  exact forEach_sdr _ _ _ fun _ _ => rfl
@[simp] theorem refuseRestart_sdr (q) (x) (s : State) : (s.refuseRestart q x).sdr = s.sdr := by simp [refuseRestart]
@[simp] theorem awaitLedger_sdr (q) (l) (s : State) : (s.awaitLedger q l).sdr = s.sdr := by simp [awaitLedger]
@[simp] theorem restartBegins_sdr (q) (l) (s : State) : (s.restartBegins q l).sdr = s.sdr := by
  have hbusy := forEach_sdr l (fun f u => u.onFn f fun x => { x with busy := true }) s fun _ _ => rfl
  simp [restartBegins, hbusy]
@[simp] theorem clearAbsent_sdr (s : State) : s.clearAbsent.sdr = s.sdr := by simp [clearAbsent]
@[simp] theorem engineFails_sdr (i) (s : State) : (s.engineFails i).sdr = s.sdr := by simp [engineFails]
@[simp] theorem promoteDropped_sdr (k) (x) (s : State) : (s.promoteDropped k x).sdr = s.sdr := by simp [promoteDropped]
@[simp] theorem applyRemaps_sdr (f) (s : State) : (s.applyRemaps f).sdr = s.sdr := by simp [applyRemaps]
@[simp] theorem retireEngines_sdr (s : State) : s.retireEngines.sdr = s.sdr := by simp [retireEngines]
@[simp] theorem joinRow_sdr (p) (s : State) : (s.joinRow p).sdr = s.sdr := by simp [joinRow]
@[simp] theorem startPort_sdr (p) (s : State) : (s.startPort p).sdr = s.sdr := by simp [startPort]
@[simp] theorem startAxis_sdr (x) (s : State) : (s.startAxis x).sdr = s.sdr := by simp [startAxis]
@[simp] theorem resetLanding_sdr (x) (s : State) : (s.resetLanding x).sdr = s.sdr := by
  simp only [resetLanding]
  split <;> simp
@[simp] theorem spoolReset_sdr (new) (s : State) : (s.spoolReset new).sdr = s.sdr := by simp [spoolReset]
@[simp] theorem startSpool_sdr (s : State) : s.startSpool.sdr = s.sdr := by
  simp only [startSpool]
  split <;> simp
@[simp] theorem runFn_sdr (f) (s : State) : (s.runFn f).sdr = s.sdr := by simp [runFn]
@[simp] theorem unbusy_sdr (f) (s : State) : (s.unbusy f).sdr = s.sdr := by simp [unbusy]

/-! ## Mailbox -/

@[simp] theorem program_sdr (x) (skip) (s : State) : (s.program x skip).sdr = s.sdr := by simp [program]
@[simp] theorem recoverFlash_sdr (s : State) : s.recoverFlash.sdr = s.sdr := by simp [recoverFlash]
@[simp] theorem served_sdr (s : State) : s.served.sdr = s.sdr := by simp [served]
@[simp] theorem mbFail_sdr (r) (e) (cause) (s : State) : (s.mbFail r e cause).sdr = s.sdr := by simp [mbFail]
@[simp] theorem mbDone_sdr (r) (e) (value) (reply) (s : State) : (s.mbDone r e value reply).sdr = s.sdr := by simp [mbDone]
@[simp] theorem mbRun_sdr (r) (e) (args) (cond) (body) (value) (s : State) (h : ∀ t, (body t).sdr = t.sdr) :
    (s.mbRun r e args cond body value).sdr = s.sdr := by
  simp [mbRun, h]
@[simp] theorem mbReply_sdr (r) (e) (args) (reply) (s : State) : (s.mbReply r e args reply).sdr = s.sdr := by simp [mbReply]
@[simp] theorem mailbox_sdr (msg) (body) (r) (s : State) (h : ∀ r e t, (body r e t).sdr = t.sdr) :
    (s.mailbox msg body r).sdr = s.sdr :=
  runEntry_sdr _ _ _ _ _ fun e t => by split <;> simp [h]
@[simp] theorem clearLedger_sdr (kind) (unit) (s : State) : (s.clearLedger kind unit).sdr = s.sdr := by simp [clearLedger]
@[simp] theorem snapshot_sdr (r) (e) (s : State) : (s.snapshot r e).sdr = s.sdr := by simp [snapshot]

/-! ## Counters -/

@[simp] theorem loseSample_sdr (s : State) : s.loseSample.sdr = s.sdr := by simp [loseSample]
@[simp] theorem wrapCounter_sdr (n) (s : State) : (s.wrapCounter n).sdr = s.sdr := by simp [wrapCounter]
@[simp] theorem takeSample_sdr (n) (offset) (task) (skid) (s : State) :
    (s.takeSample n offset task skid).sdr = s.sdr := by
  simp only [takeSample]
  split <;> simp
@[simp] theorem endWindow_sdr (m) (s : State) : (s.endWindow m).sdr = s.sdr := by simp [endWindow]

/-! ## Ethernet -/

@[simp] theorem btDrop_sdr (p) (g) (s : State) : (s.btDrop p g).sdr = s.sdr := by simp [btDrop]
@[simp] theorem dropFormat_sdr (p) (s : State) : (s.dropFormat p).sdr = s.sdr := by simp [dropFormat]
@[simp] theorem dropCrc_sdr (p) (s : State) : (s.dropCrc p).sdr = s.sdr := by simp [dropCrc]
@[simp] theorem dropNoSpace_sdr (p) (s : State) : (s.dropNoSpace p).sdr = s.sdr := by simp [dropNoSpace]
@[simp] theorem dropDup_sdr (p) (s : State) : (s.dropDup p).sdr = s.sdr := by simp [dropDup]
@[simp] theorem onTracker_sdr (key) (g) (s : State) : (s.onTracker key g).sdr = s.sdr := by simp [onTracker]
@[simp] theorem btAnswer_sdr (p) (source) (key) (code) (s : State) : (s.btAnswer p source key code).sdr = s.sdr := by
  simp [btAnswer]
@[simp] theorem openTracker_sdr (p) (source) (m) (s : State) : (s.openTracker p source m).sdr = s.sdr := by
  simp [openTracker]
@[simp] theorem writeFragment_sdr (p) (source) (m) (t) (s : State) : (s.writeFragment p source m t).sdr = s.sdr := by
  simp only [writeFragment]
  split
  · simp
  · split
    · simp
    · split <;> simp
@[simp] theorem btData_sdr (p) (source) (m) (s : State) : (s.btData p source m).sdr = s.sdr := by
  simp only [btData]
  split
  · simp
  · split
    · simp
    · split
      · simp
      · split
        · simp
        · simp
          split
          · simp
          · simp
            split <;> simp
@[simp] theorem sendNak_sdr (t) (s : State) : (s.sendNak t).sdr = s.sdr := by simp [sendNak]
@[simp] theorem abandon_sdr (t) (s : State) : (s.abandon t).sdr = s.sdr := by simp [abandon]
@[simp] theorem btGap_sdr (key) (s : State) : (s.btGap key).sdr = s.sdr := by
  simp only [btGap]
  split <;> simp

/-! ## Patches -/

@[simp] theorem storePatch_sdr (q) (s : State) : (s.storePatch q).sdr = s.sdr := by simp [storePatch]
@[simp] theorem latePatch_sdr (q) (s : State) : (s.latePatch q).sdr = s.sdr := by simp [latePatch]
@[simp] theorem offerPatch_sdr (r) (e) (q) (s : State) : (s.offerPatch r e q).sdr = s.sdr := by simp [offerPatch]
@[simp] theorem overlayPatch_sdr (r) (e) (payload) (s : State) : (s.overlayPatch r e payload).sdr = s.sdr := by
  simp only [overlayPatch]
  split
  · simp
  · split
    · simp
    · split
      · simp
      · split <;> simp
@[simp] theorem retryPatch_sdr (r) (s : State) : (s.retryPatch r).sdr = s.sdr := by
  simp only [retryPatch]
  split <;> simp
@[simp] theorem settleHold_sdr (s : State) : s.settleHold.sdr = s.sdr := by simp [settleHold]
@[simp] theorem watchHold_sdr (f) (s : State) (h : ∀ t, (f t).sdr = t.sdr) : (s.watchHold f).sdr = s.sdr := by
  simp [watchHold, h]
@[simp] theorem overlayReject_sdr (l) (s : State) : (s.overlayReject l).sdr = s.sdr := by simp [overlayReject]
@[simp] theorem overlayLoss_sdr (s : State) : s.overlayLoss.sdr = s.sdr := by simp [overlayLoss]
@[simp] theorem badItem_sdr (code) (s : State) : (s.badItem code).sdr = s.sdr := by simp [badItem]
@[simp] theorem endLoss_sdr (id) (s : State) : (s.endLoss id).sdr = s.sdr := by simp [endLoss]
@[simp] theorem overlayWord_sdr (d) (soi) (s : State) : (s.overlayWord d soi).sdr = s.sdr := by simp [overlayWord]
@[simp] theorem startFlush_sdr (s : State) : s.startFlush.sdr = s.sdr := by simp [startFlush]
@[simp] theorem pointerFault_sdr (s : State) : s.pointerFault.sdr = s.sdr := by simp [pointerFault]
@[simp] theorem overlayRemaps_sdr (s : State) : s.overlayRemaps.sdr = s.sdr := by simp [overlayRemaps]
@[simp] theorem commitOverlay_sdr (s : State) : s.commitOverlay.sdr = s.sdr := by simp [commitOverlay]
@[simp] theorem endFlush_sdr (s : State) : s.endFlush.sdr = s.sdr := by simp [endFlush]
@[simp] theorem finishItem_sdr (s : State) : s.finishItem.sdr = s.sdr := by
  simp only [finishItem]
  split
  · simp
  · split
    · simp
    · split <;> simp
@[simp] theorem takeWord_sdr (w) (s : State) : (s.takeWord w).sdr = s.sdr := by simp [takeWord]
@[simp] theorem readWord_sdr (s : State) : s.readWord.sdr = s.sdr := by
  simp only [readWord]
  split <;> simp
@[simp] theorem lostWord_sdr (s : State) : s.lostWord.sdr = s.sdr := by simp [lostWord]

/-! ## SpoolCtl -/

@[simp] theorem remapSram_sdr (g) (row) (region) (s : State) : (s.remapSram g row region).sdr = s.sdr := by simp [remapSram]
@[simp] theorem lostDiffusion_sdr (k) (s : State) : (s.lostDiffusion k).sdr = s.sdr := by
  simp only [lostDiffusion]
  split
  · rfl
  · split <;> simp
@[simp] theorem lostCheck_sdr (k) (s : State) : (s.lostCheck k).sdr = s.sdr := by
  simp only [lostCheck]
  split <;> simp
@[simp] theorem lostSlot_sdr (p) (s : State) : (s.lostSlot p).sdr = s.sdr := by
  simp only [lostSlot]
  split
  · rfl
  · split <;> simp
@[simp] theorem lostWindow_sdr (l) (s : State) : (s.lostWindow l).sdr = s.sdr := by
  simp only [lostWindow]
  split <;> simp
@[simp] theorem lostLines_sdr (c) (s : State) : (s.lostLines c).sdr = s.sdr := by simp [lostLines]
@[simp] theorem lostTap_sdr (k) (c) (s : State) : (s.lostTap k c).sdr = s.sdr := by simp [lostTap]
@[simp] theorem sramLost_sdr (region) (s : State) : (s.sramLost region).sdr = s.sdr := by
  simp only [sramLost]
  split <;> simp
@[simp] theorem scrubWord_sdr (g) (region) (find) (s : State) : (s.scrubWord g region find).sdr = s.sdr := by
  simp only [scrubWord]
  split
  · split
    · split
      · split <;> simp
      · split <;> simp
    · split <;> simp
  · split
    · split
      · split <;> simp
      · split <;> simp
    · split <;> simp
@[simp] theorem serve_sdr (c) (q) (upset) (s : State) : (s.serve c q upset).sdr = s.sdr := by simp [serve]
@[simp] theorem issueRead_sdr (c) (upset) (s : State) : (s.issueRead c upset).sdr = s.sdr := by
  simp only [issueRead]
  split
  · rfl
  · split <;> simp
@[simp] theorem enterSelfRefresh_sdr (c) (s : State) : (s.enterSelfRefresh c).sdr = s.sdr := by simp [enterSelfRefresh]

/-! ## HostAccess -/

@[simp] theorem scrambleStaged_sdr (s : State) : s.scrambleStaged.sdr = s.sdr := by simp [scrambleStaged]
@[simp] theorem bar4Store_sdr (a) (bs) (s : State) : (s.bar4Store a bs).sdr = s.sdr := by simp [bar4Store]
@[simp] theorem setPower_sdr (n) (s : State) : (s.setPower n).sdr = s.sdr := by simp [setPower]
@[simp] theorem trigRises_sdr (s : State) (t : State) (c) (u : State) : (s.trigRises t c u).sdr = u.sdr := by
  simp [trigRises]
@[simp] theorem gpioHeld_sdr (s : State) (set) : (s.gpioHeld set).sdr = s.sdr := by simp [gpioHeld]
@[simp] theorem writeTrip_sdr (v) (s : State) : (s.writeTrip v).sdr = s.sdr := by simp [writeTrip]
@[simp] theorem writeSafe_sdr (v) (s : State) : (s.writeSafe v).sdr = s.sdr := by simp [writeSafe]
@[simp] theorem writeOvlStatus_sdr (v) (s : State) : (s.writeOvlStatus v).sdr = s.sdr := by simp [writeOvlStatus]
@[simp] theorem writeOvlCtrl_sdr (v) (s : State) : (s.writeOvlCtrl v).sdr = s.sdr := by simp [writeOvlCtrl]
@[simp] theorem writeCounter_sdr (n) (hi) (v) (s : State) : (s.writeCounter n hi v).sdr = s.sdr := by simp [writeCounter]
@[simp] theorem clearOvf_sdr (n) (v) (s : State) : (s.clearOvf n v).sdr = s.sdr := by simp [clearOvf]
@[simp] theorem sideClear_sdr (off) (v) (s : State) : (s.sideClear off v).sdr = s.sdr := by
  simp only [sideClear]
  split
  · split <;> simp
  · rfl
@[simp] theorem badBar0_sdr (s : State) : s.badBar0.sdr = s.sdr := by simp [badBar0]
@[simp] theorem bar4Get_sdr (o) (len) (s : State) : (s.bar4Get o len).sdr = s.sdr := by
  simp only [bar4Get]
  split
  · simp
  · split
    · split <;> simp
    · split <;> simp
@[simp] theorem bar4Put_sdr (o) (bs) (s : State) : (s.bar4Put o bs).sdr = s.sdr := by simp [bar4Put]

/-! ## HostLink -/

@[simp] theorem dropCompress_sdr (r) (e) (s : State) : (s.dropCompress r e).sdr = s.sdr := by simp [dropCompress]
@[simp] theorem abortEntry_sdr (r) (e) (code) (s : State) : (s.abortEntry r e code).sdr = s.sdr := by
  simp only [abortEntry]
  split <;> simp
@[simp] theorem loseRing_sdr (r) (s : State) : (s.loseRing r).sdr = s.sdr := by simp [loseRing]
@[simp] theorem loseLink_sdr (s : State) : s.loseLink.sdr = s.sdr := by simp [loseLink]
@[simp] theorem countTimeout_sdr (timeout) (s : State) : (s.countTimeout timeout).sdr = s.sdr := by simp [countTimeout]
@[simp] theorem failAccess_sdr (r) (tag) (timeout) (s : State) : (s.failAccess r tag timeout).sdr = s.sdr := by
  simp only [failAccess]
  split
  · simp
  · split <;> simp
@[simp] theorem accessFails_sdr (a) (s : State) : (s.accessFails a).sdr = s.sdr := by
  simp only [accessFails]
  split <;> simp

/-! ## Tick -/

@[simp] theorem levelTick_sdr (old : State) (n) (s : State) : (old.levelTick n s).sdr = s.sdr := by simp [levelTick]
@[simp] theorem clockTick_sdr (s : State) : s.clockTick.sdr = s.sdr := by simp [clockTick]

/-! ## Operations that write a register -/

@[simp] theorem loadMacs_sdr (s : State) : s.loadMacs.sdr = s.sdr := by simp [loadMacs]
@[simp] theorem resetCommon_sdr (s : State) : s.resetCommon.sdr = s.sdr := rfl
@[simp] theorem coldReset_sdr (cause) (hold) (s : State) : (s.coldReset cause hold).sdr = s.sdr := by simp [coldReset]
@[simp] theorem warmReset_sdr (cause) (hold) (s : State) : (s.warmReset cause hold).sdr = s.sdr := by
  simp only [warmReset]
  split
  · rfl
  · split <;> simp
@[simp] theorem holdLanes_sdr (s : State) : s.holdLanes.sdr = s.sdr := by simp [holdLanes]
@[simp] theorem takeOut_sdr (s : State) : s.takeOut.sdr = s.sdr := by simp [takeOut]
@[simp] theorem recordEffect_sdr (x) (s : State) : (s.recordEffect x).sdr = s.sdr := by
  simp only [recordEffect]
  split
  · split <;> simp
  · simp
  · split <;> simp
  · split <;> simp
  · split <;> simp
  · split <;> simp
  · split <;> simp
  · rfl
@[simp] theorem undoSwap_sdr (x) (s : State) : (s.undoSwap x).sdr = s.sdr := by
  simp only [undoSwap]
  split <;> simp
@[simp] theorem appendNext_sdr (firstOk) (secondOk) (s : State) : (s.appendNext firstOk secondOk).sdr = s.sdr := by
  simp only [appendNext]
  split <;> simp
@[simp] theorem writeSqCfg_sdr (r) (v) (s : State) : (s.writeSqCfg r v).sdr = s.sdr := by simp [writeSqCfg]
@[simp] theorem unmask_sdr (v) (s : State) : (s.unmask v).sdr = s.sdr := by simp [unmask]
@[simp] theorem writeEyeCtrl_sdr (p) (v) (s : State) : (s.writeEyeCtrl p v).sdr = s.sdr := by simp [writeEyeCtrl]
@[simp] theorem writeInc_sdr (v) (s : State) : (s.writeInc v).sdr = s.sdr := by simp [writeInc]
@[simp] theorem applyStep_sdr (s : State) : s.applyStep.sdr = s.sdr := by simp [applyStep]
@[simp] theorem writeSlotCtrl_sdr (r) (v) (s : State) : (s.writeSlotCtrl r v).sdr = s.sdr := by simp [writeSlotCtrl]
@[simp] theorem acceptSample_sdr (o) (s : State) : (s.acceptSample o).sdr = s.sdr := by simp [acceptSample]
@[simp] theorem ptpSample_sdr (o) (s : State) : (s.ptpSample o).sdr = s.sdr := by simp [ptpSample]
@[simp] theorem writePset_sdr (c) (v) (s : State) : (s.writePset c v).sdr = s.sdr := by simp [writePset]
@[simp] theorem writeXfer_sdr (c) (v) (s : State) : (s.writeXfer c v).sdr = s.sdr := by simp [writeXfer]
@[simp] theorem writeFf_sdr (c) (v) (s : State) : (s.writeFf c v).sdr = s.sdr := by simp [writeFf]
@[simp] theorem thermRun_sdr (k) (s : State) : (s.thermRun k).sdr = s.sdr := by simp [thermRun]
@[simp] theorem useSpares_sdr (s : State) : s.useSpares.sdr = s.sdr := forEach_sdr _ _ _ fun i t => by split <;> simp
@[simp] theorem restartEffect_sdr (q) (s : State) : (s.restartEffect q).sdr = s.sdr := by
  simp only [restartEffect]
  split
  · simp
  · split
    · simp
    · split <;> simp
@[simp] theorem resumeRestarts_sdr (s : State) : s.resumeRestarts.sdr = s.sdr := by simp [resumeRestarts]
@[simp] theorem startBar_sdr (k) (s : State) : (s.startBar k).sdr = s.sdr := by simp [startBar]
@[simp] theorem startTb_sdr (s : State) : s.startTb.sdr = s.sdr := by simp [startTb]
@[simp] theorem refit_sdr (s : State) : s.refit.sdr = s.sdr := by simp [refit]
@[simp] theorem startEng_sdr (s : State) : s.startEng.sdr = s.sdr := by simp [startEng]
@[simp] theorem startOne_sdr (f) (s : State) : (s.startOne f).sdr = s.sdr := by cases f <;> simp [startOne]
@[simp] theorem finishRestart_sdr (q) (bad) (lost) (s : State) : (s.finishRestart q bad lost).sdr = s.sdr := by
  simp only [finishRestart]
  split <;> simp
@[simp] theorem request_sdr (r) (e) (f) (s : State) : (s.request r e f).sdr = s.sdr := by simp [request]
@[simp] theorem writeFlip_sdr (v) (s : State) : (s.writeFlip v).sdr = s.sdr := by simp [writeFlip]
@[simp] theorem writeRstCtrl_sdr (v) (s : State) : (s.writeRstCtrl v).sdr = s.sdr := by simp [writeRstCtrl]
@[simp] theorem afterWrite_sdr (off) (old) (new) (s t : State) : (afterWrite off old new s t).sdr = t.sdr := by
  simp only [afterWrite]
  split
  case h_2 =>
    split
    · simp
    · split
      · split <;> simp
      · rfl
  case h_3 =>
    split
    · split <;> simp
    · rfl
  case h_7 =>
    split
    · split <;> simp
    · rfl
  case h_9 =>
    split
    · split <;> simp
    · rfl
  all_goals simp
@[simp] theorem storeReg_sdr (off) (i) (v) (s : State) : (s.storeReg off i v).sdr = s.sdr := by simp [storeReg]

end State

/-! ## Commands -/

/-- Sidereal in the state that a command answers with. -/
def siderealAfter : Result → Option Sidereal
  | .next t => some t.sdr
  | .fault _ => none
  | .refused _ => none

@[simp] theorem siderealAfter_next (t : State) : siderealAfter (.next t) = some t.sdr := rfl

@[simp] theorem siderealAfter_ite (c : Prop) [Decidable c] (o o' : Result) :
    siderealAfter (if c then o else o') = if c then siderealAfter o else siderealAfter o' := apply_ite ..

@[simp] theorem execMeridianSeed_sidereal (s : State) : siderealAfter (execMeridianSeed s) = some s.sdr := by
  unfold execMeridianSeed
  split
  · simp only [siderealAfter_next]
    rw [State.untraced_sdr, State.emit_sdr, State.onSys_sdr, State.onMer_sdr]
  · rfl
@[simp] theorem execBootPortProbe_sidereal (found) (s : State) :
    siderealAfter (execBootPortProbe found s) = some s.sdr := by
  unfold execBootPortProbe
  split
  · exact congrArg some (State.forEach_sdr _ _ _ fun _ _ => rfl)
  · rfl
@[simp] theorem execSqDoorbell_sidereal (r) (v) (s : State) : siderealAfter (execSqDoorbell r v s) = some s.sdr := by
  simp only [execSqDoorbell]
  split
  · simp
  · split
    · simp
    · split <;> simp
@[simp] theorem execEqDoorbell_sidereal (r) (v) (s : State) : siderealAfter (execEqDoorbell r v s) = some s.sdr := by
  simp only [execEqDoorbell]
  split
  · simp
  · split
    · simp
    · split <;> simp
@[simp] theorem execEntryFetch_sidereal (entries) (s : State) :
    siderealAfter (execEntryFetch entries s) = some s.sdr := by
  simp only [execEntryFetch]
  split
  · simp
  · split <;> simp
@[simp] theorem execEventPost_sidereal (t) (s : State) : siderealAfter (execEventPost t s) = some s.sdr := by
  simp only [execEventPost]
  split
  · simp
  · split <;> simp
@[simp] theorem execSpoolRead_sidereal (r) (s : State) : siderealAfter (execSpoolRead r s) = some s.sdr :=
  congrArg some <| State.runEntry_sdr _ _ _ _ _ fun e t => State.withPool_sdr _ _ _ _ fun u => by
    dsimp only
    split
    · simp
    · split <;> simp
@[simp] theorem execDescriptorFetch_sidereal (ch) (d) (table) (s : State) :
    siderealAfter (execDescriptorFetch ch d table s) = some s.sdr := by
  simp only [execDescriptorFetch]
  split
  · simp
  · split
    · split
      · simp
      · split <;> simp
    · simp
@[simp] theorem execDmaBeat_sidereal (host) (s : State) : siderealAfter (execDmaBeat host s) = some s.sdr := by
  simp only [execDmaBeat]
  split
  · simp
  · split <;> simp
@[simp] theorem execBandFetchRequest_sidereal (k) (s : State) :
    siderealAfter (execBandFetchRequest k s) = some s.sdr := by
  simp only [execBandFetchRequest]
  split
  · simp
  · split <;> simp
@[simp] theorem execLaneGrant_sidereal (s : State) : siderealAfter (execLaneGrant s) = some s.sdr := by
  simp only [execLaneGrant]
  split
  · simp
  · split
    · simp
    · split
      · simp
      · split <;> simp
@[simp] theorem execSliceEnd_sidereal (lane) (upset) (s : State) :
    siderealAfter (execSliceEnd lane upset s) = some s.sdr := by
  simp only [execSliceEnd]
  split <;> simp
@[simp] theorem execRowCompute_sidereal (k) (m) (fault) (s : State) :
    siderealAfter (execRowCompute k m fault s) = some s.sdr := by
  simp only [execRowCompute]
  split
  · split <;> simp
  · simp
@[simp] theorem execAckTimeout_sidereal (p) (row) (s : State) :
    siderealAfter (execAckTimeout p row s) = some s.sdr := by
  simp only [execAckTimeout]
  split <;> simp
@[simp] theorem execAckDeadline_sidereal (p) (row) (s : State) :
    siderealAfter (execAckDeadline p row s) = some s.sdr := by
  simp only [execAckDeadline]
  split <;> simp
@[simp] theorem execOccWindowEnd_sidereal (s : State) : siderealAfter (execOccWindowEnd s) = some s.sdr := by
  simp only [execOccWindowEnd]
  split <;> simp
@[simp] theorem execCompressLaneDone_sidereal (lane) (s : State) :
    siderealAfter (execCompressLaneDone lane s) = some s.sdr := by
  simp only [execCompressLaneDone]
  split <;> simp
@[simp] theorem execOutputPulseEnd_sidereal (o) (s : State) : siderealAfter (execOutputPulseEnd o s) = some s.sdr := by
  simp only [execOutputPulseEnd]
  split <;> simp
@[simp] theorem execDispatchIssue_sidereal (s : State) : siderealAfter (execDispatchIssue s) = some s.sdr := by
  simp only [execDispatchIssue]
  split <;> simp
@[simp] theorem execEstimatorRecord_sidereal (m) (disagree) (s : State) :
    siderealAfter (execEstimatorRecord m disagree s) = some s.sdr := by
  simp only [execEstimatorRecord]
  split <;> simp
@[simp] theorem execFeedStart_sidereal (s : State) : siderealAfter (execFeedStart s) = some s.sdr := by
  simp only [execFeedStart]
  split
  · simp
  · split <;> simp
@[simp] theorem execFeedComplete_sidereal (s : State) : siderealAfter (execFeedComplete s) = some s.sdr := by
  simp only [execFeedComplete]
  split <;> simp
@[simp] theorem execMemorySliceProcess_sidereal (s : State) :
    siderealAfter (execMemorySliceProcess s) = some s.sdr := by
  simp only [execMemorySliceProcess]
  split
  · simp
  · split <;> simp
@[simp] theorem execRecordWritten_sidereal (record) (s : State) :
    siderealAfter (execRecordWritten record s) = some s.sdr := by
  simp only [execRecordWritten]
  split <;> simp
@[simp] theorem execCciTransferDone_sidereal (c) (acked) (data) (s : State) :
    siderealAfter (execCciTransferDone c acked data s) = some s.sdr := by
  simp only [execCciTransferDone]
  split <;> simp
@[simp] theorem execFunctionStopComplete_sidereal (f) (s : State) :
    siderealAfter (execFunctionStopComplete f s) = some s.sdr := by
  simp only [execFunctionStopComplete]
  split <;> simp
@[simp] theorem execServiceState_sidereal (r) (s : State) : siderealAfter (execServiceState r s) = some s.sdr :=
  congrArg some (State.mailbox_sdr _ _ _ _ fun _ _ _ => State.mbRun_sdr _ _ _ _ _ _ _ fun _ => rfl)
@[simp] theorem execRollbackCommit_sidereal (r) (s : State) : siderealAfter (execRollbackCommit r s) = some s.sdr :=
  congrArg some (State.mailbox_sdr _ _ _ _ fun _ _ _ => State.mbRun_sdr _ _ _ _ _ _ _ fun _ => rfl)
@[simp] theorem execPatchAccept_sidereal (src) (s : State) : siderealAfter (execPatchAccept src s) = some s.sdr := by
  simp only [execPatchAccept]
  split
  · simp
  · split <;> simp
@[simp] theorem execBucketLeak_sidereal (b) (s : State) : siderealAfter (execBucketLeak b s) = some s.sdr := by
  simp only [execBucketLeak]
  split
  · simp
  · split <;> simp
@[simp] theorem execCaParityAlert_sidereal (c) (failures) (s : State) :
    siderealAfter (execCaParityAlert c failures s) = some s.sdr := by
  simp only [execCaParityAlert]
  split
  · simp
  · split
    · simp
    · split <;> simp
@[simp] theorem execBarBadAccess_sidereal (a) (s : State) : siderealAfter (execBarBadAccess a s) = some s.sdr := by
  simp only [execBarBadAccess]
  split
  · simp
  · split <;> simp
@[simp] theorem execOvertempStop_sidereal (sensor) (s : State) :
    siderealAfter (execOvertempStop sensor s) = some s.sdr := by
  simp only [execOvertempStop]
  split
  · simp only [siderealAfter_next, State.coldReset_sdr]
    split <;> simp
  · rfl
@[simp] theorem execFunctionStop_sidereal (r) (s : State) : siderealAfter (execFunctionStop r s) = some s.sdr :=
  congrArg some <| State.runEntry_sdr _ _ _ _ _ fun e t => by split <;> simp
@[simp] theorem execFunctionRestart_sidereal (r) (s : State) : siderealAfter (execFunctionRestart r s) = some s.sdr :=
  congrArg some <| State.runEntry_sdr _ _ _ _ _ fun e t => by split <;> simp
@[simp] theorem execFunctionGapEffect_sidereal (f) (s : State) :
    siderealAfter (execFunctionGapEffect f s) = some s.sdr := by
  simp only [execFunctionGapEffect]
  split <;> simp
@[simp] theorem execFunctionRestartComplete_sidereal (f) (finds) (s : State) :
    siderealAfter (execFunctionRestartComplete f finds s) = some s.sdr := by
  simp only [execFunctionRestartComplete]
  split <;> simp

end Sys2Proof.Machine
end

section
/-!
The copy of Sidereal's seconds (R83): who takes it, who reads it, and that no other command changes it.
-/
namespace Sys2Proof.Machine
open Sys2Proof

section
variable {s : State}

namespace State

/-! ## What acts on Sidereal and leaves the copy (R84, R86, R87) -/

theorem sdrAlarm_secCopy (n : Fin 2) (s : State) : (s.sdrAlarm n).sdr.secCopy = s.sdr.secCopy := by
  unfold sdrAlarm
  split <;> rfl

theorem sdrCount_secCopy (s : State) : s.sdrCount.secCopy = s.sdr.secCopy := by
  unfold sdrCount
  split
  · rfl
  · split <;> rfl

theorem sdrArmBits_secCopy (v : Word) (n : Fin 2) (s : State) : (s.sdrArmBits v n).sdr.secCopy = s.sdr.secCopy := by
  unfold sdrArmBits
  split
  · rfl
  · split <;> rfl

theorem sdrCtrl_secCopy (v : Word) (s : State) : (s.sdrCtrl v).sdr.secCopy = s.sdr.secCopy := by
  unfold sdrCtrl
  split
  · exact congrArg Sidereal.secCopy (refuseWrite_sdr ..)
  · refine (forEach_keeps (·.sdr.secCopy) _ (fun n t => sdrArmBits_secCopy v n t) _ _).trans ?_
    split <;> rfl

theorem writeSdrStatus_secCopy (v : Word) (s : State) : (s.writeSdrStatus v).sdr.secCopy = s.sdr.secCopy := rfl

/-! ## Register writes (R31) -/

/-- Of the registers whose writes act, only SDR_CTRL and SDR_STATUS reach Sidereal. -/
theorem specialWrite_secCopy (off : Nat) (v : Word) (s : State) :
    (s.specialWrite off v).map (·.sdr.secCopy) = (s.specialWrite off v).map fun _ => s.sdr.secCopy := by
  simp only [specialWrite]
  split
  case h_7 =>
    split
    · simp
    · split
      · simp
      · split <;> simp [Function.comp_def]
  all_goals simp [apply_ite (Option.map _), Option.map_bind, Function.comp_def, sdrCtrl_secCopy, writeSdrStatus_secCopy]

theorem writeReg_secCopy (off : Nat) (v : Word) (s : State) : (s.writeReg off v).sdr.secCopy = s.sdr.secCopy := by
  have hspecial := specialWrite_secCopy off v s
  unfold writeReg
  split
  · rfl
  · split
    · next t ht =>
      rw [ht] at hspecial
      exact Option.some.inj hspecial
    · exact congrArg Sidereal.secCopy (storeReg_sdr ..)

theorem bar0Write_secCopy (off : Nat) (v : Word) (s : State) : (s.bar0Write off v).sdr.secCopy = s.sdr.secCopy := by
  have hin : (s.hostIn 4).sdr.secCopy = s.sdr.secCopy := congrArg Sidereal.secCopy (hostIn_sdr 4 s)
  unfold bar0Write
  split
  · exact hin
  · exact (writeReg_secCopy off v _).trans hin

/-! ## Reads (R83, R93) -/

/-- R83: a read of BAR0 takes the copy only at SDR_SUB. -/
theorem bar0Read_sdr {off : Nat} (h : off ≠ aSdr 0) (s : State) : (s.bar0Read off).1.sdr = s.sdr := by
  simp [bar0Read, h]

/-- A register whose pair is not read through a held HI register, and that stores nothing, reads what hardware drives. -/
theorem readReg_of_ro {off : Nat} {i : RegInfo} (hinfo : regInfo off = some i) (hrw : i.rw = 0)
    (hlo : snapshotLo (off - 4) = false) : s.readReg off = BitVec.ofNat 32 (s.roBits off) := by
  simp [readReg, hinfo, hrw, hlo]

/-- R83: SDR_SEC_LO and SDR_SEC_HI read the copy. -/
theorem readReg_sdrSec (s : State) : s.readReg (aSdr 4) = BitVec.ofNat 32 (s.sdr.secCopy % 2 ^ 32) ∧
    s.readReg (aSdr 8) = BitVec.ofNat 32 (s.sdr.secCopy / 2 ^ 32 % 2 ^ 16) := by
  have hhi : s.roBits (aSdr 8) = s.sdr.secCopy / 2 ^ 32 % 2 ^ 32 % 65536 := rfl
  rw [readReg_of_ro (i := .ro) rfl rfl rfl, readReg_of_ro (i := .ro) rfl rfl rfl, hhi, Nat.mod_mod_of_dvd _ (by decide)]
  exact ⟨rfl, rfl⟩

theorem bar0Read_sdrSub (hready : s.sys.fwReady = true) :
    s.bar0Read (aSdr 0) = (s.onSdr fun d => { d with secCopy := d.sec }, s.readReg (aSdr 0)) := by
  obtain ⟨hboot, hlisted⟩ := bar0Read_answers hready (off := aSdr 0) rfl
  simp only [bar0Read, hboot, hlisted]
  rfl

theorem bar0Read_sdrSec (hready : s.sys.fwReady = true) : s.bar0Read (aSdr 4) = (s, s.readReg (aSdr 4)) ∧
    s.bar0Read (aSdr 8) = (s, s.readReg (aSdr 8)) := by
  obtain ⟨hboot, hlisted⟩ := bar0Read_answers hready (off := aSdr 4) rfl
  obtain ⟨hboot', hlisted'⟩ := bar0Read_answers hready (off := aSdr 8) rfl
  simp only [bar0Read, hboot, hlisted, hboot', hlisted']
  exact ⟨rfl, rfl⟩

theorem fwReady_of_hostUp (h : s.hostUp = true) : s.sys.fwReady = true := by
  simp only [hostUp, up, Bool.and_eq_true] at h
  exact h.1.1.2

theorem mainRails_of_bar0Up (h : s.bar0Up = true) : s.sys.mainRails = true := by
  simp only [bar0Up, clear, Bool.and_eq_true] at h
  exact h.1.1.1.2

end State

theorem State.reply_out (v : Word) (s : State) : (s.reply v).out = s.out ++ [.readReply v] := by
  obtain ⟨p, hp⟩ := s.hostOut_pmcOnly 4
  rw [State.reply, hp]
  rfl

theorem aSdr_toNat {j : Nat} (h : j < 2 ^ 12) : (aSdr j : BitVec 26).toNat = aSdr j := by
  simp only [aSdr, BitVec.natCast_eq_ofNat, BitVec.toNat_ofNat]
  omega

/-! ## Every command (R83) -/

/-- The copy of the seconds stands in the state that a command answers with, if it answers with one. -/
def CopyHolds (s : State) (o : Result) : Prop := ∀ t, o = .next t → t.sdr.secCopy = s.sdr.secCopy

theorem copyHolds_next {t : State} (h : t.sdr.secCopy = s.sdr.secCopy) : CopyHolds s (.next t) := by
  rintro _ ⟨⟩
  exact h

theorem copyHolds_next_ite {c : Prop} [Decidable c] {t : State} (h : t.sdr.secCopy = s.sdr.secCopy) :
    CopyHolds s (.next (if c then t else s)) := by
  split
  · exact copyHolds_next h
  · exact copyHolds_next rfl

theorem copyHolds_of_sidereal {o : Result} (h : siderealAfter o = some s.sdr) : CopyHolds s o := by
  rintro t rfl
  exact congrArg Sidereal.secCopy (Option.some.inj h)

theorem execSiderealTick_copyHolds : CopyHolds s (execSiderealTick s) :=
  copyHolds_next ((State.sdrAlarm_secCopy 1 _).trans ((State.sdrAlarm_secCopy 0 _).trans s.sdrCount_secCopy))

/-- R84, R86: a host's write of SDR_CTRL. -/
theorem writeSdrCtrl_copyHolds (v : Word) : CopyHolds s (.next (if s.sdrReach then (s.hostIn 4).sdrCtrl v else s)) :=
  copyHolds_next_ite ((State.sdrCtrl_secCopy v _).trans (congrArg Sidereal.secCopy (State.hostIn_sdr 4 s)))

theorem execComparatorSample_copyHolds (n : Fin 4) (level : Nat) : CopyHolds s (execComparatorSample n level s) := by
  unfold execComparatorSample
  split
  · exact copyHolds_next rfl
  · extract_lets c fed crossed t
    have hfed : fed.sdr = s.sdr := by simp [fed]
    have ht : t.sdr.secCopy = s.sdr.secCopy := show fed.sdr.secCopy = _ by rw [hfed]
    refine copyHolds_next ?_
    split
    · exact ht
    · exact ht

theorem execLpsWrite_copyHolds (v : Word) : CopyHolds s (execLpsWrite v s) :=
  copyHolds_next_ite ((State.writeReg_secCopy _ v _).trans (congrArg Sidereal.secCopy (State.hostIn_sdr 4 s)))

theorem execRegisterWrite_copyHolds (off : BitVec 26) (data : WriteData) : CopyHolds s (execRegisterWrite off data s) := by
  have hfirst := State.bar0Write_secCopy off.toNat data.first s
  unfold execRegisterWrite
  refine copyHolds_next ?_
  split
  · rfl
  · split
    · exact congrArg Sidereal.secCopy (State.badBar0_sdr s)
    · extract_lets t
      split
      · split
        · exact (State.bar0Write_secCopy _ _ t).trans hfirst
        · exact hfirst
      · exact hfirst

/-- R93: the second double word of an aligned read of two does not lie at SDR_SUB. -/
theorem execSnapshotLoRead_copyHolds {read : ReadRequest} (h : read.off.toNat ≠ aSdr 0) :
    CopyHolds s (execSnapshotLoRead read s) := by
  have hfirst := State.bar0Read_sdr h s
  unfold execSnapshotLoRead
  refine copyHolds_next ?_
  split
  · rfl
  · split
    · simp
    · next halign =>
      split
      · next htwo =>
        have hsecond : read.off.toNat + 4 ≠ aSdr 0 := by
          simp [State.aligned, htwo] at halign
          simp only [aSdr]
          omega
        simp [State.bar0Read_sdr hsecond, hfirst]
      · simp [hfirst]

/-- R81, R83: no command but a read of SDR_SUB and Sidereal's own power-on reset changes the copy.
Most do not reach Sidereal. -/
theorem exec_copyHolds (c : Instr) (s : State) : CopyHolds s (exec c s) ∨ c = .sdrSubRead ∨
    (∃ two, c = .snapshotLoRead ⟨aSdr 0, two⟩) ∨ c = .siderealPowerOnReset := by
  cases c with
  | sdrSubRead => exact .inr (.inl rfl)
  | siderealPowerOnReset => exact .inr (.inr (.inr rfl))
  | snapshotLoRead read =>
    by_cases h : read.off.toNat = aSdr 0
    · have hoff : read.off = (aSdr 0 : BitVec 26) := BitVec.eq_of_toNat_eq h
      exact .inr (.inr (.inl ⟨read.two, by rw [← hoff]⟩))
    · exact .inl (execSnapshotLoRead_copyHolds h)
  | siderealTick => exact .inl execSiderealTick_copyHolds
  | sdrLoad v => exact .inl (writeSdrCtrl_copyHolds v)
  | sdrArm n v => exact .inl (writeSdrCtrl_copyHolds v)
  | sdrDisarm n v => exact .inl (writeSdrCtrl_copyHolds v)
  | comparatorSample n level => exact .inl (execComparatorSample_copyHolds n level)
  | registerWrite off data => exact .inl (execRegisterWrite_copyHolds off data)
  | lpsWrite v => exact .inl (execLpsWrite_copyHolds v)
  | _ =>
    refine .inl (copyHolds_of_sidereal ?_)
    simp [exec, execPorstNAssert, execPorstNRelease, execSupplyMonitorTrip, execRefclkLoss, execOvertempWarning,
      execOvertempRecovered, execSysrstNAssert, execSysrstNRelease, execRstCtrlWarm, execCoreWatchdogExpiry,
      execWarmResetEnd, execRefclkReturn, execSupplyRecovered, execMainRailsOff, execMainPllLock, execOtpReadDone,
      execHbmTrainingDone, execBootSlotVerifyDone, execBootAwaitHost, execBootGo, execHostImageVerifyDone,
      execFirmwareReady, execRingEnable, execRingDisable, execRingDrainComplete, execMsixModerationTimeout,
      execMsixUnmask, execHifHb, execHeartbeatTimeout, execNop, execJobOpen, execJobClose, execSheet, execBandWrite,
      execBandGather, execSpoolReservation, execContainerLanded, execMoveAbs, execMoveRel, execJog, execGear,
      execStop, execResume, execHome, execSetPos, execQuickStop, execClear, execQueueMove, execAxisAtRest,
      execAxisEncoderTransition, execAxisEncoderZEdge, execStallDetect, execSwitchChange, execDmaGo, execDmaReady,
      execDmaAbort, execDmaClear, execDmaChainDone, execTableLoad, execTrimEpochBoundary, execTrimTargetCommit,
      execRowWrite, execRowTransmit, execRowReplay, execRowFrameEnd, execRespRx, execDeliveryDeadline,
      execNozzleStopHoldoffExpiry, execTrainT0Elapsed, execTrainRx, execTrainTimeout, execPongRx, execConfigEchoRx,
      execConfigEchoTimeout, execHeartbeatTx, execModuleHeartbeatRx, execModuleHeartbeatLoss, execRxBlockLockLoss,
      execRxBlockLockAcquire, execLinkFaultRx, execInvalidBlockRx, execAlignRx, execAlignTx, execTempStale,
      execNozzleRx, execRefreshTx, execRefreshRx, execAdaptationFreeze, execAdaptationResume, execPortFaultBurstEnd,
      execEyeScanStart, execEyeScanDone, execOccStart, execOccAbort, execOccGateEdge, execFireCommit,
      execStrobeLeadingEdge, execStrobeTrailingEdge, execStrobeWatchdogTrip, execEstopAssert, execEstopRelease,
      execEstopHoldoffExpiry, execCalBatch, execTempRx, execCompress, execTimeSlotDue, execPredictedSlotDue,
      execSlotArm, execSlotDisarm, execMerIncWrite, execGpioCaptureEdge, execPtpEventRx, execPtpEventTx,
      execPtpOffsetSample, execAnnounceLoss, execAnnounceRx, execPtpMasterChange, execPtpResume, execMerTimeFracRead,
      execSheetEdge, execSheetEdgeCapture, execPressRunChange, execRejectPulseEnd, execPinCheckFault,
      execEncoderTransition, execEncoderZEdge, execEncoderIdleTimeout, execEstimatorHistoryClear, execCsiFrameStart,
      execCsiLine, execCsiFrameEnd, execCameraNoFsTimeout, execPsetCommit, execCciHostTransfer, execFfDataWrite,
      execLedgerAppend, execVersion, execLedgerClear, execLedgerRead, execHealthSnapshot, execEcho,
      execPmcCounterWrap, execPmcSampleTaken, execBwWindowEnd, execBtDataRx, execBtGapTimeout, execFirmwareFrameRx,
      execEthLinkLoss, execEthLinkUp, execEthBtCntRead, execOverlayPatch, execOverlayInputWord, execOverlayItemRead,
      execOvlFlush, execOvlFlushDone, execSpoolRequestServe, execHbmScrubRead, execSramScrubRead,
      execSelfRefreshEntry, execScrubWake, execFlipArm, execBar4Read, execBar4Write, execLinkLoss, execLinkReturn,
      execHostAccessFail]

end

/-- Settles O52: the reads of the copy one by one, then every command, then the tick. -/
theorem secondsCopyHoldsUntilTheNextRead : Obligations.SecondsCopyHoldsUntilTheNextRead := by
  unfold Obligations.SecondsCopyHoldsUntilTheNextRead
  refine ⟨fun s hup hbar => ⟨?sub, ?low, ?secLo, ?secHi⟩,
    fun c s t h => (exec_copyHolds c s).imp_left fun hc => hc t h,
    State.clockTick_sdr⟩
  case sub =>
    have hreach : s.sdrReach = true := by rw [State.sdrReach, hup, State.mainRails_of_bar0Up hbar]; rfl
    have hread := exec_sdrSubRead hreach
    obtain ⟨p, hp⟩ := s.hostOut_pmcOnly 4
    rw [hp] at hread
    exact ⟨_, hread, rfl, rfl, rfl⟩
  case low =>
    have hread := exec_read (off := (aSdr 0 : BitVec 26)) rfl hbar
    rw [aSdr_toNat (by decide), State.bar0Read_sdrSub (State.fwReady_of_hostUp hup)] at hread
    exact ⟨_, hread, State.reply_sdr ..⟩
  case secLo =>
    have hread := exec_read (off := (aSdr 4 : BitVec 26)) rfl hbar
    rw [aSdr_toNat (by decide), (State.bar0Read_sdrSec (State.fwReady_of_hostUp hup)).1, (State.readReg_sdrSec s).1] at hread
    exact ⟨_, hread, State.reply_sdr .., State.reply_out ..⟩
  case secHi =>
    have hread := exec_read (off := (aSdr 8 : BitVec 26)) rfl hbar
    rw [aSdr_toNat (by decide), (State.bar0Read_sdrSec (State.fwReady_of_hostUp hup)).2, (State.readReg_sdrSec s).2] at hread
    exact ⟨_, hread, State.reply_sdr .., State.reply_out ..⟩

end Sys2Proof.Machine
end
